-- ==== Sys2Proof/Word.lean ====
section
/-! DEFINITION. The byte, and the small fixed collections the N416 is built of: one thing for each of four cameras,
three slots of a ring, eight lines. Plain structures with a read and a write by index. -/

namespace Sys2Proof

/-- A byte of a record, a table or a memory. -/
abbrev Byte := BitVec 8

/-- A camera, port or channel index, or a layout slot index (00_scope.md, Names). -/
abbrev Cam := Fin 4

/-- One of each of four: cameras, ports, channels, layout slots. -/
structure Quad (α : Type) where
  c0 : α
  c1 : α
  c2 : α
  c3 : α
deriving DecidableEq, Repr

def Quad.fill {α : Type} (a : α) : Quad α := ⟨a, a, a, a⟩

def Quad.get {α : Type} (q : Quad α) : Fin 4 → α
  | 0 => q.c0
  | 1 => q.c1
  | 2 => q.c2
  | 3 => q.c3

def Quad.set {α : Type} (q : Quad α) (i : Fin 4) (a : α) : Quad α :=
  match i with
  | 0 => { q with c0 := a }
  | 1 => { q with c1 := a }
  | 2 => { q with c2 := a }
  | 3 => { q with c3 := a }

/-- The four indices in order. -/
def allCams : List Cam := [0, 1, 2, 3]

/-- The member at `i` is `f i`. -/
def Quad.build {α : Type} (f : Fin 4 → α) : Quad α := ⟨f 0, f 1, f 2, f 3⟩

/-- One of each of three: the slots of a ring (R15). -/
structure Tri (α : Type) where
  t0 : α
  t1 : α
  t2 : α
deriving DecidableEq, Repr

def Tri.fill {α : Type} (a : α) : Tri α := ⟨a, a, a⟩

def Tri.get {α : Type} (q : Tri α) : Fin 3 → α
  | 0 => q.t0
  | 1 => q.t1
  | 2 => q.t2

def Tri.set {α : Type} (q : Tri α) (i : Fin 3) (a : α) : Tri α :=
  match i with
  | 0 => { q with t0 := a }
  | 1 => { q with t1 := a }
  | 2 => { q with t2 := a }

def Tri.map {α β : Type} (f : α → β) (q : Tri α) : Tri β := ⟨f q.t0, f q.t1, f q.t2⟩

/-- One of each of eight: the vehicle lines, the proximity sensors. -/
structure Oct (α : Type) where
  l0 : α
  l1 : α
  l2 : α
  l3 : α
  l4 : α
  l5 : α
  l6 : α
  l7 : α
deriving DecidableEq, Repr

def Oct.fill {α : Type} (a : α) : Oct α := ⟨a, a, a, a, a, a, a, a⟩

def Oct.get {α : Type} (q : Oct α) : Fin 8 → α
  | 0 => q.l0
  | 1 => q.l1
  | 2 => q.l2
  | 3 => q.l3
  | 4 => q.l4
  | 5 => q.l5
  | 6 => q.l6
  | 7 => q.l7

def Oct.set {α : Type} (q : Oct α) (i : Fin 8) (a : α) : Oct α :=
  match i with
  | 0 => { q with l0 := a }
  | 1 => { q with l1 := a }
  | 2 => { q with l2 := a }
  | 3 => { q with l3 := a }
  | 4 => { q with l4 := a }
  | 5 => { q with l5 := a }
  | 6 => { q with l6 := a }
  | 7 => { q with l7 := a }

def Oct.build {α : Type} (f : Fin 8 → α) : Oct α := ⟨f 0, f 1, f 2, f 3, f 4, f 5, f 6, f 7⟩

def Oct.toList {α : Type} (q : Oct α) : List α :=
  [q.l0, q.l1, q.l2, q.l3, q.l4, q.l5, q.l6, q.l7]

end Sys2Proof
end

