-- ==== Sys2Proof/Syntax.lean ====
section
/-! DEFINITION. The commands of the N416: one constructor for each row of spec/opcode_table.json, with the operands the
row's rule gives it. A request command carries its tag and the payload fields of the formats section (R171), each as
wide as its bytes, so that every value the wire can carry, in range or not, can be named. -/

namespace Sys2Proof

inductive Instr where
  /-- POWER_ON (R154): power is applied. -/
  | powerOn
  /-- RESET_FULL (R168): a RESET request naming FULL. -/
  | resetFull (tag : Byte)
  /-- RESET_VIEW (R169): a RESET request naming VIEW. -/
  | resetView (tag : Byte)
  /-- LOCK_GAINED (R9): a camera link passes from unlocked to locked. -/
  | lockGained (port : Cam)
  /-- LOCK_LOST (R9): a camera link passes from locked to unlocked. -/
  | lockLost (port : Cam)
  /-- FRAME_START_MARK (R16). -/
  | frameStartMark (port : Cam)
  /-- LINE_RECEIVED (R2): a camera line ends; one luma byte and one chroma byte for each of its pixels. -/
  | lineReceived (port : Cam) (pixels : List (Byte × Byte))
  /-- FRAME_END_MARK (R3): with the line count and the attention flag it carries. -/
  | frameEndMark (port : Cam) (lineCount : Nat) (attention : Bool)
  /-- STALENESS_TIMER_EXPIRY (R12). -/
  | stalenessTimerExpiry (port : Cam)
  /-- DRAM_WRITE_COMPLETE (R20). -/
  | dramWriteComplete
  /-- SOURCE_READ_COMPLETE (R56). -/
  | sourceReadComplete
  /-- BAND_COMPLETION (R53): the output stage of the band ends. -/
  | bandCompletion (band : Fin 18)
  /-- FRAME_START (R147). -/
  | frameStart
  /-- BAND_START (R54). -/
  | bandStart (band : Fin 18)
  /-- BAND_END (R53). -/
  | bandEnd (band : Fin 18)
  /-- TURNOVER (R147). -/
  | turnover
  /-- REQUEST_RECORD (R157): a record on the return channel, type byte and CRC included. -/
  | requestRecord (bytes : List Byte)
  /-- UNKNOWN_KIND (R160): a request of an unlisted kind. -/
  | unknownKind (tag kind : Byte) (payload : List Byte)
  /-- LOAD_BEGIN (R162). -/
  | loadBegin (tag table slot camera : Byte) (total : BitVec 16) (crc : BitVec 32)
  /-- LOAD_DATA (R163). -/
  | loadData (tag : Byte) (segment : BitVec 16) (data : List Byte)
  /-- LOAD_END (R164). -/
  | loadEnd (tag : Byte)
  /-- LOAD_ABORT (R165). -/
  | loadAbort (tag : Byte)
  /-- TABLE_READ (R161). -/
  | tableRead (tag table slot camera : Byte) (offset : BitVec 16) (length : Byte)
  /-- BIND_MODE (R102). -/
  | bindMode (tag mode slot : Byte)
  /-- SET_VIEW (R106). -/
  | setView (tag mode : Byte)
  /-- RELEASE_VIEW (R106). -/
  | releaseView (tag : Byte)
  /-- ELEMENT_WRITE (R94): an element index and a whole element record. -/
  | elementWrite (tag index : Byte) (record : List Byte)
  /-- ELEMENT_CLEAR (R94). -/
  | elementClear (tag index : Byte)
  /-- CAM_XFER (R138). -/
  | camXfer (tag camera device direction : Byte) (register : BitVec 16) (count : Byte) (data : List Byte)
  /-- LINE_CONFIG (R116). -/
  | lineConfig (tag line function polarity debounce role edge source : Byte)
  /-- LINES_SET (R122). -/
  | linesSet (tag mask : Byte)
  /-- LINES_CLEAR (R122). -/
  | linesClear (tag mask : Byte)
  /-- EVENT_ENABLE (R167): bit e of the mask is event e. -/
  | eventEnable (tag : Byte) (mask : BitVec 24)
  /-- EVENT_ACK (R167). -/
  | eventAck (tag : Byte) (mask : BitVec 24)
  /-- STORE_WRITE (R175). -/
  | storeWrite (tag : Byte) (offset : BitVec 16) (data : List Byte)
  /-- STORE_READ (R175). -/
  | storeRead (tag : Byte) (offset : BitVec 16)
  /-- VEHICLE_DATA_RECORD (R125): a record on the return channel, type byte and CRC included. -/
  | vehicleDataRecord (bytes : List Byte)
  /-- STALE_EXPIRY (R127). -/
  | staleExpiry
  /-- LOST_EXPIRY (R127). -/
  | lostExpiry
  /-- RAW_CHANGE (R117): the electrical level of a line's pin becomes high (`true`) or low. -/
  | rawChange (line : Fin 8) (level : Bool)
  /-- DEBOUNCE_TIMER_EXPIRY (R117). -/
  | debounceTimerExpiry (line : Fin 8)
  /-- LOAD_TIMER_EXPIRY (R165). -/
  | loadTimerExpiry
  /-- CAMERA_ANSWER (R133): the camera's accept (`true`) or reject of a byte. -/
  | cameraAnswer (channel : Cam) (accept : Bool)
  /-- READ_BYTE (R134): a data byte the camera sends in a READ. -/
  | readByte (channel : Cam) (byte : Byte)
  /-- STEP_TIMER_EXPIRY (R135). -/
  | stepTimerExpiry (channel : Cam)
  /-- STOP_MARK_SENT (R145). -/
  | stopMarkSent (channel : Cam)
  /-- PAGE_WRITE_COMPLETE (R175). -/
  | pageWriteComplete
  /-- WRITE_TIMER_EXPIRY (R175). -/
  | writeTimerExpiry
  /-- STORE_READ_COMPLETE (R175); `answered` is false where the memory does not answer the read (R172). -/
  | storeReadComplete (answered : Bool)
  /-- BOOT_WAIT_EXPIRY (R172). -/
  | bootWaitExpiry
  /-- BOOT_HEADER_READ (R173). -/
  | bootHeaderRead (answered : Bool)
  /-- BOOT_ENTRY_READ (R174). -/
  | bootEntryRead (answered : Bool)
deriving DecidableEq, Repr

end Sys2Proof
end

