-- ==== Sys2Proof/WellFormed.lean ====
section
/-! DEFINITION. Which commands the wire can carry: the lengths of the byte lists in a request's payload (formats
section of 10_requests_loads_and_attention.md), and an unlisted kind for UNKNOWN_KIND. Every other operand's type
admits exactly the values its field can hold. `exec` gives ill-formed commands a next state too: a request whose
payload length is not one its kind allows is answered BAD-ARGUMENT, and one above 56 bytes is discarded (R157, R160). -/

namespace Sys2Proof

/-- The kind codes the formats section lists. -/
def listedKinds : List Nat :=
  [0x01, 0x02, 0x03, 0x04, 0x05, 0x10, 0x11, 0x12, 0x20, 0x21, 0x30, 0x40, 0x41, 0x42, 0x50, 0x51, 0x60, 0x61, 0x70]

/-- The command is one that the return channel and the pins can carry. -/
def Instr.wf : Instr → Bool
  | .unknownKind _ kind payload => decide (kind.toNat ∉ listedKinds) && decide (payload.length ≤ 56)
  | .loadData _ _ data => decide (data.length ≤ 48)
  | .elementWrite _ _ record => decide (record.length = 32)
  | .camXfer _ _ _ _ _ _ data => decide (data.length ≤ 16)
  | .storeWrite _ _ data => decide (data.length = 32)
  | .powerOn => true
  | .resetFull _ => true
  | .resetView _ => true
  | .lockGained _ => true
  | .lockLost _ => true
  | .frameStartMark _ => true
  | .lineReceived _ _ => true
  | .frameEndMark _ _ _ => true
  | .stalenessTimerExpiry _ => true
  | .dramWriteComplete => true
  | .sourceReadComplete => true
  | .bandCompletion _ => true
  | .frameStart => true
  | .bandStart _ => true
  | .bandEnd _ => true
  | .turnover => true
  | .requestRecord _ => true
  | .loadBegin _ _ _ _ _ _ => true
  | .loadEnd _ => true
  | .loadAbort _ => true
  | .tableRead _ _ _ _ _ _ => true
  | .bindMode _ _ _ => true
  | .setView _ _ => true
  | .releaseView _ => true
  | .elementClear _ _ => true
  | .lineConfig _ _ _ _ _ _ _ _ => true
  | .linesSet _ _ => true
  | .linesClear _ _ => true
  | .eventEnable _ _ => true
  | .eventAck _ _ => true
  | .storeRead _ _ => true
  | .vehicleDataRecord _ => true
  | .staleExpiry => true
  | .lostExpiry => true
  | .rawChange _ _ => true
  | .debounceTimerExpiry _ => true
  | .loadTimerExpiry => true
  | .cameraAnswer _ _ => true
  | .readByte _ _ => true
  | .stepTimerExpiry _ => true
  | .stopMarkSent _ => true
  | .pageWriteComplete => true
  | .writeTimerExpiry => true
  | .storeReadComplete _ => true
  | .bootWaitExpiry => true
  | .bootHeaderRead _ => true
  | .bootEntryRead _ => true

end Sys2Proof
end

