-- ==== Sys2Proof/Decode.lean ====
section
/-! DEFINITION. Which command a word spells by the table's bits. spec/opcode_table.json gives no row any bits
(98_reader.md: n_rows_with_fixed 0), so no word spells one. The records that do have a byte layout, requests, are
read in Machine/Operands.lean. -/

namespace Sys2Proof

/-- The command that an `nbits`-bit word `w` spells by the bits of spec/opcode_table.json: none, since no row has bits. -/
def decodeTableWord (_nbits _w : Nat) : Option Instr := none

end Sys2Proof
end

