-- ==== Sys2Proof/Config.lean ====
section
/-! DEFINITION. What the N416 fixes as numbers, by the rule that gives each, and the one free value the manual leaves open. -/

namespace Sys2Proof.Config

/-- Whether a page whose write ended with no report, or was abandoned by a reset, holds its new content:
"the page holds its old or its new content" (R172, R175). A free value (log 11): applied to `State.freeCount`. -/
opaque pageTakesNew : Nat → Bool

/-! Camera frame (R2, R3, R15). -/
def frameWidth : Nat := 1280
def frameHeight : Nat := 800
def lineBytes : Nat := 2560
def slotBytes : Nat := 2048000
def dramBytes : Nat := 24576000
/-- Line buffers of a port (R2). -/
def lineBuffers : Nat := 2
/-- Valid frames that qualify a port for LIVE (R10). -/
def acquireLimit : Nat := 3

/-! Durations in ms. -/
def stalenessMs : Nat := 100       -- R12
def staleMs : Nat := 200           -- R127
def lostMs : Nat := 2000           -- R127
def stepMs : Nat := 25             -- R135
def loadMs : Nat := 500            -- R162
def writeMs : Nat := 20            -- R175
def bootWaitMs : Nat := 20         -- R172

/-! Queues and limits. -/
def requestPlaces : Nat := 16      -- R158
def holdSet : Nat := 12            -- R158
def holdClear : Nat := 4           -- R158
def responsePlaces : Nat := 32     -- R159
def headerResponses : Nat := 8     -- R151
def passPlaces : Nat := 4          -- R138
def editPlaces : Nat := 16         -- R95
def maxPayload : Nat := 56         -- R157
def loadBuffer : Nat := 16384      -- R162
def zoneAgeMs : Nat := 500         -- R86
def gainMin : Nat := 128           -- R61
def gainMax : Nat := 512           -- R61
def gainStep : Nat := 4            -- R64
def seamCountMin : Nat := 1024     -- R63
def highTarget : Nat := 448        -- R68
def lowTarget : Nat := 160         -- R68
def nudgeRun : Nat := 30           -- R69
def settleTurnovers : Nat := 30    -- R70
def storeBytes : Nat := 65536      -- R172
def pageBytes : Nat := 32          -- R172
def storeReadBytes : Nat := 24     -- R175
def bootHeaderBytes : Nat := 12    -- R173

end Sys2Proof.Config
end

