-- ==== Sys2Proof/Machine/Bytes.lean ====
section
/-! DEFINITION. Byte order and the two cyclic redundancy checks, as the formats section gives them (R170), and reads of
a field at an offset of a record or a table. -/

namespace Sys2Proof.Machine

/-- The byte at an offset as a number; 0 past the end, which the callers' length tests rule out. -/
def byteAt (bs : List Byte) (i : Nat) : Nat := (bs.getD i 0).toNat

/-- Two bytes, most significant first (R170). -/
def u16At (bs : List Byte) (i : Nat) : Nat := byteAt bs i * 256 + byteAt bs (i + 1)

/-- Four bytes, most significant first (R170). -/
def u32At (bs : List Byte) (i : Nat) : Nat := u16At bs i * 65536 + u16At bs (i + 2)

/-- Two bytes as a two's complement number (R170). -/
def s16At (bs : List Byte) (i : Nat) : Int :=
  if u16At bs i < 32768 then (u16At bs i : Int) else (u16At bs i : Int) - 65536

/-- `len` bytes from `off`. -/
def sliceOf (bs : List Byte) (off len : Nat) : List Byte := (bs.drop off).take len

/-- A number as two bytes, most significant first. -/
def be16 (n : Nat) : List Byte := [BitVec.ofNat 8 (n / 256), BitVec.ofNat 8 n]

/-- A number as four bytes, most significant first. -/
def be32 (n : Nat) : List Byte := be16 (n / 65536) ++ be16 n

/-- A signed number as two bytes, most significant first. -/
def beInt (i : Int) : List Byte := be16 (i % 65536).toNat

/-- A 24-bit event mask as its three bytes: event e is in byte e div 8 at bit e mod 8 (formats section). -/
def mask24Bytes (m : BitVec 24) : List Byte := [m.extractLsb' 0 8, m.extractLsb' 8 8, m.extractLsb' 16 8]

/-- The event mask at an offset. -/
def mask24At (bs : List Byte) (i : Nat) : BitVec 24 := bs.getD (i + 2) 0 ++ bs.getD (i + 1) 0 ++ bs.getD i 0

/-- `n` times the shift of a CRC register whose top bit feeds back the CRC-16 polynomial. -/
def crc16Shift : Nat → BitVec 16 → BitVec 16
  | 0, c => c
  | n + 1, c => crc16Shift n (if c.msb then (c <<< 1) ^^^ 0x1021#16 else c <<< 1)

def crc16Byte (c : BitVec 16) (b : Byte) : BitVec 16 := crc16Shift 8 (c ^^^ (b.setWidth 16 <<< 8))

/-- CRC-16 (R170): polynomial 0x1021, initial value 0xFFFF, no reflection, no final XOR. -/
def crc16 (bs : List Byte) : BitVec 16 := bs.foldl crc16Byte 0xFFFF#16

/-- `n` times the shift of the reflected CRC-32 register; 0xEDB88320 is 0x04C11DB7 with its bits in reverse order. -/
def crc32Shift : Nat → BitVec 32 → BitVec 32
  | 0, c => c
  | n + 1, c => crc32Shift n (if c.getLsbD 0 then (c >>> 1) ^^^ 0xEDB88320#32 else c >>> 1)

def crc32Byte (c : BitVec 32) (b : Byte) : BitVec 32 := crc32Shift 8 (c ^^^ b.setWidth 32)

/-- CRC-32 (R170): polynomial 0x04C11DB7, initial value and final XOR 0xFFFFFFFF, input and output reflected. -/
def crc32 (bs : List Byte) : BitVec 32 := (bs.foldl crc32Byte 0xFFFFFFFF#32) ^^^ 0xFFFFFFFF#32

/-- A record with its CRC-16, sent most significant byte first, behind it (R170). -/
def withCrc16 (bs : List Byte) : List Byte := bs ++ be16 (crc16 bs).toNat

/-- The CRC-16 in a record's last two bytes matches the bytes before it (R157, R124). -/
def crc16Matches (bs : List Byte) : Bool :=
  decide (2 ≤ bs.length) && decide (u16At bs (bs.length - 2) = (crc16 (bs.take (bs.length - 2))).toNat)

/-- A camera or layout slot index, where a byte names one (0..3). -/
def index4 (n : Nat) : Option (Fin 4) := if h : n < 4 then some ⟨n, h⟩ else none

/-- A line or sensor index, where a byte names one (0..7). -/
def index8 (n : Nat) : Option (Fin 8) := if h : n < 8 then some ⟨n, h⟩ else none

end Sys2Proof.Machine
end

