-- ==== Sys2Proof/Machine/State.lean ====
section
/-! DEFINITION. The state of the N416, block by block as the spec's Block overview divides it, and every block's value at
power-on. Plain data: numbers, bytes, lists and closed inductives. A table in force is held as its bytes in the format
of the formats section ("returned as loaded", R25, R98, R170), and read through the named views of Machine/Tables.lean. -/

namespace Sys2Proof.Machine

/-- Why the part could stop: no reason. The spec describes no condition in which the N416 stops, so no command raises a
fault and the type has no constructor. Safe. -/
inductive Fault where
deriving DecidableEq, Repr

/-- Why a command could have no meaning. -/
inductive Refusal where
  /-- Raised by an arm of `exec` for a command that has no meaning yet; no arm raises it. Safe. -/
  | notModelled (mnemonic : String)
deriving DecidableEq, Repr

/-! ## Shared -/

/-- A timer of the part's own time base: the milliseconds it has to go, or expired and not yet started again (R12). -/
inductive Timer where
  | stopped
  | running (ms : Nat)
  | expired
deriving DecidableEq, Repr

/-- The five view modes (R100). -/
inductive Mode where
  | standby
  | panorama
  | turn
  | lift
  | kerb
deriving DecidableEq, Repr

/-- The vehicle-data states (R127). -/
inductive VdState where
  | none
  | fresh
  | stale
  | lost
deriving DecidableEq, Repr

/-- What a response needs of its request: the tag and the kind code (R151). -/
structure Ticket where
  tag : Byte
  kind : Byte
deriving DecidableEq, Repr

/-! ## Camera ports and slot rings (01_camera_ports_and_frame_slots.md) -/

inductive PortState where
  | off
  | absent
  | acquiring
  | live
  | stale
  | frozen
deriving DecidableEq, Repr

inductive SlotState where
  | free
  | filling
  | ready
  | reading
deriving DecidableEq, Repr

/-- A slot of a ring (R15): its state and, when READY or READING, its recorded frame number. -/
structure Slot where
  st : SlotState
  frameNo : Option Nat
deriving DecidableEq, Repr

/-- A Check Window (R6), in camera pixels. -/
structure Window where
  x : Nat
  y : Nat
  w : Nat
  h : Nat
deriving DecidableEq, Repr

/-- A signature and the set of Check Windows it was taken under (R13). -/
structure Signature where
  value : BitVec 16
  windowSet : Nat
deriving DecidableEq, Repr

/-- The frame in flight (R2, R3, R5). `luma` holds, for each latched window, the luma bytes inside it so far. -/
structure Flight where
  slot : Fin 3
  lines : Nat
  badLine : Bool
  overrun : Bool
  windows : List Window
  windowSet : Nat
  luma : List (List Byte)
deriving DecidableEq, Repr

/-- A line buffer that waits for its write (R2): the slot and the line it goes to, and its 2560 bytes. -/
structure LineBuf where
  slot : Fin 3
  line : Nat
  data : List Byte
deriving DecidableEq, Repr

structure Port where
  lock : Bool
  st : PortState
  acquire : Nat
  repeats : Nat
  lastSig : Option Signature
  staleness : Timer
  validFrames : Nat
  drops : Nat
  attention : Bool
  profile : List Byte
  windows : List Byte
  windowSet : Nat
  flight : Option Flight
  bufs : List LineBuf
  ring : Tri Slot
deriving DecidableEq, Repr

/-- The power-on Camera Profile (R7) in the format of the formats section: enabled no, freeze limit 15, initial gain
256, device address 0, exposure control absent, status register absent. The bytes behind the absent fields are 0
(DESIGN CHOICE, log 7). -/
def profilePowerOn : List Byte := [0, 15, 1, 0, 0, 0, 0, 0, 0, 0, 0, 0, 0, 0, 0, 0, 0, 0, 0]

def Slot.empty : Slot := ⟨.free, none⟩

/-- R21. The lock record is the link's condition, which is not the part's to set. -/
def Port.powerOn (lock : Bool) : Port :=
  { lock := lock, st := .off, acquire := 0, repeats := 0, lastSig := none, staleness := .stopped, validFrames := 0,
    drops := 0, attention := false, profile := profilePowerOn, windows := [], windowSet := 0, flight := none, bufs := [],
    ring := Tri.fill Slot.empty }

/-! ## DRAM and its arbiter (R20) -/

/-- A source read: a run of bytes within one line of one source slot (R56). -/
structure SourceRead where
  cam : Cam
  slot : Fin 3
  line : Nat
  first : Nat
  len : Nat
deriving DecidableEq, Repr

/-- The transfer in progress. `wanted` is false once the band the read was asked for is given up (R54, R57). -/
inductive Grant where
  | write (port : Cam)
  | read (r : SourceRead) (wanted : Bool)
deriving DecidableEq, Repr

structure Dram where
  mem : List Host.Cell
  granted : Option Grant
  lastPort : Cam
deriving DecidableEq, Repr

def Dram.powerOn : Dram := { mem := [], granted := none, lastPort := 3 }

/-! ## Layout store (02_layouts_tile_maps_and_warp_grids.md) -/

/-- A layout slot (R23): its tile map and its four warp grids, each present or absent. -/
structure LayoutSlot where
  tileMap : Option (List Byte)
  grids : Quad (Option (List Byte))
deriving DecidableEq, Repr

structure LayoutStore where
  slots : Quad LayoutSlot
  inUse : Option (Fin 4)
deriving DecidableEq, Repr

/-- R37. -/
def LayoutStore.powerOn : LayoutStore := { slots := Quad.fill ⟨none, Quad.fill none⟩, inUse := none }

/-! ## Compositor (03_composition_arithmetic.md) -/

/-- The frame plan (R38). -/
structure Plan where
  slot : Option (Fin 4)
  live : Quad Bool
  source : Quad (Option (Fin 3))
  gain : Quad Nat
deriving DecidableEq, Repr

/-- R38: the plan at power-on and at FULL reset. -/
def Plan.powerOn : Plan :=
  { slot := none, live := Quad.fill false, source := Quad.fill none, gain := Quad.fill 256 }

/-- One seam-statistics record (R51), for a pair of cameras: the luma sum of the lower-numbered camera, that of the
other, and the sample count. -/
structure PairRecord where
  lower : Nat
  upper : Nat
  n : Nat
deriving DecidableEq, Repr

/-- The six seam-statistics records (R51). -/
structure Seam where
  p01 : PairRecord
  p02 : PairRecord
  p03 : PairRecord
  p12 : PairRecord
  p13 : PairRecord
  p23 : PairRecord
deriving DecidableEq, Repr

def Seam.zero : Seam :=
  ⟨⟨0, 0, 0⟩, ⟨0, 0, 0⟩, ⟨0, 0, 0⟩, ⟨0, 0, 0⟩, ⟨0, 0, 0⟩, ⟨0, 0, 0⟩⟩

inductive HalfState where
  | free
  | writing
  | complete
  | sending
  | fill
deriving DecidableEq, Repr

/-- An output sample pair: a luma, and the Cb (even x) or Cr (odd x) that goes with it (R50). -/
structure Sample where
  luma : Nat
  chroma : Nat
deriving DecidableEq, Repr

/-- A half of the band buffer (R53): its state, its band, and the lines of a completed band. -/
structure Half where
  st : HalfState
  band : Nat
  lines : List (List Sample)
deriving DecidableEq, Repr

def Half.empty : Half := ⟨.free, 0, []⟩

/-- The band the compositor works on (R53, R56): the source reads it has still to make, the bytes read so far for each
camera by their offset in its source slot, and whether every pixel is composed, so that the overlay engine draws. -/
structure BandWork where
  band : Nat
  reads : List SourceRead
  data : Quad (List Host.Cell)
  composed : Bool
deriving DecidableEq, Repr

structure Compositor where
  plan : Plan
  work : Option BandWork
  next : Nat
  seam : Seam
  incomplete : Bool
  half0 : Half
  half1 : Half
deriving DecidableEq, Repr

/-- Power-on is the frame start of frame 0 (R154), at which band 0 starts in half 0 (R53); under the power-on plan it
needs no source data (R56). -/
def Compositor.powerOn : Compositor :=
  { plan := Plan.powerOn, work := some ⟨0, [], Quad.fill [], true⟩, next := 1, seam := Seam.zero, incomplete := false,
    half0 := ⟨.writing, 0, []⟩, half1 := Half.empty }

/-! ## Balance unit (04_exposure_balance.md) -/

/-- A camera's gain and target records, runs and settle count (R61). -/
structure Balance where
  gain : Nat
  target : Nat
  high : Nat
  low : Nat
  settle : Nat
deriving DecidableEq, Repr

structure BalanceUnit where
  table : List Byte
  cams : Quad Balance
deriving DecidableEq, Repr

/-- The power-on Balance Table (R59): every partner NONE, every manual gain 256. -/
def balancePowerOn : List Byte := [0xFF, 1, 0, 0xFF, 1, 0, 0xFF, 1, 0, 0xFF, 1, 0]

/-- R73. -/
def BalanceUnit.powerOn : BalanceUnit := { table := balancePowerOn, cams := Quad.fill ⟨256, 256, 0, 0, 0⟩ }

/-! ## Overlay engine (05_overlays.md) -/

/-- A rectangle in output pixels (R76). -/
structure Rect where
  left : Int
  top : Int
  width : Nat
  height : Nat
deriving DecidableEq, Repr

/-- A glyph of the Glyph Store (R88): its index, its size and its codes in raster order. -/
structure Glyph where
  index : Nat
  width : Nat
  height : Nat
  codes : List Nat
deriving DecidableEq, Repr

/-- The colour classes of a ZONE (R86). -/
inductive ZoneClass where
  | near
  | mid
  | far
deriving DecidableEq, Repr

/-- The resolved appearance of a draw-list entry (R80). -/
inductive Look where
  | guide (colour : Nat) (dashed : Bool) (width : Nat) (points : List (Int × Int))
  | zone (cls : ZoneClass) (colour : Nat) (rect : Rect) (filled : Bool)
  | icon (x y : Int) (glyph : Glyph)
  | frame (colour : Nat) (rect : Rect) (border : Nat)
deriving DecidableEq, Repr

/-- An entry of the draw list (R80): the element's index, a copy of its record, and its resolved appearance. -/
structure DrawEntry where
  index : Nat
  record : List Byte
  look : Look
deriving DecidableEq, Repr

/-- A proximity-sensor reading (R126). -/
inductive Reading where
  | none
  | noEcho
  | range (cm : Nat)
deriving DecidableEq, Repr

structure Sensor where
  reading : Reading
  age : Nat
deriving DecidableEq, Repr

/-- The frame view (R78). Bit k of `roles` is the role with code k + 1. -/
structure FrameView where
  mode : Mode
  live : Quad Bool
  roles : BitVec 6
  vd : VdState
  band : Nat
  sensors : Oct Sensor
deriving DecidableEq, Repr

/-- R78: the power-on frame view. -/
def FrameView.powerOn : FrameView :=
  { mode := .standby, live := Quad.fill false, roles := 0, vd := .none, band := 0, sensors := Oct.fill ⟨.none, 0⟩ }

/-- An entry of the pending element list (R95): `change` is the record to write, or none for a clear. -/
structure Edit where
  index : Nat
  change : Option (List Byte)
  ticket : Ticket
deriving DecidableEq, Repr

structure OverlayEngine where
  elements : List (List Byte)
  palette : List Byte
  glyphs : List Byte
  bands : List Byte
  edits : List Edit
  view : FrameView
  drawList : List DrawEntry
deriving DecidableEq, Repr

/-- The power-on element record and the cleared one (R75, R94, R96): kind NONE, every field of R75 0 or empty; the bytes
behind them, which a NONE record does not use, are 0 (log 30). -/
def elementNone : List Byte := List.replicate 32 0

/-- R81: entry 0 mid grey with alpha 16, entries 1..15 black with alpha 0. -/
def palettePowerOn : List Byte :=
  [128, 128, 128, 16] ++ (List.replicate 15 ([16, 128, 128, 0] : List Byte)).flatten

/-- R92: one band, hysteresis 0, degraded colour 0, no edges, no polylines. -/
def bandsPowerOn : List Byte := [1, 0, 0, 0]

/-- R75, R81, R88, R92, R99. -/
def OverlayEngine.powerOn : OverlayEngine :=
  { elements := List.replicate 64 elementNone, palette := palettePowerOn, glyphs := [], bands := bandsPowerOn,
    edits := [], view := FrameView.powerOn, drawList := [] }

/-! ## Mode controller (06_view_modes.md) -/

/-- The Mode Table (R101): a layout slot or NONE for each mode but STANDBY. -/
structure Bindings where
  panorama : Option (Fin 4)
  turn : Option (Fin 4)
  lift : Option (Fin 4)
  kerb : Option (Fin 4)
deriving DecidableEq, Repr

structure ModeController where
  mode : Mode
  bind : Bindings
  rules : List Byte
  kerb : Bool
  override : Option Mode
  dwell : Nat
  hold : Bool
deriving DecidableEq, Repr

/-- The power-on Mode Rules (R103): turn speed 300, kerb speed 50, kerb release 80, dwell 30. -/
def modeRulesPowerOn : List Byte := [0x01, 0x2C, 0, 50, 0, 80, 30]

/-- R114. -/
def ModeController.powerOn : ModeController :=
  { mode := .standby, bind := ⟨none, none, none, none⟩, rules := modeRulesPowerOn, kerb := false, override := none,
    dwell := 0, hold := false }

/-! ## Vehicle interface (07_vehicle_lines_and_vehicle_data.md) -/

inductive LineFunction where
  | unused
  | input
  | output
deriving DecidableEq, Repr

inductive Polarity where
  | activeHigh
  | activeLow
deriving DecidableEq, Repr

/-- The roles of an input line, by their codes less one (formats section): bit k of a roles byte is member k. -/
inductive Role where
  | nearsideIndicator
  | liftActive
  | stepOccupied
  | doorOpen
  | spareA
  | spareB
deriving DecidableEq, Repr

inductive EdgeSelect where
  | none
  | assert
  | release
  | both
deriving DecidableEq, Repr

inductive OutputSource where
  | manual
  | attention
  | cameraFault
  | specialView
  | zoneNear
deriving DecidableEq, Repr

/-- A line record (R115). -/
structure LineRecord where
  function : LineFunction
  polarity : Polarity
  debounce : Nat
  role : Option Role
  edge : EdgeSelect
  source : OutputSource
deriving DecidableEq, Repr

/-- A vehicle line (R115, R117): its record, its manual level, the level of its pin (the raw level of an INPUT line),
and, for an INPUT line, its debounced level and debounce timer. -/
structure Line where
  cfg : LineRecord
  manual : Bool
  raw : Bool
  debounced : Option Bool
  timer : Timer
deriving DecidableEq, Repr

/-- R115, R123. The level of the pin is not the part's to set. -/
def Line.powerOn (raw : Bool) : Line :=
  { cfg := ⟨.unused, .activeHigh, 20, none, .none, .manual⟩, manual := false, raw := raw, debounced := none,
    timer := .stopped }

structure Vehicle where
  lines : Oct Line
  state : VdState
  seq : Nat
  angle : Int
  speed : Nat
  sensors : Oct Sensor
  band : Nat
  staleTimer : Timer
  lostTimer : Timer
  sentMode : Mode
  near : Bool
deriving DecidableEq, Repr

/-- R123, R130, R114, R87. -/
def Vehicle.powerOn (raw : Oct Bool) : Vehicle :=
  { lines := Oct.build fun i => Line.powerOn (raw.get i), state := .none, seq := 0, angle := 0, speed := 0,
    sensors := Oct.fill ⟨.none, 0⟩, band := 0, staleTimer := .stopped, lostTimer := .stopped, sentMode := .standby,
    near := false }

/-! ## Camera control channels (08_camera_control_channels.md) -/

/-- What the part sends on a back channel (R133, R134). -/
inductive WireItem where
  | startMark
  | restartMark
  | stopMark
  | device (address : Nat) (read : Bool)
  | byte (b : Byte)
  | accept
  | reject
deriving DecidableEq, Repr

/-- Whose transaction it is (R143). -/
inductive Requester where
  | pass (ticket : Ticket)
  | exposure (value : Nat)
  | attention
deriving DecidableEq, Repr

/-- The step in which the channel waits on the camera: steps 2 to 5 of a WRITE (R133), 2 to 4, 6 and 7 of a READ
(R134). -/
inductive XferStep where
  | device
  | regHigh
  | regLow
  | dataByte (k : Nat)
  | deviceRead
  | readByte
deriving DecidableEq, Repr

/-- A transaction in flight (R132). `got` holds the bytes a READ has received; `current` is the mark of an exposure
write (R140). -/
structure Transaction where
  who : Requester
  device : Nat
  read : Bool
  register : Nat
  count : Nat
  data : List Byte
  step : XferStep
  got : List Byte
  current : Bool
deriving DecidableEq, Repr

/-- A CAM-XFER in the pass-through queue (R138). -/
structure XferRequest where
  ticket : Ticket
  device : Nat
  read : Bool
  register : Nat
  count : Nat
  data : List Byte
deriving DecidableEq, Repr

inductive Served where
  | passThrough
  | exposure
deriving DecidableEq, Repr

structure Channel where
  active : Bool
  flight : Option Transaction
  queue : List XferRequest
  exposure : Option Nat
  attnWaiting : Bool
  lastServed : Served
  cached : Option Nat
  attnValue : Byte
  timer : Timer
  out : List WireItem
deriving DecidableEq, Repr

/-- R131, R145: with the link locked the channel sends a stop mark and is ACTIVE until it is sent (log 19). -/
def Channel.powerOn (lock : Bool) : Channel :=
  { active := lock, flight := none, queue := [], exposure := none, attnWaiting := false, lastServed := .exposure,
    cached := none, attnValue := 0, timer := .stopped, out := if lock then [.stopMark] else [] }

/-! ## Management unit (10_requests_loads_and_attention.md) -/

/-- A request as the request queue holds it: tag, kind code and payload (R157, R158). -/
structure Request where
  tag : Byte
  kind : Byte
  payload : List Byte
deriving DecidableEq, Repr

/-- The results a response can carry (R160). -/
inductive Result where
  | done
  | busy
  | inUse
  | notReady
  | badArgument
  | badContent
  | badCrc
  | noLoad
  | sequence
  | timeout
  | noDevice
  | refusedAddress
  | partialWrite
  | noLink
  | superseded
  | unknownKind
deriving DecidableEq, Repr

/-- A response record (R151). -/
structure Response where
  tag : Byte
  kind : Byte
  result : Result
  data : List Byte
deriving DecidableEq, Repr

/-- The ten tables a load can name (formats section). -/
inductive Table where
  | tileMap
  | warpGrid
  | cameraProfile
  | checkWindows
  | balance
  | bands
  | palette
  | glyphs
  | overlay
  | modeRules
deriving DecidableEq, Repr

/-- A table with its target and content, as a load or a boot entry carries it (R162, R174). The slot has meaning for
the layout tables, the camera for WARP-GRID, CAMERA-PROFILE and CHECK-WINDOWS. -/
structure TableLoad where
  table : Table
  slot : Fin 4
  cam : Cam
  content : List Byte
deriving DecidableEq, Repr

inductive LoadState where
  | idle
  | opened
  | applying
deriving DecidableEq, Repr

/-- The load context (R162). The count of bytes received is the length of `dest.content`, the load buffer. `ticket` is
the LOAD-END that waits for the turnover while APPLYING (R164). -/
structure LoadContext where
  st : LoadState
  dest : TableLoad
  total : Nat
  crc : BitVec 32
  nextSeg : Nat
  timer : Timer
  ticket : Ticket
deriving DecidableEq, Repr

/-- IDLE, at power-on, FULL reset and when a load ends (R162): the buffer is discarded; what the other fields hold is the
model's choice (log 31). -/
def LoadContext.idle : LoadContext :=
  { st := .idle, dest := ⟨.tileMap, 0, 0, []⟩, total := 0, crc := 0, nextSeg := 0, timer := .stopped, ticket := ⟨0, 0⟩ }

structure Management where
  queue : List Request
  hold : Bool
  lost : Nat
  reserved : Nat
  filled : List Response
  load : LoadContext
  status : BitVec 24
  enable : BitVec 24
deriving DecidableEq, Repr

/-- R157, R158, R159, R162, R166. -/
def Management.powerOn : Management :=
  { queue := [], hold := false, lost := 0, reserved := 0, filled := [], load := LoadContext.idle, status := 0, enable := 0 }

/-! ## Configuration memory and boot (11_configuration_memory_and_power_up.md) -/

/-- The page write of a STORE-WRITE (R175). -/
structure PageWrite where
  ticket : Ticket
  offset : Nat
  data : List Byte
deriving DecidableEq, Repr

/-- An access at the memory's interface (R172). `pageWrite` is the page write in flight, whose request the store-write
state holds; `lateWrite` is one that has lost its request, by the write timer or a FULL reset, and has not ended
(log 18). -/
inductive Access where
  | bootHeader
  | bootEntry
  | storeRead (ticket : Ticket) (offset : Nat)
  | pageWrite
  | lateWrite (write : PageWrite)
deriving DecidableEq, Repr

inductive BootStatus where
  | none
  | running
  | loaded
  | crcFail
  | contentFail
deriving DecidableEq, Repr

/-- Boot (R173, R174): `offset` and `index` are those of the next entry, `failed` the index of the first failing one,
`due` the table that waits for the next turnover. -/
structure Boot where
  status : BootStatus
  failed : Option Nat
  length : Nat
  offset : Nat
  index : Nat
  due : Option TableLoad
deriving DecidableEq, Repr

/-- Boot as it begins (R173). -/
def Boot.begin : Boot := { status := .running, failed := none, length := 0, offset := 12, index := 0, due := none }

/-- `writing` is the store-write state: WRITING while it holds a page write, IDLE otherwise (R172). -/
structure Store where
  mem : List Host.Cell
  access : List Access
  writing : Option PageWrite
  writeTimer : Timer
  bootWait : Timer
  boot : Boot
deriving DecidableEq, Repr

/-- R172, R173: the memory keeps its contents; boot makes its first read. -/
def Store.powerOn (mem : List Host.Cell) : Store :=
  { mem := mem, access := [.bootHeader], writing := none, writeTimer := .stopped, bootWait := .stopped,
    boot := Boot.begin }

/-! ## Output transmitter (09_the_output_frame_and_its_header.md) -/

/-- An underrun record (R55). -/
structure Underrun where
  first : Option Nat
  count : Nat
deriving DecidableEq, Repr

/-- The header fields of one camera (R150). -/
structure CamHeader where
  st : PortState
  reading : Option Nat
  gain : Nat
  drops : Nat
  attnValue : Byte
deriving DecidableEq, Repr

/-- A header record (R149). -/
structure Header where
  frameNo : BitVec 32
  mode : Mode
  slot : Option (Fin 4)
  cams : Quad CamHeader
  vd : VdState
  seq : Nat
  band : Nat
  hold : Bool
  lost : Nat
  boot : BootStatus
  bootIndex : Nat
  writing : Bool
  status : BitVec 24
  enable : BitVec 24
  attention : Bool
  underrun : Underrun
  responses : List Response
deriving DecidableEq, Repr

/-- The header of frame 0, field by field as R154 lists it. -/
def Header.powerOn : Header :=
  { frameNo := 0, mode := .standby, slot := none, cams := Quad.fill ⟨.off, none, 256, 0, 0⟩, vd := .none, seq := 0,
    band := 0, hold := false, lost := 0, boot := .running, bootIndex := 0, writing := false, status := 0, enable := 0,
    attention := false, underrun := ⟨none, 0⟩, responses := [] }

/-- Where in the frame the transmitter's line count stands, by the last event it produced (R147): in the header lines,
in the lines of a band, past the last line of a band, or in blanking. -/
inductive TxPhase where
  | header
  | inBand (b : Nat)
  | afterBand (b : Nat)
  | blanking
deriving DecidableEq, Repr

structure Transmitter where
  frameNo : BitVec 32
  phase : TxPhase
  header : Header
  underrun : Underrun
deriving DecidableEq, Repr

/-- R154. -/
def Transmitter.powerOn : Transmitter :=
  { frameNo := 0, phase := .header, header := Header.powerOn, underrun := ⟨none, 0⟩ }

/-! ## The whole part -/

/-- The state of the N416 and its queue of waiting commands. -/
structure State where
  ports : Quad Port
  dram : Dram
  layouts : LayoutStore
  comp : Compositor
  bal : BalanceUnit
  ovl : OverlayEngine
  modes : ModeController
  veh : Vehicle
  chans : Quad Channel
  tx : Transmitter
  mgmt : Management
  store : Store
  freeCount : Nat
  pending : List Instr
deriving DecidableEq, Repr

/-- Every block at its power-on values. What the part does not set is given: the links' conditions, the pins' levels
and the contents of the configuration memory; `freeCount` and `pending` are the model's own. -/
def State.powerOn (lock : Quad Bool) (raw : Oct Bool) (mem : List Host.Cell) (freeCount : Nat) (pending : List Instr) :
    State :=
  { ports := Quad.build fun p => Port.powerOn (lock.get p)
    dram := Dram.powerOn
    layouts := LayoutStore.powerOn
    comp := Compositor.powerOn
    bal := BalanceUnit.powerOn
    ovl := OverlayEngine.powerOn
    modes := ModeController.powerOn
    veh := Vehicle.powerOn raw
    chans := Quad.build fun p => Channel.powerOn (lock.get p)
    tx := Transmitter.powerOn
    mgmt := Management.powerOn
    store := Store.powerOn mem
    freeCount := freeCount
    pending := pending }

/-- The part right after power-on, with every link unlocked, every pin low and a configuration memory that reads 0xFF
throughout (DESIGN CHOICE, log 6), and no command waiting. -/
def State.reset : State := State.powerOn (Quad.fill false) (Oct.fill false) [] 0 []

end Sys2Proof.Machine
end

