-- ==== Sys2Proof/Machine/Flags.lean ====
section
/-! DEFINITION. The 24 events and the attention flag (R166): an event's number, setting a status, and the flag that is
set while some event has both status and enable. -/

namespace Sys2Proof.Machine

/-! Event numbers (R166). -/
def evCamState (p : Cam) : Nat := p.val
def evCamAttn (p : Cam) : Nat := 4 + p.val
def evChannelFault (p : Cam) : Nat := 8 + p.val
def evLineEdge (l : Fin 8) : Nat := 12 + l.val
def evLoadFailed : Nat := 20
def evUnderrun : Nat := 21
def evVehicleData : Nat := 22
def evModeChange : Nat := 23

/-- The set that holds the one event `n`. -/
def eventBit (n : Nat) : BitVec 24 := BitVec.twoPow 24 n

/-- Sets an event's status; a status already set stays set (R166). -/
def State.raise (s : State) (n : Nat) : State := { s with mgmt.status := s.mgmt.status ||| eventBit n }

/-- Sets an event's status where a condition holds. -/
def State.raiseIf (s : State) (c : Bool) (n : Nat) : State := if c then s.raise n else s

/-- The attention flag (R166). -/
def State.attentionFlag (s : State) : Bool := decide (s.mgmt.status &&& s.mgmt.enable ≠ 0)

end Sys2Proof.Machine
end

