-- ==== Sys2Proof/Machine/Ops.lean ====
section
/-! DEFINITION. The operations every block's rules are written over: the two memories in their canonical form, one port
or channel of four, timers, answering a request, and the millisecond that passes on an empty queue. -/

namespace Sys2Proof.Machine

/-! ## Memory: a list of cells, addresses rising, none equal to what an unlisted address reads as -/

/-- What a byte of DRAM that nothing has written reads as (DESIGN CHOICE, unsafe, log 8). -/
def dramDefault : Byte := 0

/-- What an unlisted byte of the configuration memory reads as: 0xFF, as a memory that is not fitted (R172, log 6). -/
def storeDefault : Byte := 0xFF

def Memory.read (d : Byte) : List Host.Cell → Nat → Byte
  | [], _ => d
  | (b, w) :: m, a => if b = a then w else Memory.read d m a

def Memory.write (d : Byte) : List Host.Cell → Nat → Byte → List Host.Cell
  | [], a, v => if v = d then [] else [(a, v)]
  | (b, w) :: m, a, v =>
    if b < a then (b, w) :: Memory.write d m a v
    else if b = a then (if v = d then m else (a, v) :: m)
    else if v = d then (b, w) :: m else (a, v) :: (b, w) :: m

/-- Writes the bytes from address `a` upward. -/
def Memory.writeBytes (d : Byte) : List Host.Cell → Nat → List Byte → List Host.Cell
  | m, _, [] => m
  | m, a, v :: vs => Memory.writeBytes d (Memory.write d m a v) (a + 1) vs

/-- Reads `n` bytes from address `a` upward. -/
def Memory.readBytes (d : Byte) (m : List Host.Cell) : Nat → Nat → List Byte
  | _, 0 => []
  | a, n + 1 => Memory.read d m a :: Memory.readBytes d m (a + 1) n

/-- The canonical form. -/
abbrev Memory.wf (d : Byte) (m : List Host.Cell) : Prop :=
  m.Pairwise (fun x y => x.1 < y.1) ∧ ∀ c ∈ m, c.2 ≠ d

/-! ## One of four -/

def State.port (s : State) (p : Cam) : Port := s.ports.get p
def State.setPort (s : State) (p : Cam) (v : Port) : State := { s with ports := s.ports.set p v }
def State.chan (s : State) (p : Cam) : Channel := s.chans.get p
def State.setChan (s : State) (p : Cam) (v : Channel) : State := { s with chans := s.chans.set p v }
def State.camBal (s : State) (c : Cam) : Balance := s.bal.cams.get c
def State.setBal (s : State) (c : Cam) (v : Balance) : State := { s with bal.cams := s.bal.cams.set c v }
def State.line (s : State) (l : Fin 8) : Line := s.veh.lines.get l
def State.setLine (s : State) (l : Fin 8) (v : Line) : State := { s with veh.lines := s.veh.lines.set l v }

/-- Does `f` for each camera in turn, 0 to 3. -/
def forCams (f : Cam → State → State) (s : State) : State := f 3 (f 2 (f 1 (f 0 s)))

/-! ## Timers -/

def Timer.isRunning : Timer → Bool
  | .running _ => true
  | .stopped => false
  | .expired => false

/-- One millisecond passes; the expiry itself is a command (log 3). -/
def Timer.tick : Timer → Timer
  | .running n => .running (n - 1)
  | .stopped => .stopped
  | .expired => .expired

/-! ## Answering -/

/-- Fills a reserved place with a request's response (R159). -/
def State.answerWith (s : State) (t : Ticket) (r : Result) (data : List Byte) : State :=
  { s with
    mgmt.reserved := s.mgmt.reserved - 1
    mgmt.filled := s.mgmt.filled ++ [⟨t.tag, t.kind, r, data⟩] }

/-- A response whose result carries no data. -/
def State.answer (s : State) (t : Ticket) (r : Result) : State := s.answerWith t r []

/-- BAD-CONTENT with the index of the first bad record, two bytes (formats section). -/
def State.answerBadContent (s : State) (t : Ticket) (index : Nat) : State :=
  s.answerWith t .badContent (be16 index)

/-! ## The passing of a millisecond -/

/-- A reading's age rises by 1 a millisecond, to 65535 at most; a sensor with no reading stays at age 0 (R126). -/
def Sensor.tick (x : Sensor) : Sensor :=
  match x.reading with
  | .none => x
  | .noEcho => { x with age := min 65535 (x.age + 1) }
  | .range _ => { x with age := min 65535 (x.age + 1) }

/-- One millisecond of the part's time base: readings age (R126) and running timers count down. It is what a step does
on an empty queue (DESIGN CHOICE, log 2). -/
def State.tick (s : State) : State :=
  { s with
    ports := Quad.build fun p => { s.ports.get p with staleness := (s.ports.get p).staleness.tick }
    chans := Quad.build fun p => { s.chans.get p with timer := (s.chans.get p).timer.tick }
    veh := { s.veh with
      lines := Oct.build fun l => { s.veh.lines.get l with timer := (s.veh.lines.get l).timer.tick }
      sensors := Oct.build fun i => (s.veh.sensors.get i).tick
      staleTimer := s.veh.staleTimer.tick
      lostTimer := s.veh.lostTimer.tick }
    mgmt.load.timer := s.mgmt.load.timer.tick
    store := { s.store with writeTimer := s.store.writeTimer.tick, bootWait := s.store.bootWait.tick } }

end Sys2Proof.Machine
end

