-- ==== Sys2Proof/Machine/Operands.lean ====
section
/-! DEFINITION. The operand forms: what a request's kind and payload say (R160 and the request tables of the formats
section), the code lists, and the same layouts written the other way, from the fields to the payload. -/

namespace Sys2Proof.Machine

/-! ## Code lists (formats section). A code outside its list is out of range for the owner's tests. -/

def Mode.code : Mode → Nat
  | .standby => 0
  | .panorama => 1
  | .turn => 2
  | .lift => 3
  | .kerb => 4

def modeOf (n : Nat) : Option Mode :=
  match n with
  | 0 => some .standby
  | 1 => some .panorama
  | 2 => some .turn
  | 3 => some .lift
  | 4 => some .kerb
  | _ => none

def tableOf (n : Nat) : Option Table :=
  match n with
  | 1 => some .tileMap
  | 2 => some .warpGrid
  | 3 => some .cameraProfile
  | 4 => some .checkWindows
  | 5 => some .balance
  | 6 => some .bands
  | 7 => some .palette
  | 8 => some .glyphs
  | 9 => some .overlay
  | 10 => some .modeRules
  | _ => none

/-- The code of BINDINGS, a table of the boot image alone. -/
def bindingsCode : Nat := 11

def functionOf (n : Nat) : Option LineFunction :=
  match n with
  | 0 => some .unused
  | 1 => some .input
  | 2 => some .output
  | _ => none

def polarityOf (n : Nat) : Option Polarity :=
  match n with
  | 0 => some .activeHigh
  | 1 => some .activeLow
  | _ => none

/-- A line's role: code 0 is NONE. -/
def roleOf (n : Nat) : Option (Option Role) :=
  match n with
  | 0 => some none
  | 1 => some (some .nearsideIndicator)
  | 2 => some (some .liftActive)
  | 3 => some (some .stepOccupied)
  | 4 => some (some .doorOpen)
  | 5 => some (some .spareA)
  | 6 => some (some .spareB)
  | _ => none

def edgeOf (n : Nat) : Option EdgeSelect :=
  match n with
  | 0 => some .none
  | 1 => some .assert
  | 2 => some .release
  | 3 => some .both
  | _ => none

def sourceOf (n : Nat) : Option OutputSource :=
  match n with
  | 0 => some .manual
  | 1 => some .attention
  | 2 => some .cameraFault
  | 3 => some .specialView
  | 4 => some .zoneNear
  | _ => none

def PortState.code : PortState → Nat
  | .off => 0
  | .absent => 1
  | .acquiring => 2
  | .live => 3
  | .stale => 4
  | .frozen => 5

def VdState.code : VdState → Nat
  | .none => 0
  | .fresh => 1
  | .stale => 2
  | .lost => 3

def BootStatus.code : BootStatus → Nat
  | .none => 0
  | .running => 1
  | .loaded => 2
  | .crcFail => 3
  | .contentFail => 4

def Result.code : Result → Nat
  | .done => 0
  | .busy => 1
  | .inUse => 2
  | .notReady => 3
  | .badArgument => 4
  | .badContent => 5
  | .badCrc => 6
  | .noLoad => 7
  | .sequence => 8
  | .timeout => 9
  | .noDevice => 10
  | .refusedAddress => 11
  | .partialWrite => 12
  | .noLink => 13
  | .superseded => 14
  | .unknownKind => 15

/-! ## Requests -/

/-- A request of a listed kind with a payload of a length the kind allows, its fields as they stand in the payload. -/
inductive Req where
  | loadBegin (table slot camera : Byte) (total : BitVec 16) (crc : BitVec 32)
  | loadData (segment : BitVec 16) (data : List Byte)
  | loadEnd
  | loadAbort
  | tableRead (table slot camera : Byte) (offset : BitVec 16) (length : Byte)
  | bindMode (mode slot : Byte)
  | setView (mode : Byte)
  | releaseView
  | elementWrite (index : Byte) (record : List Byte)
  | elementClear (index : Byte)
  | camXfer (camera device direction : Byte) (register : BitVec 16) (count : Byte) (data : List Byte)
  | lineConfig (line function polarity debounce role edge source : Byte)
  | linesSet (mask : Byte)
  | linesClear (mask : Byte)
  | eventEnable (mask : BitVec 24)
  | eventAck (mask : BitVec 24)
  | storeWrite (offset : BitVec 16) (data : List Byte)
  | storeRead (offset : BitVec 16)
  | reset (what : Byte)
deriving DecidableEq, Repr

/-- The kind code (request table of the formats section). -/
def Req.kind : Req → Byte
  | .loadBegin .. => 0x01
  | .loadData .. => 0x02
  | .loadEnd => 0x03
  | .loadAbort => 0x04
  | .tableRead .. => 0x05
  | .bindMode .. => 0x10
  | .setView .. => 0x11
  | .releaseView => 0x12
  | .elementWrite .. => 0x20
  | .elementClear .. => 0x21
  | .camXfer .. => 0x30
  | .lineConfig .. => 0x40
  | .linesSet .. => 0x41
  | .linesClear .. => 0x42
  | .eventEnable .. => 0x50
  | .eventAck .. => 0x51
  | .storeWrite .. => 0x60
  | .storeRead .. => 0x61
  | .reset .. => 0x70

/-- The payload (request table of the formats section). -/
def Req.payload : Req → List Byte
  | .loadBegin t s c total crc => [t, s, c] ++ be16 total.toNat ++ be32 crc.toNat
  | .loadData seg data => be16 seg.toNat ++ data
  | .loadEnd => []
  | .loadAbort => []
  | .tableRead t s c off len => [t, s, c] ++ be16 off.toNat ++ [len]
  | .bindMode m s => [m, s]
  | .setView m => [m]
  | .releaseView => []
  | .elementWrite i rec => i :: rec
  | .elementClear i => [i]
  | .camXfer c d dir reg n data => [c, d, dir] ++ be16 reg.toNat ++ [n] ++ data
  | .lineConfig l f p d r e o => [l, f, p, d, r, e, o]
  | .linesSet m => [m]
  | .linesClear m => [m]
  | .eventEnable m => mask24Bytes m
  | .eventAck m => mask24Bytes m
  | .storeWrite off data => be16 off.toNat ++ data
  | .storeRead off => be16 off.toNat
  | .reset w => [w]

/-- The request that carries `r` under a tag. -/
def Req.toRequest (r : Req) (tag : Byte) : Request := ⟨tag, r.kind, r.payload⟩

/-- What take-up finds in a request (R160). -/
inductive Parsed where
  | unknownKind
  | badLength
  | ok (r : Req)
deriving DecidableEq, Repr

/-- The fields of a payload of an allowed length, and `badLength` for any other. -/
def Parsed.ofLength (c : Bool) (r : Req) : Parsed := if c then .ok r else .badLength

/-- Reads a request's kind and payload (R160). -/
def parseRequest (kind : Byte) (p : List Byte) : Parsed :=
  match kind.toNat with
  | 0x01 => Parsed.ofLength (p.length == 9) (.loadBegin (p.getD 0 0) (p.getD 1 0) (p.getD 2 0) (BitVec.ofNat 16 (u16At p 3)) (BitVec.ofNat 32 (u32At p 5)))
  | 0x02 => Parsed.ofLength (2 ≤ p.length && p.length ≤ 50) (.loadData (BitVec.ofNat 16 (u16At p 0)) (p.drop 2))
  | 0x03 => Parsed.ofLength (p.length == 0) .loadEnd
  | 0x04 => Parsed.ofLength (p.length == 0) .loadAbort
  | 0x05 => Parsed.ofLength (p.length == 6) (.tableRead (p.getD 0 0) (p.getD 1 0) (p.getD 2 0) (BitVec.ofNat 16 (u16At p 3)) (p.getD 5 0))
  | 0x10 => Parsed.ofLength (p.length == 2) (.bindMode (p.getD 0 0) (p.getD 1 0))
  | 0x11 => Parsed.ofLength (p.length == 1) (.setView (p.getD 0 0))
  | 0x12 => Parsed.ofLength (p.length == 0) .releaseView
  | 0x20 => Parsed.ofLength (p.length == 33) (.elementWrite (p.getD 0 0) (p.drop 1))
  | 0x21 => Parsed.ofLength (p.length == 1) (.elementClear (p.getD 0 0))
  | 0x30 => Parsed.ofLength (6 ≤ p.length && p.length ≤ 22)
      (.camXfer (p.getD 0 0) (p.getD 1 0) (p.getD 2 0) (BitVec.ofNat 16 (u16At p 3)) (p.getD 5 0) (p.drop 6))
  | 0x40 => Parsed.ofLength (p.length == 7)
      (.lineConfig (p.getD 0 0) (p.getD 1 0) (p.getD 2 0) (p.getD 3 0) (p.getD 4 0) (p.getD 5 0) (p.getD 6 0))
  | 0x41 => Parsed.ofLength (p.length == 1) (.linesSet (p.getD 0 0))
  | 0x42 => Parsed.ofLength (p.length == 1) (.linesClear (p.getD 0 0))
  | 0x50 => Parsed.ofLength (p.length == 3) (.eventEnable (mask24At p 0))
  | 0x51 => Parsed.ofLength (p.length == 3) (.eventAck (mask24At p 0))
  | 0x60 => Parsed.ofLength (p.length == 34) (.storeWrite (BitVec.ofNat 16 (u16At p 0)) (p.drop 2))
  | 0x61 => Parsed.ofLength (p.length == 2) (.storeRead (BitVec.ofNat 16 (u16At p 0)))
  | 0x70 => Parsed.ofLength (p.length == 1) (.reset (p.getD 0 0))
  | _ => .unknownKind

/-- A request record as it arrives on the return channel (formats section). -/
def Request.record (r : Request) : List Byte :=
  withCrc16 ([0x01, r.tag, r.kind, BitVec.ofNat 8 r.payload.length] ++ r.payload)

/-- The request in a record of type 0x01, or none where R157 discards it. -/
def requestOfRecord (bs : List Byte) : Option Request :=
  if byteAt bs 0 = 0x01 ∧ byteAt bs 3 ≤ Config.maxPayload ∧ bs.length = 6 + byteAt bs 3 ∧ crc16Matches bs = true then
    some ⟨bs.getD 1 0, bs.getD 2 0, sliceOf bs 4 (byteAt bs 3)⟩
  else none

end Sys2Proof.Machine
end

