-- ==== Sys2Proof/Machine/Tables.lean ====
section
/-! DEFINITION. The tables: named views of their fields, their size limits, and the content check each owner makes of a
load or a boot entry (table contents of the formats section). A check answers the index of the first bad record, or
none where the content passes (R164, R170). -/

namespace Sys2Proof.Machine

/-- The first of records 0..n − 1 that fails. -/
def firstBad (n : Nat) (bad : Nat → Bool) : Option Nat := (List.range n).find? bad

/-- A table of exactly `n` records of `size` bytes: the first record that fails, or is missing or incomplete; bytes left
over count as record `n` (R170). -/
def recordsCheck (n size : Nat) (ok : List Byte → Bool) (bs : List Byte) : Option Nat :=
  match firstBad n (fun i => decide (bs.length < size * (i + 1)) || !ok (sliceOf bs (size * i) size)) with
  | some i => some i
  | none => if bs.length > size * n then some n else none

/-! ## Camera Profile (R7, R66) -/

def profileEnabled (p : List Byte) : Bool := decide (byteAt p 0 = 1)
def profileFreezeLimit (p : List Byte) : Nat := byteAt p 1
def profileInitialGain (p : List Byte) : Nat := u16At p 2
def profileDevice (p : List Byte) : Nat := byteAt p 4

/-- The exposure control fields (R66). -/
structure ExposureControl where
  register : Nat
  minimum : Nat
  maximum : Nat
  step : Nat
  start : Nat
deriving DecidableEq, Repr

/-- Exposure control, absent or present. -/
def profileExposure (p : List Byte) : Option ExposureControl :=
  if byteAt p 5 = 1 then some ⟨u16At p 6, u16At p 8, u16At p 10, u16At p 12, u16At p 14⟩ else none

/-- The status register, absent or an address. -/
def profileStatus (p : List Byte) : Option Nat := if byteAt p 16 = 1 then some (u16At p 17) else none

/-- R7 and R66: the ranges of the fields; those behind an absent one are ignored. -/
def profileOk (p : List Byte) : Bool :=
  decide (byteAt p 0 ≤ 1) && decide (2 ≤ byteAt p 1) &&
  decide (128 ≤ u16At p 2 ∧ u16At p 2 ≤ 512) && decide (byteAt p 4 ≤ 127) &&
  decide (byteAt p 5 ≤ 1) &&
  (decide (byteAt p 5 = 0) ||
    (decide (1 ≤ u16At p 12) && decide (u16At p 8 ≤ u16At p 14 ∧ u16At p 14 ≤ u16At p 10))) &&
  decide (byteAt p 16 ≤ 1)

/-! ## Check Windows (R6) -/

def windowAt (bs : List Byte) (i : Nat) : Window :=
  ⟨u16At bs (8 * i), u16At bs (8 * i + 2), u16At bs (8 * i + 4), u16At bs (8 * i + 6)⟩

/-- The windows the table holds, in index order. -/
def windowsOf (bs : List Byte) : List Window := (List.range (bs.length / 8)).map (windowAt bs)

/-- R6: width and height in 8..256, and the window inside the camera frame. -/
def windowOk (w : Window) : Bool :=
  decide (8 ≤ w.w ∧ w.w ≤ 256) && decide (8 ≤ w.h ∧ w.h ≤ 256) &&
  decide (w.x + w.w ≤ Config.frameWidth) && decide (w.y + w.h ≤ Config.frameHeight)

def windowsCheck (bs : List Byte) : Option Nat :=
  firstBad ((bs.length + 7) / 8)
    (fun i => decide (4 ≤ i) || decide (bs.length < 8 * (i + 1)) || !windowOk (windowAt bs i))

/-! ## Balance Table (R59) -/

/-- The partner of a camera: none for NONE, and so for a byte that names no camera. -/
def balancePartner (bs : List Byte) (c : Cam) : Option Cam := index4 (byteAt bs (3 * c.val))
def balanceManual (bs : List Byte) (c : Cam) : Nat := u16At bs (3 * c.val + 1)

/-- Following partners from `at_`, `n` links at most, comes back to camera `c`. -/
def partnersReach (bs : List Byte) (c : Cam) : Nat → Cam → Bool
  | 0, _ => false
  | n + 1, at_ =>
    if bs.length < 3 * (at_.val + 1) then false
    else match balancePartner bs at_ with
      | none => false
      | some q => decide (q = c) || partnersReach bs c n q

/-- An entry fails when it is missing or incomplete, when a field of its own is out of range, or when it lies on a cycle
of partners (R59; a camera that names itself is such a cycle). -/
def balanceBad (bs : List Byte) (c : Cam) : Bool :=
  decide (bs.length < 3 * (c.val + 1)) ||
  !decide (byteAt bs (3 * c.val) ≤ 3 ∨ byteAt bs (3 * c.val) = 0xFF) ||
  !decide (128 ≤ balanceManual bs c ∧ balanceManual bs c ≤ 512) ||
  partnersReach bs c 4 c

def balanceCheck (bs : List Byte) : Option Nat :=
  match allCams.find? (balanceBad bs) with
  | some c => some c.val
  | none => if bs.length > 12 then some 4 else none

/-! ## Mode Rules (R103) -/

def rulesTurnSpeed (bs : List Byte) : Nat := u16At bs 0
def rulesKerbSpeed (bs : List Byte) : Nat := u16At bs 2
def rulesKerbRelease (bs : List Byte) : Nat := u16At bs 4
def rulesDwell (bs : List Byte) : Nat := byteAt bs 6

def modeRulesOk (bs : List Byte) : Bool :=
  decide (rulesTurnSpeed bs ≤ 1500) && decide (rulesKerbSpeed bs ≤ 1500) && decide (rulesKerbRelease bs ≤ 1500) &&
  decide (rulesKerbSpeed bs < rulesKerbRelease bs)

/-! ## Palette (R81) -/

/-- A palette entry. -/
structure PaletteEntry where
  y : Nat
  cb : Nat
  cr : Nat
  alpha : Nat
deriving DecidableEq, Repr

def paletteEntry (bs : List Byte) (i : Nat) : PaletteEntry :=
  ⟨byteAt bs (4 * i), byteAt bs (4 * i + 1), byteAt bs (4 * i + 2), byteAt bs (4 * i + 3)⟩

def paletteOk (rec : List Byte) : Bool := decide (byteAt rec 3 ≤ 16)

/-! ## Tile map and warp grid (R25 to R28) -/

/-- A tile record (R25). -/
structure Tile where
  primary : Option Cam
  secondary : Option Cam
  down : Bool
  origin : Int
  width : Nat
deriving DecidableEq, Repr

/-- Tile `t` of a tile map. -/
def tileAt (bs : List Byte) (t : Nat) : Tile :=
  ⟨index4 (byteAt bs (6 * t)), index4 (byteAt bs (6 * t + 1)), decide (byteAt bs (6 * t + 2) = 1),
    s16At bs (6 * t + 4), byteAt bs (6 * t + 3)⟩

/-- R26. In a tile with no secondary camera the ramp fields are ignored. -/
def tileOk (rec : List Byte) : Bool :=
  decide (byteAt rec 0 ≤ 3 ∨ byteAt rec 0 = 0xFF) &&
  (decide (byteAt rec 1 = 0xFF) ||
    (decide (byteAt rec 0 ≠ 0xFF) && decide (byteAt rec 1 ≤ 3) && decide (byteAt rec 1 ≠ byteAt rec 0) &&
      decide (byteAt rec 2 ≤ 1) && decide (-255 ≤ s16At rec 4 ∧ s16At rec 4 ≤ 255)))

/-- Vertex `v` of a warp grid: a source position in 1/16 of a camera pixel, or none for INVALID (R27). -/
def vertexAt (bs : List Byte) (v : Nat) : Option (Nat × Nat) :=
  if u16At bs (4 * v) = 0xFFFF then none else some (u16At bs (4 * v), u16At bs (4 * v + 2))

/-- R28. -/
def vertexOk (rec : List Byte) : Bool :=
  decide (u16At rec 0 = 0xFFFF) || (decide (u16At rec 0 ≤ 20464) && decide (u16At rec 2 ≤ 12784))

/-- A camera appears in a tile map as the primary or the secondary camera of some tile: it is in the named set (R23). -/
def namesCam (map : List Byte) (c : Cam) : Bool :=
  (List.range 576).any fun t => decide ((tileAt map t).primary = some c) || decide ((tileAt map t).secondary = some c)

/-! ## Overlay Table (R75 to R77) -/

/-- A rectangle's eight bytes at an offset of an element record. -/
def rectAt (rec : List Byte) (o : Nat) : Rect := ⟨s16At rec o, s16At rec (o + 2), u16At rec (o + 4), u16At rec (o + 6)⟩

def coordOk (i : Int) : Bool := decide (-2048 ≤ i ∧ i ≤ 2047)

def rectOk (r : Rect) : Bool :=
  coordOk r.left && coordOk r.top && decide (1 ≤ r.width ∧ r.width ≤ 2048) && decide (1 ≤ r.height ∧ r.height ≤ 2048)

def elKind (rec : List Byte) : Nat := byteAt rec 0
def elLayer (rec : List Byte) : Nat := byteAt rec 1
def elModes (rec : List Byte) : Nat := byteAt rec 2
def elAsserted (rec : List Byte) : Nat := byteAt rec 3
def elNegated (rec : List Byte) : Nat := byteAt rec 4
def elCams (rec : List Byte) : Nat := byteAt rec 5
def elStates (rec : List Byte) : Nat := byteAt rec 6
def elColour (rec : List Byte) : Nat := byteAt rec 7

/-- R76: the kind-specific fields of a GUIDE. -/
def guideOk (rec : List Byte) : Bool := decide (byteAt rec 8 ≤ 2) && decide (1 ≤ byteAt rec 9 ∧ byteAt rec 9 ≤ 8)

/-- R76: of a ZONE, thresholds 0 < near < mid < far ≤ 500 among them. -/
def zoneOk (rec : List Byte) : Bool :=
  decide (byteAt rec 8 ≤ 7) &&
  decide (0 < u16At rec 9 ∧ u16At rec 9 < u16At rec 11 ∧ u16At rec 11 < u16At rec 13 ∧ u16At rec 13 ≤ 500) &&
  decide (byteAt rec 15 ≤ 15 ∧ byteAt rec 16 ≤ 15 ∧ byteAt rec 17 ≤ 15) && rectOk (rectAt rec 18) &&
  decide (byteAt rec 26 ≤ 1)

/-- R76: of an ICON. -/
def iconOk (rec : List Byte) : Bool := decide (byteAt rec 8 ≤ 31) && coordOk (s16At rec 9) && coordOk (s16At rec 11)

/-- R76: of a FRAME. -/
def frameOk (rec : List Byte) : Bool := rectOk (rectAt rec 8) && decide (1 ≤ byteAt rec 16 ∧ byteAt rec 16 ≤ 16)

/-- The element check (R77). -/
def elementOk (rec : List Byte) : Bool :=
  decide (rec.length = 32) && decide (elLayer rec ≤ 7) && decide (elModes rec < 32) && decide (elAsserted rec < 64) &&
  decide (elNegated rec < 64) && decide (elCams rec < 16) && decide (elStates rec < 16) && decide (elColour rec ≤ 15) &&
  decide (elAsserted rec &&& elNegated rec = 0) &&
  (match elKind rec with
    | 0 => true
    | 1 => guideOk rec
    | 2 => zoneOk rec
    | 3 => iconOk rec
    | 4 => frameOk rec
    | _ => false)

/-- An OVERLAY content as its 64 records. -/
def elementsOf (bs : List Byte) : List (List Byte) := (List.range 64).map fun i => sliceOf bs (32 * i) 32

/-! ## Band Table (R92, R93) -/

/-- The Band Table: hysteresis, degraded colour, edges, and one curve set for each band. -/
structure BandTable where
  hysteresis : Nat
  colour : Nat
  edges : List Int
  curves : List (List (List (Int × Int)))
deriving DecidableEq, Repr

/-- Reads `n` points, and what follows them. -/
def readPoints : Nat → List Byte → Option (List (Int × Int) × List Byte)
  | 0, bs => some ([], bs)
  | n + 1, bs =>
    if bs.length < 4 then none
    else if coordOk (s16At bs 0) && coordOk (s16At bs 2) then
      match readPoints n (bs.drop 4) with
      | none => none
      | some (ps, rest) => some ((s16At bs 0, s16At bs 2) :: ps, rest)
    else none

/-- Reads `n` polylines of 2..16 points. -/
def readPolylines : Nat → List Byte → Option (List (List (Int × Int)) × List Byte)
  | 0, bs => some ([], bs)
  | n + 1, bs =>
    if bs.length < 1 ∨ byteAt bs 0 < 2 ∨ 16 < byteAt bs 0 then none
    else match readPoints (byteAt bs 0) (bs.drop 1) with
      | none => none
      | some (ps, rest) =>
        match readPolylines n rest with
        | none => none
        | some (qs, rest') => some (ps :: qs, rest')

/-- Reads the curve sets of `n` bands, the first of them band `i`; the index of the first that fails otherwise. -/
def readCurveSets : Nat → Nat → List Byte → Except Nat (List (List (List (Int × Int))) × List Byte)
  | 0, _, bs => .ok ([], bs)
  | n + 1, i, bs =>
    if bs.length < 1 ∨ 3 < byteAt bs 0 then .error i
    else match readPolylines (byteAt bs 0) (bs.drop 1) with
      | none => .error i
      | some (ps, rest) =>
        match readCurveSets n (i + 1) rest with
        | .error j => .error j
        | .ok (sets, rest') => .ok (ps :: sets, rest')

/-- The edges of a content with `n` bands. -/
def edgesOf (n : Nat) (bs : List Byte) : List Int := (List.range (n - 1)).map fun i => s16At bs (3 + 2 * i)

/-- The header fields of the table, checked as part of band 0 (R93). -/
def bandsHeaderOk (bs : List Byte) : Bool :=
  decide (3 ≤ bs.length) && decide (1 ≤ byteAt bs 0 ∧ byteAt bs 0 ≤ 15) &&
  decide (3 + 2 * (byteAt bs 0 - 1) ≤ bs.length) && decide (byteAt bs 1 ≤ 50) && decide (byteAt bs 2 ≤ 15) &&
  (edgesOf (byteAt bs 0) bs).all (fun e => decide (-450 ≤ e ∧ e ≤ 450)) &&
  decide ((edgesOf (byteAt bs 0) bs).Pairwise (· < ·))

/-- Reads a BANDS content, or answers the index of the first band that fails; bytes left over are named with the band
count (R93, R170). -/
def readBands (bs : List Byte) : Except Nat BandTable :=
  if bandsHeaderOk bs then
    match readCurveSets (byteAt bs 0) 0 (bs.drop (3 + 2 * (byteAt bs 0 - 1))) with
    | .error i => .error i
    | .ok (sets, []) => .ok ⟨byteAt bs 1, byteAt bs 2, edgesOf (byteAt bs 0) bs, sets⟩
    | .ok (_, _ :: _) => .error (byteAt bs 0)
  else .error 0

/-- The Band Table in force; a content in force has passed its check. -/
def bandTableOf (bs : List Byte) : BandTable :=
  match readBands bs with
  | .ok t => t
  | .error _ => ⟨0, 0, [], [[]]⟩

def BandTable.count (t : BandTable) : Nat := t.edges.length + 1

/-! ## Glyphs (R88, R89) -/

/-- Where the reading of a glyph's runs stands: before a run, before a repeat run's code, inside a literal run. -/
inductive RunState where
  | head
  | rep (n : Nat)
  | lit (n : Nat)
deriving DecidableEq, Repr

/-- The codes that a glyph record's run bytes decode into, or none where a run is cut short or a code is above 15. -/
def readRuns : RunState → List Byte → Option (List Nat)
  | .head, [] => some []
  | .rep _, [] => none
  | .lit _, [] => none
  | .head, b :: bs =>
    if b.toNat < 128 then readRuns (.rep (b.toNat + 1)) bs else readRuns (.lit (b.toNat - 128 + 1)) bs
  | .rep n, b :: bs =>
    if b.toNat ≤ 15 then (readRuns .head bs).map (List.replicate n b.toNat ++ ·) else none
  | .lit n, b :: bs =>
    if b.toNat ≤ 15 then (readRuns (if n ≤ 1 then .head else .lit (n - 1)) bs).map (b.toNat :: ·) else none

/-- One glyph record at the head of the bytes, and what follows it (R89). -/
def readGlyph (seen : List Nat) (bs : List Byte) : Option (Glyph × List Byte) :=
  if bs.length < 5 ∨ bs.length < 5 + u16At bs 3 then none
  else if 31 < byteAt bs 0 ∨ byteAt bs 0 ∈ seen ∨ byteAt bs 1 < 1 ∨ 64 < byteAt bs 1 ∨ byteAt bs 2 < 1 ∨ 64 < byteAt bs 2 then
    none
  else match readRuns .head (sliceOf bs 5 (u16At bs 3)) with
    | none => none
    | some codes =>
      if codes.length = byteAt bs 1 * byteAt bs 2 then
        some (⟨byteAt bs 0, byteAt bs 1, byteAt bs 2, codes⟩, bs.drop (5 + u16At bs 3))
      else none

/-- Reads glyph records to the end of the bytes; the index of the first that fails otherwise. -/
def readGlyphsFrom : Nat → List Nat → Nat → List Byte → Except Nat (List Glyph)
  | 0, _, i, bs => if bs = [] then .ok [] else .error i
  | fuel + 1, seen, i, bs =>
    if bs = [] then .ok []
    else match readGlyph seen bs with
      | none => .error i
      | some (g, rest) =>
        match readGlyphsFrom fuel (g.index :: seen) (i + 1) rest with
        | .error j => .error j
        | .ok gs => .ok (g :: gs)

/-- A GLYPHS content; indices differ, so there are at most 32 records. -/
def readGlyphs (bs : List Byte) : Except Nat (List Glyph) := readGlyphsFrom 33 [] 0 bs

/-- The Glyph Store in force. -/
def glyphStoreOf (bs : List Byte) : List Glyph :=
  match readGlyphs bs with
  | .ok gs => gs
  | .error _ => []

def findGlyph (bs : List Byte) (index : Nat) : Option Glyph := (glyphStoreOf bs).find? fun g => g.index == index

/-! ## Every table -/

/-- The size limits (table contents of the formats section). -/
def Table.limit : Table → Nat
  | .tileMap => 3456
  | .warpGrid => 2508
  | .cameraProfile => 19
  | .checkWindows => 32
  | .balance => 12
  | .bands => 2971
  | .palette => 64
  | .glyphs => 8192
  | .overlay => 2048
  | .modeRules => 7

def Table.isLayout : Table → Bool
  | .tileMap => true
  | .warpGrid => true
  | .cameraProfile => false
  | .checkWindows => false
  | .balance => false
  | .bands => false
  | .palette => false
  | .glyphs => false
  | .overlay => false
  | .modeRules => false

/-- The table's owner's content check: the index of the first bad record, or none (R164). -/
def contentCheck (t : Table) (bs : List Byte) : Option Nat :=
  match t with
  | .tileMap => recordsCheck 576 6 tileOk bs
  | .warpGrid => recordsCheck 627 4 vertexOk bs
  | .cameraProfile => recordsCheck 1 19 profileOk bs
  | .checkWindows => windowsCheck bs
  | .balance => balanceCheck bs
  | .bands =>
    match readBands bs with
    | .ok _ => none
    | .error i => some i
  | .palette => recordsCheck 16 4 paletteOk bs
  | .glyphs =>
    match readGlyphs bs with
    | .ok _ => none
    | .error i => some i
  | .overlay => recordsCheck 64 32 elementOk bs
  | .modeRules => recordsCheck 1 7 modeRulesOk bs

/-- The target of a table by a request's or an entry's slot and camera bytes, or none where one is out of range (R162).
Target bytes of a table that has no such target are ignored. -/
def targetOf (t : Table) (slot camera : Nat) : Option (Fin 4 × Cam) :=
  match t with
  | .tileMap => (index4 slot).map fun s => (s, 0)
  | .warpGrid => (index4 slot).bind fun s => (index4 camera).map fun c => (s, c)
  | .cameraProfile => (index4 camera).map fun c => (0, c)
  | .checkWindows => (index4 camera).map fun c => (0, c)
  | .balance => some (0, 0)
  | .bands => some (0, 0)
  | .palette => some (0, 0)
  | .glyphs => some (0, 0)
  | .overlay => some (0, 0)
  | .modeRules => some (0, 0)

end Sys2Proof.Machine
end

