-- ==== Sys2Proof/Machine/Layouts.lean ====
section
/-! DEFINITION. The layout store (02_layouts_tile_maps_and_warp_grids.md, R23 to R37): conditions, bound and in-use
slots, and the write of a tile map or a warp grid. -/

namespace Sys2Proof.Machine

/-- A slot's condition (R24). -/
inductive Condition where
  | empty
  | incomplete
  | valid
deriving DecidableEq, Repr

/-- R24, with the named set of R23. -/
def LayoutSlot.condition (l : LayoutSlot) : Condition :=
  match l.tileMap with
  | none => .empty
  | some map => if allCams.all fun c => !namesCam map c || (l.grids.get c).isSome then .valid else .incomplete

/-- The binding of a mode; STANDBY has none (R101). -/
def Bindings.of (b : Bindings) : Mode → Option (Fin 4)
  | .standby => none
  | .panorama => b.panorama
  | .turn => b.turn
  | .lift => b.lift
  | .kerb => b.kerb

def Bindings.set (b : Bindings) (m : Mode) (v : Option (Fin 4)) : Bindings :=
  match m with
  | .standby => b
  | .panorama => { b with panorama := v }
  | .turn => { b with turn := v }
  | .lift => { b with lift := v }
  | .kerb => { b with kerb := v }

/-- A slot is bound while some mode is bound to it (R30). -/
def State.isBound (s : State) (i : Fin 4) : Bool :=
  decide (s.modes.bind.panorama = some i) || decide (s.modes.bind.turn = some i) ||
  decide (s.modes.bind.lift = some i) || decide (s.modes.bind.kerb = some i)

/-- A slot no load can reach: bound or in use (R29, R31, R32). -/
def State.slotGuarded (s : State) (i : Fin 4) : Bool := s.isBound i || decide (s.layouts.inUse = some i)

/-- Replaces one slot of the layout store. -/
def State.setLayout (s : State) (i : Fin 4) (l : LayoutSlot) : State :=
  { s with layouts.slots := s.layouts.slots.set i l }

/-- Writes a tile map or a grid into its slot, whole (R23, R32, R36). Other tables are not the layout store's. -/
def State.writeLayout (s : State) (d : TableLoad) : State :=
  match d.table with
  | .tileMap => s.setLayout d.slot { s.layouts.slots.get d.slot with tileMap := some d.content }
  | .warpGrid =>
    s.setLayout d.slot { s.layouts.slots.get d.slot with
      grids := (s.layouts.slots.get d.slot).grids.set d.cam (some d.content) }
  | _ => s

end Sys2Proof.Machine
end

