-- ==== Sys2Proof/Machine/Compose.lean ====
section
/-! DEFINITION. Composition arithmetic (03_composition_arithmetic.md, R39 to R51, R56): what one output pixel is, from
the frame plan, a layout slot and the source bytes, and the source reads a band asks for. Every division is div. -/

namespace Sys2Proof.Machine

/-- A full-form pixel (R48). -/
structure Pix where
  y : Nat
  cb : Nat
  cr : Nat
deriving DecidableEq, Repr

/-- Black (00_scope.md, Terms). -/
def Pix.black : Pix := ⟨16, 128, 128⟩

/-! ## Weight and treatment (R39 to R42) -/

/-- The tile of an output pixel (section 3.2). -/
def tileIndex (x y : Nat) : Nat := y / 32 * 32 + x / 32

/-- The ramp position of a tile offset (R39). -/
def rampPosition (t : Tile) (i j : Nat) : Int := if t.down then (j : Int) else (i : Int)

/-- The secondary weight of a tile with a secondary camera, at ramp position `p` (R39). -/
def rampWeight (o : Int) (d : Nat) (p : Int) : Nat :=
  if d = 0 then (if o ≤ p then 256 else 0)
  else if p < o then 0
  else if o + (d : Int) ≤ p then 256
  else ((p - o).toNat * 256 + d / 2) / d

/-- The secondary weight w of a tile offset (R39). -/
def secondaryWeight (t : Tile) (i j : Nat) : Nat :=
  match t.secondary with
  | none => 0
  | some _ => rampWeight t.origin t.width (rampPosition t i j)

/-- The contributing cameras of a pixel with secondary weight `w`: those whose weight is above 0 (R39). -/
def contributors (t : Tile) (w : Nat) : List Cam :=
  match t.primary with
  | none => []
  | some p =>
    (if w < 256 then [p] else []) ++
    (match t.secondary with
      | none => []
      | some q => if 0 < w then [q] else [])

/-- The four corner positions of a tile in one camera's grid, top-left, top-right, bottom-left, bottom-right (R43). -/
structure Corners where
  a00 : Nat × Nat
  a10 : Nat × Nat
  a01 : Nat × Nat
  a11 : Nat × Nat
deriving DecidableEq, Repr

/-- The corners of tile `t` in a grid (R27), or none when one of them is INVALID. -/
def cornersOf (grid : List Byte) (t : Nat) : Option Corners :=
  match vertexAt grid (33 * (t / 32) + t % 32), vertexAt grid (33 * (t / 32) + t % 32 + 1),
    vertexAt grid (33 * (t / 32 + 1) + t % 32), vertexAt grid (33 * (t / 32 + 1) + t % 32 + 1) with
  | some a, some b, some c, some d => some ⟨a, b, c, d⟩
  | _, _, _, _ => none

/-- The corners of tile `t` for camera `c` in a layout slot; a camera whose grid is absent has none. -/
def LayoutSlot.corners (l : LayoutSlot) (c : Cam) (t : Nat) : Option Corners :=
  (l.grids.get c).bind fun g => cornersOf g t

inductive Treatment where
  | hatch
  | blank
  | composed
deriving DecidableEq, Repr

/-- The tile record of a pixel, where the slot has a tile map. -/
def LayoutSlot.tile (l : LayoutSlot) (x y : Nat) : Option Tile := l.tileMap.map fun m => tileAt m (tileIndex x y)

/-- The three tests of R40, in their order, for a pixel of tile record `t`. -/
def tileTreatment (live : Quad Bool) (l : LayoutSlot) (t : Tile) (x y : Nat) : Treatment :=
  let cs := contributors t (secondaryWeight t (x % 32) (y % 32))
  if cs.any fun c => !live.get c then .hatch
  else if t.primary.isNone || cs.any fun c => (l.corners c (tileIndex x y)).isNone then .blank
  else .composed

/-- The layout slot a frame is composed through: none for layout slot NONE (R40). -/
def planLayout (plan : Plan) (slots : Quad LayoutSlot) : Option LayoutSlot := plan.slot.map slots.get

/-- The treatment of an output pixel (R40): blank throughout where the layout slot is NONE. -/
def treatment (plan : Plan) (slots : Quad LayoutSlot) (x y : Nat) : Treatment :=
  match planLayout plan slots with
  | none => .blank
  | some l =>
    match l.tile x y with
    | none => .blank
    | some t => tileTreatment plan.live l t x y

/-- Hatch (R41): palette entry 0 and black in diagonal stripes. -/
def hatchPixel (palette : List Byte) (x y : Nat) : Pix :=
  if (x + y) / 8 % 2 = 0 then ⟨(paletteEntry palette 0).y, (paletteEntry palette 0).cb, (paletteEntry palette 0).cr⟩
  else Pix.black

/-! ## Composing a pixel (R43 to R48) -/

/-- The interpolation of R43 of one coordinate. -/
def interpolate (i j v00 v10 v01 v11 : Nat) : Nat :=
  ((32 - i) * (32 - j) * v00 + i * (32 - j) * v10 + (32 - i) * j * v01 + i * j * v11 + 512) / 1024

/-- The source position (X, Y) of a tile offset (R43). -/
def sourcePosition (c : Corners) (i j : Nat) : Nat × Nat :=
  (interpolate i j c.a00.1 c.a10.1 c.a01.1 c.a11.1, interpolate i j c.a00.2 c.a10.2 c.a01.2 c.a11.2)

/-- The bilinear sample of four neighbours (R45). -/
def bilinear (fx fy p00 p10 p01 p11 : Nat) : Nat :=
  ((16 - fx) * (16 - fy) * p00 + fx * (16 - fy) * p10 + (16 - fx) * fy * p01 + fx * fy * p11 + 128) / 256

/-- The byte of camera pixel (x, y)'s luma within a slot, neighbours outside the frame taken at its edge (R44, R45). -/
def lumaOffset (x y : Nat) : Nat := min y 799 * 2560 + 2 * min x 1279

/-- The byte of chroma pixel (xc, y)'s Cb within a slot (R44, R46). -/
def cbOffset (xc y : Nat) : Nat := min y 799 * 2560 + 4 * min xc 639 + 1

/-- The byte of chroma pixel (xc, y)'s Cr within a slot (R44, R46). -/
def crOffset (xc y : Nat) : Nat := min y 799 * 2560 + 4 * min xc 639 + 3

/-- A sample of a plane at integer position (x, y) with fractions (R45, R46). -/
def samplePlane (fetch : Nat → Nat) (offset : Nat → Nat → Nat) (x y fx fy : Nat) : Nat :=
  bilinear fx fy (fetch (offset x y)) (fetch (offset (x + 1) y)) (fetch (offset x (y + 1)))
    (fetch (offset (x + 1) (y + 1)))

/-- The luma sample S at source position (X, Y) (R45). -/
def lumaSample (fetch : Nat → Nat) (p : Nat × Nat) : Nat :=
  samplePlane fetch lumaOffset (p.1 / 16) (p.2 / 16) (p.1 % 16) (p.2 % 16)

/-- The Cb sample (R46); the chroma position is X div 2 in 1/16 of a chroma pixel (R43). -/
def cbSample (fetch : Nat → Nat) (p : Nat × Nat) : Nat :=
  samplePlane fetch cbOffset (p.1 / 2 / 16) (p.2 / 16) (p.1 / 2 % 16) (p.2 % 16)

/-- The Cr sample (R46). -/
def crSample (fetch : Nat → Nat) (p : Nat × Nat) : Nat :=
  samplePlane fetch crOffset (p.1 / 2 / 16) (p.2 / 16) (p.1 / 2 % 16) (p.2 % 16)

/-- The gained luma (R47). -/
def gainedLuma (s g : Nat) : Nat := min 255 ((s * g + 128) / 256)

/-- The blend of a primary and a secondary value (R48). -/
def blend (w a b : Nat) : Nat := (a * (256 - w) + b * w + 128) / 256

/-- A camera's part of a composed pixel: its luma sample, gained luma and chroma samples. -/
structure CamSample where
  s : Nat
  g : Nat
  cb : Nat
  cr : Nat
deriving DecidableEq, Repr

def CamSample.zero : CamSample := ⟨0, 0, 0, 0⟩

/-- The sample of one camera at a tile offset; a camera that is not sampled gives 0 (R48). -/
def camSample (plan : Plan) (l : LayoutSlot) (fetch : Cam → Nat → Nat) (c : Cam) (x y : Nat) : CamSample :=
  match l.corners c (tileIndex x y) with
  | none => CamSample.zero
  | some k =>
    let p := sourcePosition k (x % 32) (y % 32)
    let s := lumaSample (fetch c) p
    ⟨s, gainedLuma s (plan.gain.get c), cbSample (fetch c) p, crSample (fetch c) p⟩

/-- The primary and secondary samples of a composed pixel: one of weight 0 is not sampled (R48). -/
def pixelSamples (plan : Plan) (l : LayoutSlot) (fetch : Cam → Nat → Nat) (t : Tile) (w x y : Nat) :
    CamSample × CamSample :=
  let cs := contributors t w
  let sample := fun (o : Option Cam) =>
    match o with
    | none => CamSample.zero
    | some c => if c ∈ cs then camSample plan l fetch c x y else CamSample.zero
  (sample t.primary, sample t.secondary)

/-- A composed pixel (R48). -/
def composedPixel (plan : Plan) (l : LayoutSlot) (fetch : Cam → Nat → Nat) (t : Tile) (x y : Nat) : Pix :=
  let w := secondaryWeight t (x % 32) (y % 32)
  let (a, b) := pixelSamples plan l fetch t w x y
  ⟨blend w a.g b.g, blend w a.cb b.cb, blend w a.cr b.cr⟩

/-- An output pixel as the compositor leaves it, before overlays (R40). -/
def compositorPixel (plan : Plan) (slots : Quad LayoutSlot) (palette : List Byte) (fetch : Cam → Nat → Nat) (x y : Nat) :
    Pix :=
  match treatment plan slots x y with
  | .hatch => hatchPixel palette x y
  | .blank => Pix.black
  | .composed =>
    match planLayout plan slots with
    | none => Pix.black
    | some l =>
      match l.tile x y with
      | none => Pix.black
      | some t => composedPixel plan l fetch t x y

/-! ## Seam statistics (R51) -/

/-- The record of an unordered pair, named by its lower and its upper camera. -/
def Seam.get (s : Seam) (lo hi : Cam) : PairRecord :=
  match lo, hi with
  | 0, 1 => s.p01
  | 0, 2 => s.p02
  | 0, 3 => s.p03
  | 1, 2 => s.p12
  | 1, 3 => s.p13
  | 2, 3 => s.p23
  | _, _ => ⟨0, 0, 0⟩

def Seam.set (s : Seam) (lo hi : Cam) (r : PairRecord) : Seam :=
  match lo, hi with
  | 0, 1 => { s with p01 := r }
  | 0, 2 => { s with p02 := r }
  | 0, 3 => { s with p03 := r }
  | 1, 2 => { s with p12 := r }
  | 1, 3 => { s with p13 := r }
  | 2, 3 => { s with p23 := r }
  | _, _ => s

/-- Adds one seam pixel: camera `a` gave luma sample `sa`, camera `b` gave `sb` (R51). -/
def Seam.add (s : Seam) (a b : Cam) (sa sb : Nat) : Seam :=
  if a < b then s.set a b ⟨(s.get a b).lower + sa, (s.get a b).upper + sb, (s.get a b).n + 1⟩
  else s.set b a ⟨(s.get b a).lower + sb, (s.get b a).upper + sa, (s.get b a).n + 1⟩

/-- What the pair of a follower `c` and its partner `p` shows: c's sum, p's sum and the count (R62). -/
def Seam.pair (s : Seam) (c p : Cam) : Nat × Nat × Nat :=
  if c < p then ((s.get c p).lower, (s.get c p).upper, (s.get c p).n)
  else ((s.get p c).upper, (s.get p c).lower, (s.get p c).n)

/-- What one output pixel adds to the seam statistics: only a composed seam pixel adds (R51). -/
def seamPixel (plan : Plan) (slots : Quad LayoutSlot) (fetch : Cam → Nat → Nat) (x y : Nat) (s : Seam) : Seam :=
  match planLayout plan slots with
  | none => s
  | some l =>
    match l.tile x y with
    | none => s
    | some t =>
      let w := secondaryWeight t (x % 32) (y % 32)
      match t.primary, t.secondary with
      | some a, some b =>
        if tileTreatment plan.live l t x y = .composed ∧ 0 < w ∧ w < 256 then
          s.add a b (camSample plan l fetch a x y).s (camSample plan l fetch b x y).s
        else s
      | _, _ => s

/-- The output pixels of band `b`, row by row. -/
def bandPositions (b : Nat) : List (Nat × Nat) :=
  (List.range 32).flatMap fun r => (List.range 1024).map fun x => (x, 32 * b + r)

/-- The seam statistics after band `b` is composed. -/
def bandSeam (plan : Plan) (slots : Quad LayoutSlot) (fetch : Cam → Nat → Nat) (b : Nat) (s : Seam) : Seam :=
  (bandPositions b).foldl (fun s p => seamPixel plan slots fetch p.1 p.2 s) s

/-! ## Source reads (R56) -/

/-- The bytes of a slot, as line and byte within the line, that the neighbours of a source position touch (R45, R46). -/
def touchedBytes (p : Nat × Nat) : List (Nat × Nat) :=
  let xi := p.1 / 16
  let xc := p.1 / 2 / 16
  [p.2 / 16, p.2 / 16 + 1].flatMap fun y =>
    [2 * min xi 1279, 2 * min (xi + 1) 1279, 4 * min xc 639 + 1, 4 * min xc 639 + 3, 4 * min (xc + 1) 639 + 1,
      4 * min (xc + 1) 639 + 3].map fun byte => (min y 799, byte)

/-- What the composed pixels of band `b` touch in camera `c`'s source slot. -/
def bandTouches (plan : Plan) (l : LayoutSlot) (b : Nat) (c : Cam) : List (Nat × Nat) :=
  (bandPositions b).flatMap fun (x, y) =>
    match l.tile x y with
    | none => []
    | some t =>
      if tileTreatment plan.live l t x y = .composed ∧ c ∈ contributors t (secondaryWeight t (x % 32) (y % 32)) then
        match l.corners c (tileIndex x y) with
        | none => []
        | some k => touchedBytes (sourcePosition k (x % 32) (y % 32))
      else []

/-- The reads of one camera: for each line touched, in rising order, one run from the lowest byte touched to the highest
(DESIGN CHOICE, log 9). -/
def camReads (plan : Plan) (l : LayoutSlot) (b : Nat) (c : Cam) : List SourceRead :=
  match plan.source.get c with
  | none => []
  | some slot =>
    let touches := bandTouches plan l b c
    (List.range 800).flatMap fun line =>
      match (touches.filter fun t => t.1 == line).map Prod.snd with
      | [] => []
      | v :: vs => [⟨c, slot, line, vs.foldl min v, vs.foldl max v - vs.foldl min v + 1⟩]

/-- The source reads of band `b`: none where the layout slot is NONE (R56). -/
def bandReads (plan : Plan) (slots : Quad LayoutSlot) (b : Nat) : List SourceRead :=
  match planLayout plan slots with
  | none => []
  | some l => allCams.flatMap (camReads plan l b)

/-- What the compositor has read of a camera's source slot, by offset within the slot. -/
def BandWork.fetch (w : BandWork) (c : Cam) (offset : Nat) : Nat := (Memory.read 0 (w.data.get c) offset).toNat

end Sys2Proof.Machine
end

