-- ==== Sys2Proof/Machine/Draw.lean ====
section
/-! DEFINITION. Overlay drawing and the output stage (R50, R82 to R91): which pixels a draw-list entry covers and with
which palette entry, the alpha composite, the hold to range and the reduction to 4:2:2. -/

namespace Sys2Proof.Machine

/-! ## Shapes -/

/-- The rectangle holds the output pixel (R76). -/
def Rect.holds (r : Rect) (x y : Int) : Bool :=
  decide (r.left ≤ x ∧ x ≤ r.left + r.width - 1) && decide (r.top ≤ y ∧ y ≤ r.top + r.height - 1)

/-- The pixel lies within `n` of the rectangle's edge (R87 with n = 2, R91 with n = border). -/
def Rect.nearEdge (r : Rect) (n : Nat) (x y : Int) : Bool :=
  decide (x < r.left + n) || decide (r.left + r.width - 1 - n < x) ||
  decide (y < r.top + n) || decide (r.top + r.height - 1 - n < y)

/-- The centre of step `s` of a segment, and whether x is its major axis (R84). -/
def segmentCentre (a b : Int × Int) (s : Nat) : Int × Int :=
  let dx := b.1 - a.1
  let dy := b.2 - a.2
  let len := max dx.natAbs dy.natAbs
  let minor := fun (from_ d : Int) =>
    let k : Int := if len = 0 then 0 else ((2 * s * d.natAbs + len) / (2 * len) : Nat)
    if 0 ≤ d then from_ + k else from_ - k
  let major := fun (from_ d : Int) => if d < 0 then from_ - s else from_ + s
  if dy.natAbs ≤ dx.natAbs then (major a.1 dx, minor a.2 dy) else (minor a.1 dx, major a.2 dy)

/-- The number of steps of a segment, less one (R84). -/
def segmentLength (a b : Int × Int) : Nat := max (b.1 - a.1).natAbs (b.2 - a.2).natAbs

/-- A step covers the pixel: `width` pixels along the minor axis, from the centre less (width − 1) div 2 (R84). -/
def stepCovers (a b : Int × Int) (width s : Nat) (x y : Int) : Bool :=
  let c := segmentCentre a b s
  let back : Int := ((width - 1) / 2 : Nat)
  if (b.2 - a.2).natAbs ≤ (b.1 - a.1).natAbs then
    decide (x = c.1) && decide (c.2 - back ≤ y ∧ y ≤ c.2 - back + width - 1)
  else decide (y = c.2) && decide (c.1 - back ≤ x ∧ x ≤ c.1 - back + width - 1)

/-- A step with step index `n` is drawn: every one of a solid guide, those with n div 8 even of a dashed one (R85). -/
def stepDrawn (dashed : Bool) (n : Nat) : Bool := !dashed || decide (n / 8 % 2 = 0)

/-- Some drawn step of a polyline covers the pixel; `base` is the step index of the first point (R84). -/
def polylineCovers (dashed : Bool) (width : Nat) (x y : Int) : Nat → List (Int × Int) → Bool
  | base, a :: b :: rest =>
    ((List.range (segmentLength a b + 1)).any fun s => stepDrawn dashed (base + s) && stepCovers a b width s x y) ||
    polylineCovers dashed width x y (base + segmentLength a b) (b :: rest)
  | _, [_] => false
  | _, [] => false

/-- The code of the glyph pixel that falls on the output pixel (R90); 0 is transparent. -/
def glyphCode (g : Glyph) (px py : Int) (x y : Int) : Nat :=
  if 0 ≤ x - px ∧ x - px < g.width ∧ 0 ≤ y - py ∧ y - py < g.height then
    g.codes.getD ((y - py).toNat * g.width + (x - px).toNat) 0
  else 0

/-- The palette index with which an entry composites the output pixel, or none where it does not cover it (R82). -/
def Look.colourAt (k : Look) (x y : Int) : Option Nat :=
  match k with
  | .guide colour dashed width points => if polylineCovers dashed width x y 0 points then some colour else none
  | .zone _ colour rect filled =>
    if rect.holds x y && (filled || rect.nearEdge 2 x y) then some colour else none
  | .icon px py glyph => if glyphCode glyph px py x y = 0 then none else some (glyphCode glyph px py x y)
  | .frame colour rect border => if rect.holds x y && rect.nearEdge border x y then some colour else none

/-! ## Composite (R82) -/

/-- One value composited: `u` under, `p` over, alpha `a`. -/
def alphaMix (u p a : Nat) : Nat := (u * (16 - a) + p * a + 8) / 16

def composite (e : PaletteEntry) (u : Pix) : Pix := ⟨alphaMix u.y e.y e.alpha, alphaMix u.cb e.cb e.alpha, alphaMix u.cr e.cr e.alpha⟩

/-- An entry drawn over a pixel. -/
def drawEntry (palette : List Byte) (x y : Nat) (u : Pix) (e : DrawEntry) : Pix :=
  match e.look.colourAt x y with
  | none => u
  | some i => composite (paletteEntry palette i) u

/-- The draw list over a pixel, entry by entry in list order (R82). -/
def drawList (palette : List Byte) (entries : List DrawEntry) (x y : Nat) (u : Pix) : Pix :=
  entries.foldl (drawEntry palette x y) u

/-! ## Output stage (R50) -/

def holdTo (lo hi v : Nat) : Nat := max lo (min hi v)

/-- Luma held to 16..235 and chroma to 16..240. -/
def holdPixel (p : Pix) : Pix := ⟨holdTo 16 235 p.y, holdTo 16 240 p.cb, holdTo 16 240 p.cr⟩

/-- A line in 4:2:2: the pixel at even x carries the pair's Cb, the pixel at x + 1 its Cr. `pix` is held to range. -/
def packLine (pix : Nat → Pix) : List Sample :=
  (List.range 1024).map fun x =>
    if x % 2 = 0 then ⟨(pix x).y, ((pix x).cb + (pix (x + 1)).cb + 1) / 2⟩
    else ⟨(pix x).y, ((pix (x - 1)).cr + (pix x).cr + 1) / 2⟩

/-- The 32 lines of band `b` as they are written into its half: composed, drawn over, held to range and packed. -/
def bandLines (plan : Plan) (slots : Quad LayoutSlot) (palette : List Byte) (entries : List DrawEntry)
    (fetch : Cam → Nat → Nat) (b : Nat) : List (List Sample) :=
  (List.range 32).map fun r =>
    packLine fun x =>
      holdPixel (drawList palette entries x (32 * b + r) (compositorPixel plan slots palette fetch x (32 * b + r)))

end Sys2Proof.Machine
end

