-- ==== Sys2Proof/Machine/Bands.lean ====
section
/-! DEFINITION. The DRAM arbiter (R20), the compositor's band-by-band schedule, underrun (R53 to R58), and the commands
of a transfer's end and of a band. -/

namespace Sys2Proof.Machine

/-! ## The arbiter (R20) -/

/-- The ports in cyclic order, the first after `p` first. -/
def portsAfter : Cam → List Cam
  | 0 => [1, 2, 3, 0]
  | 1 => [2, 3, 0, 1]
  | 2 => [3, 0, 1, 2]
  | 3 => [0, 1, 2, 3]

/-- The camera write to grant: among the ports with a line waiting, the first after the one most recently granted. -/
def State.nextWriter (s : State) : Option Cam := (portsAfter s.dram.lastPort).find? fun p => !(s.port p).bufs.isEmpty

/-- The arbiter grants a transfer where DRAM is idle: a camera write if one waits, the compositor's read otherwise. -/
def State.grant (s : State) : State :=
  match s.dram.granted with
  | some _ => s
  | none =>
    match s.nextWriter with
    | some p => { s with dram := { s.dram with granted := some (.write p), lastPort := p } }
    | none =>
      match s.comp.work with
      | none => s
      | some w =>
        match w.reads with
        | [] => s
        | r :: rest =>
          { s with dram.granted := some (.read r true), comp.work := some { w with reads := rest } }

/-- The byte offset of slot `i` of port `p` in DRAM (R15). -/
def slotBase (p : Cam) (i : Fin 3) : Nat := (3 * p.val + i.val) * Config.slotBytes

/-- The write granted to port `p` ends: the oldest of its line buffers is written and becomes free (R2, R20). -/
def State.finishWrite (s : State) (p : Cam) : State :=
  match (s.port p).bufs with
  | [] => s
  | b :: rest =>
    { s.setPort p { s.port p with bufs := rest } with
      dram.mem := Memory.writeBytes dramDefault s.dram.mem (slotBase p b.slot + b.line * Config.lineBytes) b.data }

/-- DRAM_WRITE_COMPLETE (R20). -/
def State.dramWriteComplete (s : State) : State :=
  match s.dram.granted with
  | some (.write p) => ({ s.finishWrite p with dram := { (s.finishWrite p).dram with granted := none } } : State).grant
  | some (.read _ _) => s
  | none => s

/-! ## Halves and starting a band (R53) -/

def Compositor.half (c : Compositor) (b : Nat) : Half := if b % 2 = 0 then c.half0 else c.half1

def Compositor.setHalf (c : Compositor) (b : Nat) (h : Half) : Compositor :=
  if b % 2 = 0 then { c with half0 := h } else { c with half1 := h }

/-- The compositor starts band `b` (R53): its half becomes WRITING, its source reads are asked for, and a band that needs
none is composed at once. -/
def State.startBand (s : State) (b : Nat) : State :=
  let reads := bandReads s.comp.plan s.layouts.slots b
  ({ s with comp := { s.comp.setHalf b ⟨.writing, b, []⟩ with
      work := some ⟨b, reads, Quad.fill [], reads.isEmpty⟩
      next := b + 1 } } : State).grant

/-- The compositor starts its next band where it works on none and the band's half is FREE (R53). -/
def State.tryStartBand (s : State) : State :=
  if s.comp.work = none ∧ s.comp.next < 18 ∧ (s.comp.half s.comp.next).st = .free then s.startBand s.comp.next else s

/-- The transfer in progress, if a source read, is no longer wanted: it runs to its end and its data are discarded
(R54). -/
def Dram.unwantRead (d : Dram) : Dram :=
  match d.granted with
  | some (.read r _) => { d with granted := some (.read r false) }
  | some (.write _) => d
  | none => d

/-- The compositor abandons the band it works on: its waiting reads are withdrawn (R54, R57). -/
def State.dropWork (s : State) : State :=
  match s.comp.work with
  | none => s
  | some _ => { s with comp.work := none, dram := s.dram.unwantRead }

/-! ## Source reads and completion (R49, R53, R56) -/

/-- The band with the data of one more read; when it was the last, every pixel is composed (R49). -/
def BandWork.receive (w : BandWork) (r : SourceRead) (bytes : List Byte) : BandWork :=
  { w with
    data := w.data.set r.cam (Memory.writeBytes 0 (w.data.get r.cam) (r.line * Config.lineBytes + r.first) bytes)
    composed := w.reads.isEmpty }

/-- The bytes of a source read as they stand in DRAM. -/
def State.readSource (s : State) (r : SourceRead) : List Byte :=
  Memory.readBytes dramDefault s.dram.mem (slotBase r.cam r.slot + r.line * Config.lineBytes + r.first) r.len

/-- The compositor takes in a read it wants; a band composed by it adds its seam statistics (R51). -/
def State.takeRead (s : State) (r : SourceRead) : State :=
  match s.comp.work with
  | none => s
  | some w =>
    let w' := w.receive r (s.readSource r)
    { s with comp := { s.comp with
        work := some w'
        seam := if w'.composed then bandSeam s.comp.plan s.layouts.slots w'.fetch w'.band s.comp.seam
          else s.comp.seam } }

/-- SOURCE_READ_COMPLETE (R20, R56). -/
def State.sourceReadComplete (s : State) : State :=
  match s.dram.granted with
  | some (.read r wanted) =>
    let s' := if wanted then s.takeRead r else s
    ({ s' with dram.granted := none } : State).grant
  | some (.write _) => s
  | none => s

/-- BAND_COMPLETION (R53): the half becomes COMPLETE, provided it is still WRITING for the band, and the compositor goes
on. A completion of a band it no longer works on is discarded (R54). -/
def State.bandCompletion (s : State) (b : Nat) : State :=
  match s.comp.work with
  | none => s
  | some w =>
    if w.band = b ∧ w.composed then
      let h := s.comp.half b
      let h' : Half :=
        if h.st = .writing ∧ h.band = b then
          ⟨.complete, b, bandLines s.comp.plan s.layouts.slots s.ovl.palette s.ovl.drawList w.fetch b⟩
        else h
      ({ s with comp := { s.comp.setHalf b h' with work := none } } : State).tryStartBand
    else s

/-! ## The transmitter at a band (R54, R55) -/

/-- One more underrun of band `b` in an underrun record (R55). -/
def Underrun.note (u : Underrun) (b : Nat) : Underrun := ⟨some (u.first.getD b), u.count + 1⟩

/-- An underrun of band `b` (R54): fill in its half, the band abandoned, the frame's statistics incomplete, the record
and the event, and the compositor goes on to the next band. -/
def State.underrunBand (s : State) (b : Nat) : State :=
  let s1 := match s.comp.work with
    | none => s
    | some w => if w.band = b then s.dropWork else s
  let s2 : State := { s1 with
    comp := { s1.comp.setHalf b ⟨.fill, b, []⟩ with incomplete := true }
    tx.underrun := s1.tx.underrun.note b }
  (s2.raise evUnderrun).tryStartBand.grant

/-- BAND_START (R54). -/
def State.bandStart (s : State) (b : Nat) : State :=
  let s' : State := { s with tx.phase := .inBand b }
  match (s.comp.half b).st with
  | .complete => { s' with comp := s.comp.setHalf b { s.comp.half b with st := .sending } }
  | .writing => s'.underrunBand b
  | .free => s'
  | .sending => s'
  | .fill => s'

/-- BAND_END (R53): the half becomes FREE from SENDING or FILL, and a band that waits for it starts. -/
def State.bandEnd (s : State) (b : Nat) : State :=
  let s' : State := { s with tx.phase := .afterBand b }
  match (s.comp.half b).st with
  | .sending => ({ s' with comp := s.comp.setHalf b Half.empty } : State).tryStartBand
  | .fill => ({ s' with comp := s.comp.setHalf b Half.empty } : State).tryStartBand
  | .free => s'
  | .writing => s'
  | .complete => s'

/-! ## Resets (R20, R57, R58) -/

/-- The lowest-numbered band of the frame whose band start has not been taken; 18 when there is none (R57). -/
def TxPhase.nextBand : TxPhase → Nat
  | .header => 0
  | .inBand b => b + 1
  | .afterBand b => b + 1
  | .blanking => 18

/-- A half at a FULL reset (R57): SENDING and FILL go on, every other becomes FREE. -/
def Half.fullReset (h : Half) : Half :=
  match h.st with
  | .sending => h
  | .fill => h
  | .free => Half.empty
  | .writing => Half.empty
  | .complete => Half.empty

/-- The compositor at a FULL reset (R57). -/
def State.resetCompositor (s : State) : State :=
  let s' := s.dropWork
  ({ s' with comp :=
      { plan := Plan.powerOn, work := none, next := s.tx.phase.nextBand, seam := Seam.zero, incomplete := true,
        half0 := s.comp.half0.fullReset, half1 := s.comp.half1.fullReset } } : State).tryStartBand

/-! ## What the transmitter sends of the picture (R148) -/

/-- Sample x of active line `32b + r` of the frame being sent: the band as composed from a SENDING half, black
otherwise. -/
def State.activeSample (s : State) (b r x : Nat) : Sample :=
  if (s.comp.half b).st = .sending ∧ (s.comp.half b).band = b then
    (((s.comp.half b).lines.getD r []).getD x ⟨16, 128⟩)
  else ⟨16, 128⟩

/-! ## Commands -/

/-- DRAM_WRITE_COMPLETE. -/
def execDramWriteComplete (s : State) : Host.Outcome State Fault Refusal := .next s.dramWriteComplete

/-- SOURCE_READ_COMPLETE. -/
def execSourceReadComplete (s : State) : Host.Outcome State Fault Refusal := .next s.sourceReadComplete

/-- BAND_COMPLETION. -/
def execBandCompletion (band : Fin 18) (s : State) : Host.Outcome State Fault Refusal := .next (s.bandCompletion band.val)

/-- BAND_START. -/
def execBandStart (band : Fin 18) (s : State) : Host.Outcome State Fault Refusal := .next (s.bandStart band.val)

/-- BAND_END. -/
def execBandEnd (band : Fin 18) (s : State) : Host.Outcome State Fault Refusal := .next (s.bandEnd band.val)

end Sys2Proof.Machine
end

