-- ==== Sys2Proof/Machine/Channels.lean ====
section
/-! DEFINITION. Camera control channels (08_camera_control_channels.md, R131 to R146): arbitration, the exchange on the
wire step by step, results and their hand-over, and the commands of a back channel. -/

namespace Sys2Proof.Machine

/-! ## Arbitration (R143) -/

/-- What the arbiter can select. -/
inductive Choice where
  | attention
  | pass (x : XferRequest)
  | exposure (value : Nat)
deriving DecidableEq, Repr

/-- R143: the attention read first; then whichever of pass-through and exposure was not served last; then the one that
waits. -/
def Channel.choose (c : Channel) : Option Choice :=
  if c.attnWaiting then some .attention
  else match c.queue, c.exposure with
    | [], none => none
    | x :: _, none => some (.pass x)
    | [], some v => some (.exposure v)
    | x :: _, some v =>
      match c.lastServed with
      | .passThrough => some (.exposure v)
      | .exposure => some (.pass x)

/-- The selected requester no longer waits, and pass-through and exposure are recorded as last served (R143). -/
def Channel.take (c : Channel) : Choice → Channel
  | .attention => { c with attnWaiting := false }
  | .pass _ => { c with queue := c.queue.tail, lastServed := .passThrough }
  | .exposure _ => { c with exposure := none, lastServed := .exposure }

/-- The transaction of a selected requester, filled when it starts from the Camera Profile in force (R132, R140). -/
def transactionFor (profile : List Byte) : Choice → Transaction
  | .attention =>
    { who := .attention, device := profileDevice profile, read := true, register := (profileStatus profile).getD 0,
      count := 1, data := [], step := .device, got := [], current := false }
  | .pass x =>
    { who := .pass x.ticket, device := x.device, read := x.read, register := x.register, count := x.count,
      data := x.data, step := .device, got := [], current := false }
  | .exposure v =>
    { who := .exposure v, device := profileDevice profile, read := false,
      register := ((profileExposure profile).map ExposureControl.register).getD 0, count := 2, data := be16 v,
      step := .device, got := [], current := true }

/-- The channel starts a transaction: start mark, then the device address with direction WRITE, whose answer it awaits
(R133 steps 1 and 2, R135). -/
def Channel.start (c : Channel) (t : Transaction) : Channel :=
  { c with
    active := true
    flight := some t
    timer := .running Config.stepMs
    out := c.out ++ [.startMark, .device t.device false] }

/-- Hands a transaction's result to the requester whose it was (R137, R139, R142, R144, R67). -/
def State.handResult (s : State) (p : Cam) (t : Transaction) (r : Result) (data : List Byte) : State :=
  match t.who with
  | .pass ticket => s.answerWith ticket r data
  | .exposure v =>
    if r = .done then
      if t.current then s.setChan p { s.chan p with cached := some v } else s
    else s.raise (evChannelFault p)
  | .attention =>
    if r = .done then (s.setChan p { s.chan p with attnValue := data.getD 0 0 }).raise (evCamAttn p)
    else s.raise (evChannelFault p)

/-- The arbiter of channel `p`, for at most `n` choices: on a locked link the selected transaction starts; on an unlocked
one it ends NO-LINK at selection and the arbiter chooses again (R136). -/
def State.arbitrateN (p : Cam) : Nat → State → State
  | 0, s => s
  | n + 1, s =>
    if (s.chan p).active then s
    else match (s.chan p).choose with
      | none => s
      | some ch =>
        if (s.port p).lock then
          s.setChan p (((s.chan p).take ch).start (transactionFor (s.port p).profile ch))
        else
          State.arbitrateN p n
            ((s.setChan p ((s.chan p).take ch)).handResult p (transactionFor (s.port p).profile ch) .noLink [])

/-- The arbiter makes its choices: no more than there are requesters waiting. -/
def State.arbitrate (s : State) (p : Cam) : State := State.arbitrateN p ((s.chan p).queue.length + 2) s

/-! ## Requesters -/

/-- A nudge or a restore is handed over; it replaces one that waits (R140). -/
def State.handExposure (s : State) (p : Cam) (v : Nat) : State :=
  (s.setChan p { s.chan p with exposure := some v }).arbitrate p

/-- The port asks for an attention read; one that waits is left in place (R141). -/
def State.askAttention (s : State) (p : Cam) : State :=
  (s.setChan p { s.chan p with attnWaiting := true }).arbitrate p

/-- A Camera Profile is applied (R67, R72, R140, R141): the waiting exposure write is withdrawn, the mark of one in
flight cleared, the cached exposure set, and a waiting attention read kept only with a status register. -/
def Channel.applyProfile (c : Channel) (profile : List Byte) : Channel :=
  { c with
    exposure := none
    cached := (profileExposure profile).map ExposureControl.start
    attnWaiting := c.attnWaiting && (profileStatus profile).isSome
    flight := c.flight.map fun t => { t with current := false } }

/-! ## The exchange (R133, R134) -/

/-- The transaction in flight ends: the channel is IDLE, the result is handed over, then the arbiter chooses (R137;
log 14). -/
def State.endTransaction (s : State) (p : Cam) (t : Transaction) (r : Result) (data : List Byte)
    (items : List WireItem) : State :=
  ((s.setChan p { s.chan p with active := false, flight := none, timer := .stopped, out := items }).handResult p t r
    data).arbitrate p

/-- The transaction goes on to a step in which the channel waits on the camera; the step timer starts afresh (R135). -/
def State.nextStep (s : State) (p : Cam) (t : Transaction) (items : List WireItem) : State :=
  s.setChan p { s.chan p with flight := some t, timer := .running Config.stepMs, out := items }

/-- An accepted byte finishes its step (R133, R134). -/
def State.acceptStep (s : State) (p : Cam) (t : Transaction) : State :=
  match t.step with
  | .device => s.nextStep p { t with step := .regHigh } [.byte (BitVec.ofNat 8 (t.register / 256))]
  | .regHigh => s.nextStep p { t with step := .regLow } [.byte (BitVec.ofNat 8 t.register)]
  | .regLow =>
    if t.read then s.nextStep p { t with step := .deviceRead } [.restartMark, .device t.device true]
    else s.nextStep p { t with step := .dataByte 0 } [.byte (t.data.getD 0 0)]
  | .dataByte k =>
    if k + 1 < t.count then s.nextStep p { t with step := .dataByte (k + 1) } [.byte (t.data.getD (k + 1) 0)]
    else s.endTransaction p t .done [] [.stopMark]
  | .deviceRead => s.nextStep p { t with step := .readByte } []
  | .readByte => s

/-- A rejected byte ends the transaction, and the stop mark is sent straight away (R133, R134). -/
def State.rejectStep (s : State) (p : Cam) (t : Transaction) : State :=
  match t.step with
  | .device => s.endTransaction p t .noDevice [] [.stopMark]
  | .regHigh => s.endTransaction p t .refusedAddress [] [.stopMark]
  | .regLow => s.endTransaction p t .refusedAddress [] [.stopMark]
  | .dataByte k => s.endTransaction p t .partialWrite [BitVec.ofNat 8 k] [.stopMark]
  | .deviceRead => s.endTransaction p t .noDevice [] [.stopMark]
  | .readByte => s

/-- CAMERA_ANSWER: an answer that belongs to no step is ignored (R135). -/
def State.cameraAnswer (s : State) (p : Cam) (accept : Bool) : State :=
  match (s.chan p).flight with
  | none => s
  | some t => if accept then s.acceptStep p t else s.rejectStep p t

/-- READ_BYTE (R134 steps 7 to 9): the part accepts every byte but the last, which it rejects. -/
def State.readByte (s : State) (p : Cam) (b : Byte) : State :=
  match (s.chan p).flight with
  | none => s
  | some t =>
    if t.step = .readByte then
      if t.got.length + 1 < t.count then s.nextStep p { t with got := t.got ++ [b] } [.accept]
      else s.endTransaction p t .done (t.got ++ [b]) [.reject, .stopMark]
    else s

/-- STEP_TIMER_EXPIRY (R135, R136, R143): the transaction in flight ends TIMEOUT with a stop mark, as at every other end
(log 14). -/
def State.stepTimerExpiry (s : State) (p : Cam) : State :=
  match (s.chan p).flight with
  | none => s
  | some t => if (s.chan p).timer.isRunning then s.endTransaction p t .timeout [] [.stopMark] else s

/-- STOP_MARK_SENT (R145): the channel, ACTIVE since a reset with nothing in flight, becomes IDLE and its arbiter chooses
(R143). -/
def State.stopMarkSent (s : State) (p : Cam) : State :=
  if (s.chan p).active ∧ (s.chan p).flight = none then
    (s.setChan p { s.chan p with active := false }).arbitrate p
  else s

/-- Lock lost at the channel (R136): a transaction in flight ends NO-LINK with no stop mark, and all that waits ends
NO-LINK as it is selected. The lock record is unlocked by now. -/
def State.channelLockLost (s : State) (p : Cam) : State :=
  match (s.chan p).flight with
  | some t => s.endTransaction p t .noLink [] []
  | none => (s.setChan p { s.chan p with active := false, timer := .stopped, out := [] }).arbitrate p

/-! ## CAM-XFER (R138) -/

/-- The tests of a CAM-XFER's own fields (R138, test 1). -/
def xferArgsOk (device direction count : Byte) (data : List Byte) : Bool :=
  decide (device.toNat ≤ 127) && decide (direction.toNat ≤ 1) && decide (1 ≤ count.toNat ∧ count.toNat ≤ 16) &&
  (if direction = 0 then decide (data.length = count.toNat) else decide (data = []))

/-- A CAM-XFER taken (R138). -/
def State.serveCamXfer (s : State) (t : Ticket) (camera device direction : Byte) (register : BitVec 16) (count : Byte)
    (data : List Byte) : State :=
  match index4 camera.toNat with
  | none => s.answer t .badArgument
  | some p =>
    if !xferArgsOk device direction count data then s.answer t .badArgument
    else if Config.passPlaces ≤ (s.chan p).queue.length then s.answer t .busy
    else
      (s.setChan p { s.chan p with
        queue := (s.chan p).queue ++
          [⟨t, device.toNat, decide (direction = 1), register.toNat, count.toNat, data⟩] }).arbitrate p

/-! ## Resets (R145) -/

/-- Power-on and FULL reset: no result is handed to anyone. -/
def State.resetChannels (s : State) : State :=
  { s with chans := Quad.build fun p => Channel.powerOn (s.ports.get p).lock }

/-! ## Commands -/

/-- CAMERA_ANSWER. -/
def execCameraAnswer (channel : Cam) (accept : Bool) (s : State) : Host.Outcome State Fault Refusal :=
  .next (s.cameraAnswer channel accept)

/-- READ_BYTE. -/
def execReadByte (channel : Cam) (byte : Byte) (s : State) : Host.Outcome State Fault Refusal :=
  .next (s.readByte channel byte)

/-- STEP_TIMER_EXPIRY. -/
def execStepTimerExpiry (channel : Cam) (s : State) : Host.Outcome State Fault Refusal :=
  .next (s.stepTimerExpiry channel)

/-- STOP_MARK_SENT. -/
def execStopMarkSent (channel : Cam) (s : State) : Host.Outcome State Fault Refusal :=
  .next (s.stopMarkSent channel)

end Sys2Proof.Machine
end

