-- ==== Sys2Proof/Machine/Camera.lean ====
section
/-! DEFINITION. Camera ports and slot rings (01_camera_ports_and_frame_slots.md, R1 to R22): frames in flight, valid and
discarded frames, the port state machine, the signature check, the ring's writer and reader, and the commands of a
camera link. -/

namespace Sys2Proof.Machine

/-! ## The slot ring (R15 to R18) -/

def Ring.find (r : Tri Slot) (st : SlotState) : Option (Fin 3) :=
  if r.t0.st = st then some 0 else if r.t1.st = st then some 1 else if r.t2.st = st then some 2 else none

/-- Every slot in state `st` becomes FREE. -/
def Ring.release (r : Tri Slot) (st : SlotState) : Tri Slot := r.map fun x => if x.st = st then Slot.empty else x

/-- A valid frame's slot becomes READY with its frame number; a slot that was READY becomes FREE (R17; log 28 for its
line writes). -/
def Ring.complete (r : Tri Slot) (i : Fin 3) (frameNo : Nat) : Tri Slot :=
  (Ring.release r .ready).set i ⟨.ready, some frameNo⟩

/-- The reader's step at a turnover (R18). -/
def Ring.turnover (live : Bool) (r : Tri Slot) : Tri Slot :=
  if live then
    match Ring.find r .ready with
    | none => r
    | some _ => (Ring.release r .reading).map fun x => if x.st = .ready then { x with st := .reading } else x
  else Ring.release r .reading

/-- The frame number recorded in the READING slot (R150). -/
def Ring.readingFrame (r : Tri Slot) : Option Nat := (Ring.find r .reading).bind fun i => (r.get i).frameNo

/-! ## A port's frames -/

/-- The line buffers left when the waiting writes of a frame in `slot` are withdrawn: a granted write runs to its end
(R20). -/
def withdrawWrites (granted : Bool) (slot : Fin 3) : List LineBuf → List LineBuf
  | [] => []
  | b :: bs => (if granted || decide (b.slot ≠ slot) then [b] else []) ++ bs.filter fun x => decide (x.slot ≠ slot)

/-- The line buffers left when every waiting write is withdrawn (R20). -/
def keepGranted (granted : Bool) (bufs : List LineBuf) : List LineBuf := if granted then bufs.take 1 else []

/-- The ring's part of a discarded frame (R17, R20): its FILLING slot becomes FREE. -/
def Port.dropFlight (p : Port) (granted : Bool) : Port :=
  match p.flight with
  | none => p
  | some f =>
    { p with flight := none, ring := p.ring.set f.slot Slot.empty, bufs := withdrawWrites granted f.slot p.bufs }

/-- The state machine's part of a discarded frame (R11). -/
def Port.onDiscard (p : Port) : Port := if p.st = .acquiring then { p with acquire := 0 } else p

/-- A new frame takes the lowest-numbered FREE slot and latches the Check Windows (R5, R16). -/
def Port.beginFrame (p : Port) : Port :=
  match Ring.find p.ring .free with
  | none => p
  | some i =>
    { p with
      flight := some ⟨i, 0, false, false, windowsOf p.windows, p.windowSet, (windowsOf p.windows).map fun _ => []⟩
      ring := p.ring.set i ⟨.filling, none⟩ }

/-- The bytes of a line: luma then chroma for each of its first 1280 pixels (R2, R44). -/
def lineData (pixels : List (Byte × Byte)) : List Byte :=
  (pixels.take Config.frameWidth).flatMap fun q => [q.1, q.2]

/-- The luma of line `y` inside a window (R5). -/
def windowLuma (pixels : List (Byte × Byte)) (y : Nat) (w : Window) : List Byte :=
  if w.y ≤ y ∧ y < w.y + w.h then sliceOf (pixels.map Prod.fst) w.x w.w else []

/-- A line counted in the frame in flight (R2, R3). -/
def Flight.countLine (f : Flight) (pixels : List (Byte × Byte)) : Flight :=
  { f with lines := f.lines + 1, badLine := f.badLine || decide (pixels.length ≠ Config.frameWidth) }

/-- The luma gathered for the signature, window by window (R5). -/
def Flight.gather (f : Flight) (pixels : List (Byte × Byte)) : Flight :=
  { f with luma := List.zipWith (fun acc w => acc ++ windowLuma pixels f.lines w) f.luma f.windows }

/-- A line ends (R2, R3): counted; placed in a line buffer for its write; or, with both buffers waiting, an overrun,
after which the frame is neither written nor signed (logs 17, 26). -/
def Port.receiveLine (p : Port) (pixels : List (Byte × Byte)) : Port :=
  match p.flight with
  | none => p
  | some f =>
    if f.overrun || decide (Config.frameHeight ≤ f.lines) then { p with flight := some (f.countLine pixels) }
    else if Config.lineBuffers ≤ p.bufs.length then
      { p with flight := some { f.countLine pixels with overrun := true } }
    else
      { p with
        flight := some ((f.gather pixels).countLine pixels)
        bufs := p.bufs ++ [⟨f.slot, f.lines, lineData pixels⟩] }

/-- A frame that ends at its frame-end mark is valid (R3). -/
def Flight.isValid (f : Flight) (lineCount : Nat) : Bool :=
  decide (f.lines = Config.frameHeight) && !f.badLine && decide (lineCount = Config.frameHeight) && !f.overrun

/-- The signature of a frame: none with no windows latched (R5). -/
def Flight.signature (f : Flight) : Option Signature :=
  if f.windows = [] then none else some ⟨crc16 f.luma.flatten, f.windowSet⟩

/-! ## The port state machine (R9 to R13) -/

/-- A frame's signature equals the last one, taken under the same set of windows (R13). -/
def Port.sameSignature (p : Port) (sig : Option Signature) : Bool :=
  match sig, p.lastSig with
  | some a, some b => decide (a = b)
  | _, _ => false

/-- Entry to ACQUIRING with an acquire count: the repeat count is 0 and the staleness timer starts (R12, R13). -/
def Port.toAcquiring (p : Port) (acquire : Nat) : Port :=
  { p with st := .acquiring, acquire := acquire, repeats := 0, staleness := .running Config.stalenessMs }

/-- The signature check of a LIVE port (R13). -/
def Port.checkSignature (p : Port) (sig : Option Signature) : Port :=
  if p.sameSignature sig then
    let n := min 255 (p.repeats + 1)
    if profileFreezeLimit p.profile ≤ n then { p with repeats := n, st := .frozen } else { p with repeats := n }
  else { p with repeats := 0 }

/-- A valid frame acts on the port by its state (R10). -/
def Port.stepValid (p : Port) (sig : Option Signature) : Port :=
  match p.st with
  | .acquiring =>
    if Config.acquireLimit ≤ p.acquire + 1 then { p with st := .live, acquire := p.acquire + 1, repeats := 0 }
    else { p with acquire := p.acquire + 1 }
  | .live => p.checkSignature sig
  | .stale => p.toAcquiring 1
  | .frozen => if p.sameSignature sig then p else p.toAcquiring 1
  | .off => p
  | .absent => p

/-- The state machine at a valid frame: the state, then the restarted staleness timer and the last signature (R10, R12,
R13). -/
def Port.onValid (p : Port) (sig : Option Signature) : Port :=
  { p.stepValid sig with staleness := .running Config.stalenessMs, lastSig := sig }

/-- A valid frame's own counts and records, then the ring's (R3, R4, R17). -/
def Port.storeValid (p : Port) (f : Flight) (attention : Bool) : Port :=
  let n := (p.validFrames + 1) % 65536
  { p with
    validFrames := n
    attention := attention
    drops := if (Ring.find p.ring .ready).isSome then min 65535 (p.drops + 1) else p.drops
    ring := Ring.complete p.ring f.slot n
    flight := none }

/-- Lock gained (R1, R9). -/
def Port.lockGained (p : Port) : Port :=
  if p.st = .absent then ({ p with lock := true } : Port).toAcquiring 0 else { p with lock := true }

/-- Lock lost (R1, R9). -/
def Port.lockLost (p : Port) (granted : Bool) : Port :=
  match p.st with
  | .off => { p with lock := false }
  | .absent => { p with lock := false }
  | _ => { p.dropFlight granted with lock := false, st := .absent, staleness := .stopped, acquire := 0, repeats := 0 }

/-- The staleness timer's expiry (R12). -/
def Port.staleExpiry (p : Port) : Port :=
  match p.st with
  | .live => { p with st := .stale, staleness := .stopped }
  | .frozen => { p with st := .stale, staleness := .stopped }
  | .acquiring => { p with acquire := 0, staleness := .expired }
  | _ => p

/-- A Camera Profile is applied at the port (R8; log 22 for the counts that entry to OFF keeps, log 28 for the line writes
of a READY slot). -/
def Port.applyProfile (p : Port) (granted : Bool) (profile : List Byte) : Port :=
  let q : Port := { p with profile := profile }
  match profileEnabled p.profile, profileEnabled profile with
  | false, true => if p.lock then q.toAcquiring 0 else { q with st := .absent, staleness := .stopped }
  | true, false =>
    let d := q.dropFlight granted
    { d with st := .off, staleness := .stopped, ring := Ring.release d.ring .ready }
  | _, _ => q

/-- A Check Windows table is applied (R6): a new set of windows (log 20), no last signature, repeat count 0. -/
def Port.applyWindows (p : Port) (windows : List Byte) : Port :=
  { p with windows := windows, windowSet := p.windowSet + 1, lastSig := none, repeats := 0 }

/-- The port and its ring at a VIEW reset (R22). -/
def Port.viewReset (p : Port) (granted : Bool) : Port :=
  let q : Port := { p with
    flight := none, bufs := keepGranted granted p.bufs, validFrames := 0, drops := 0, repeats := 0, lastSig := none,
    attention := false, ring := Ring.release (Ring.release p.ring .filling) .ready }
  if profileEnabled p.profile then
    if p.lock then q.toAcquiring 0 else { q with st := .absent, staleness := .stopped }
  else { q with st := .off, staleness := .stopped }

/-- The port at a FULL reset (R21, R20). -/
def Port.fullReset (p : Port) (granted : Bool) : Port :=
  { Port.powerOn p.lock with bufs := keepGranted granted p.bufs }

/-! ## The port in the part -/

/-- The transfer in progress is a write of port `p`. -/
def State.writingFor (s : State) (p : Cam) : Bool := decide (s.dram.granted = some (.write p))

/-- A port's new state; each change of it sets CAM-STATE (R14). -/
def State.putPort (s : State) (p : Cam) (q : Port) : State :=
  (s.setPort p q).raiseIf (decide (q.st ≠ (s.port p).st)) (evCamState p)

/-- Marks and data are taken only while the link is locked, and not in OFF (R1, R2). -/
def Port.takes (p : Port) : Bool := p.lock && decide (p.st ≠ .off)

/-- FRAME_START_MARK (R3, R16). -/
def State.frameStartMark (s : State) (p : Cam) : State :=
  let q := s.port p
  if q.takes then
    match q.flight with
    | none => s.setPort p q.beginFrame
    | some _ => s.setPort p ((q.dropFlight (s.writingFor p)).onDiscard).beginFrame
  else s

/-- LINE_RECEIVED (R2, R3, R20). -/
def State.lineReceived (s : State) (p : Cam) (pixels : List (Byte × Byte)) : State :=
  if (s.port p).takes then (s.setPort p ((s.port p).receiveLine pixels)).grant else s

/-- The exposure restore of a port that goes from ACQUIRING to LIVE (R14, R71). -/
def State.restoreExposure (s : State) (p : Cam) : State :=
  match profileExposure (s.port p).profile, (s.chan p).cached with
  | some _, some v => s.handExposure p v
  | _, _ => s

/-- A valid frame (R3, R4, R10, R14, R17): its counts and records and the attention read it asks for, then the ring's,
then the state machine's. -/
def State.validFrame (s : State) (p : Cam) (f : Flight) (attention : Bool) : State :=
  let q := (s.port p).storeValid f attention
  let s1 := s.setPort p q
  let s2 := if attention && (profileStatus q.profile).isSome then s1.askAttention p else s1
  let q' := q.onValid f.signature
  let s3 := s2.putPort p q'
  if q.st = .acquiring ∧ q'.st = .live then s3.restoreExposure p else s3

/-- FRAME_END_MARK (R3). -/
def State.frameEndMark (s : State) (p : Cam) (lineCount : Nat) (attention : Bool) : State :=
  let q := s.port p
  if q.takes then
    match q.flight with
    | none => s
    | some f =>
      if f.isValid lineCount then s.validFrame p f attention
      else s.setPort p (q.dropFlight (s.writingFor p)).onDiscard
  else s

/-- LOCK_GAINED (R1, R9). -/
def State.lockGained (s : State) (p : Cam) : State := s.putPort p (s.port p).lockGained

/-- LOCK_LOST (R1, R9), then at the channel (R136). -/
def State.lockLost (s : State) (p : Cam) : State :=
  (s.putPort p ((s.port p).lockLost (s.writingFor p))).channelLockLost p

/-- STALENESS_TIMER_EXPIRY (R12); a timer that is not running does not expire (log 4). -/
def State.stalenessExpiry (s : State) (p : Cam) : State :=
  if (s.port p).staleness.isRunning then s.putPort p (s.port p).staleExpiry else s

/-! ## Commands -/

/-- LOCK_GAINED. -/
def execLockGained (port : Cam) (s : State) : Host.Outcome State Fault Refusal := .next (s.lockGained port)

/-- LOCK_LOST. -/
def execLockLost (port : Cam) (s : State) : Host.Outcome State Fault Refusal := .next (s.lockLost port)

/-- FRAME_START_MARK. -/
def execFrameStartMark (port : Cam) (s : State) : Host.Outcome State Fault Refusal := .next (s.frameStartMark port)

/-- LINE_RECEIVED. -/
def execLineReceived (port : Cam) (pixels : List (Byte × Byte)) (s : State) : Host.Outcome State Fault Refusal :=
  .next (s.lineReceived port pixels)

/-- FRAME_END_MARK. -/
def execFrameEndMark (port : Cam) (lineCount : Nat) (attention : Bool) (s : State) : Host.Outcome State Fault Refusal :=
  .next (s.frameEndMark port lineCount attention)

/-- STALENESS_TIMER_EXPIRY. -/
def execStalenessTimerExpiry (port : Cam) (s : State) : Host.Outcome State Fault Refusal := .next (s.stalenessExpiry port)

end Sys2Proof.Machine
end

