-- ==== Sys2Proof/Machine/Balance.lean ====
section
/-! DEFINITION. Exposure balance (04_exposure_balance.md, R59 to R74): targets, steps, runs and nudges at a turnover, the
application of a Balance Table, and the gains at a VIEW reset. -/

namespace Sys2Proof.Machine

/-! ## Targets and gains (R62 to R64) -/

/-- A figure clamped to the range of a gain. -/
def clampGain (n : Nat) : Nat := max Config.gainMin (min Config.gainMax n)

/-- The target of a follower from its partner's gain and the two sums (R63). -/
def targetFigure (gp sp sc : Nat) : Nat := clampGain ((gp * sp + sc / 2) / sc)

/-- A follower `c` of `p` is computed at a turnover, from the frame just ended: not held (R63). -/
def computedNow (plan : Plan) (seam : Seam) (incomplete : Bool) (c p : Cam) : Bool :=
  !incomplete && decide (Config.seamCountMin ≤ (seam.pair c p).2.2) && decide ((seam.pair c p).1 ≠ 0) &&
  plan.live.get c && plan.live.get p

/-- One step of a gain toward its target, 4 at most (R64). -/
def stepGain (g t : Nat) : Nat := if g ≤ t then g + min Config.gainStep (t - g) else g - min Config.gainStep (g - t)

/-- The runs after a computed target (R68). -/
def Balance.run (b : Balance) (target : Nat) : Balance :=
  if Config.highTarget ≤ target then { b with high := min 255 (b.high + 1), low := 0 }
  else if target ≤ Config.lowTarget then { b with low := min 255 (b.low + 1), high := 0 }
  else { b with high := 0, low := 0 }

/-- A camera's gain work at a turnover (R63, R64, R68): a reference does not move; a follower takes a computed target or
keeps the held one, and steps toward it. -/
def Balance.turnover (b : Balance) (partner : Option Cam) (plan : Plan) (seam : Seam) (incomplete : Bool) (c : Cam) :
    Balance :=
  match partner with
  | none => b
  | some p =>
    if computedNow plan seam incomplete c p then
      let t := targetFigure (plan.gain.get p) (seam.pair c p).2.1 (seam.pair c p).1
      Balance.run { b with target := t, gain := stepGain b.gain t } t
    else { b with gain := stepGain b.gain b.target }

/-! ## Nudges (R69, R70) -/

/-- The settle count falls by 1 while it is above 0 (R70; log 16 for a reference). -/
def Balance.settleStep (b : Balance) : Balance := { b with settle := b.settle - 1 }

/-- The exposure value a nudge would carry, from the cached exposure, by the run that is long enough (R69). -/
def nudgeValue (x : ExposureControl) (cached : Nat) (b : Balance) : Option Nat :=
  if Config.nudgeRun ≤ b.high then some (min x.maximum (cached + x.step))
  else if Config.nudgeRun ≤ b.low then some (max x.minimum (cached - x.step))
  else none

/-- A nudge is handed: the settle count starts and the run that triggered it ends (R69). -/
def Balance.nudged (b : Balance) : Balance :=
  if Config.nudgeRun ≤ b.high then { b with settle := Config.settleTurnovers, high := 0 }
  else { b with settle := Config.settleTurnovers, low := 0 }

/-- The nudge test of a follower whose settle count is 0 (R69). -/
def State.nudgeTest (s : State) (c : Cam) : State :=
  match profileExposure (s.port c).profile, (s.chan c).cached with
  | some x, some cached =>
    match nudgeValue x cached (s.camBal c) with
    | none => s
    | some v => if v = cached then s else (s.setBal c (s.camBal c).nudged).handExposure c v
  | _, _ => s

/-- The settle count, then the nudge test, of one camera (R69, R70). -/
def State.settleAndNudge (c : Cam) (s : State) : State :=
  let s1 := s.setBal c (s.camBal c).settleStep
  if (balancePartner s.bal.table c).isSome ∧ (s1.camBal c).settle = 0 then s1.nudgeTest c else s1

/-! ## The turnover (R60 to R70) -/

/-- Every camera's gain work, from the plan, statistics and mark of the frame just ended and the table in force during
it; every target is computed before any gain it could depend on moves (R62, R64). -/
def State.gainTurnover (s : State) : State :=
  { s with bal.cams := Quad.build fun c =>
      (s.bal.cams.get c).turnover (balancePartner s.bal.table c) s.comp.plan s.comp.seam s.comp.incomplete c }

/-- A camera under a new Balance Table (R60). -/
def Balance.newTable (b : Balance) (old new : List Byte) (c : Cam) : Balance :=
  let b1 := if balancePartner old c ≠ balancePartner new c then { b with high := 0, low := 0 } else b
  match balancePartner new c with
  | none => { b1 with gain := balanceManual new c, target := balanceManual new c }
  | some _ => b1

/-- A Balance Table takes effect (R60). -/
def State.applyBalanceTable (s : State) (table : List Byte) : State :=
  { s with bal := { table := table, cams := Quad.build fun c => (s.bal.cams.get c).newTable s.bal.table table c } }

/-- The balance unit's work at a turnover with no table due (R63 to R70). -/
def State.balanceTurnover (s : State) : State := forCams State.settleAndNudge s.gainTurnover

/-! ## Profile application and VIEW reset (R72, R74) -/

def Balance.quiet (b : Balance) : Balance := { b with high := 0, low := 0, settle := 0 }

/-- The gain a camera takes at a VIEW reset (R74). -/
def viewResetGain (table profile : List Byte) (c : Cam) : Nat :=
  match balancePartner table c with
  | none => balanceManual table c
  | some _ => profileInitialGain profile

/-- The balance unit at a VIEW reset (R74). -/
def State.resetBalanceView (s : State) : State :=
  { s with bal.cams := Quad.build fun c =>
      ⟨viewResetGain s.bal.table (s.port c).profile c, viewResetGain s.bal.table (s.port c).profile c, 0, 0, 0⟩ }

end Sys2Proof.Machine
end

