-- ==== Sys2Proof/Machine/VehicleLines.lean ====
section
/-! DEFINITION. Vehicle lines and vehicle data (07_vehicle_lines_and_vehicle_data.md, R115 to R130), and their
commands. -/

namespace Sys2Proof.Machine

/-! ## Input lines (R117 to R119) -/

/-- A debounced level is asserted under a polarity (R118). -/
def levelAsserted (pol : Polarity) (level : Bool) : Bool :=
  match pol with
  | .activeHigh => level
  | .activeLow => !level

/-- An INPUT line is asserted (R118). -/
def Line.asserted (l : Line) : Bool :=
  match l.cfg.function, l.debounced with
  | .input, some d => levelAsserted l.cfg.polarity d
  | _, _ => false

/-- A role is asserted while an INPUT line that carries it is (R118). -/
def Vehicle.roleAsserted (v : Vehicle) (r : Role) : Bool :=
  v.lines.toList.any fun l => decide (l.cfg.role = some r) && l.asserted

/-- The six roles as a set, bit k for the role with code k + 1 (formats section). -/
def Vehicle.roles (v : Vehicle) : BitVec 6 :=
  BitVec.ofBool (v.roleAsserted .spareB) ++ BitVec.ofBool (v.roleAsserted .spareA) ++
  BitVec.ofBool (v.roleAsserted .doorOpen) ++ BitVec.ofBool (v.roleAsserted .stepOccupied) ++
  BitVec.ofBool (v.roleAsserted .liftActive) ++ BitVec.ofBool (v.roleAsserted .nearsideIndicator)

/-- An edge to asserted or to negated matches the edge select (R119). -/
def edgeMatches (e : EdgeSelect) (toAsserted : Bool) : Bool :=
  match e with
  | .none => false
  | .assert => toAsserted
  | .release => !toAsserted
  | .both => true

/-- The debounced level of an INPUT line becomes `level` and its timer stops; a change of it is an edge (R119). -/
def State.setDebounced (s : State) (l : Fin 8) (level : Bool) : State :=
  let x := s.line l
  (s.setLine l { x with debounced := some level, timer := .stopped }).raiseIf
    (decide (x.debounced ≠ some level) && edgeMatches x.cfg.edge (levelAsserted x.cfg.polarity level)) (evLineEdge l)

/-- RAW_CHANGE (R117). On an OUTPUT or UNUSED line the level of the pin is not read. -/
def State.rawChange (s : State) (l : Fin 8) (level : Bool) : State :=
  let x := s.line l
  if x.raw = level then s
  else if x.cfg.function = .input then
    if x.debounced = some level then s.setLine l { x with raw := level, timer := .stopped }
    else if x.cfg.debounce = 0 then (s.setLine l { x with raw := level }).setDebounced l level
    else s.setLine l { x with raw := level, timer := .running x.cfg.debounce }
  else s.setLine l { x with raw := level }

/-- DEBOUNCE_TIMER_EXPIRY (R117); a timer that is not running does not expire (log 4). -/
def State.debounceExpiry (s : State) (l : Fin 8) : State :=
  let x := s.line l
  if x.timer.isRunning ∧ x.cfg.function = .input then s.setDebounced l x.raw else s

/-! ## LINE-CONFIG, LINES-SET, LINES-CLEAR (R116, R122) -/

/-- The record a LINE-CONFIG carries, where every field is in range (R115, R116). -/
def lineRecordOf (function polarity debounce role edge source : Byte) : Option LineRecord :=
  match functionOf function.toNat, polarityOf polarity.toNat, roleOf role.toNat, edgeOf edge.toNat,
    sourceOf source.toNat with
  | some f, some p, some r, some e, some o => some ⟨f, p, debounce.toNat, r, e, o⟩
  | _, _, _, _, _ => none

/-- A line takes a new record (R116). -/
def State.configureLine (s : State) (l : Fin 8) (cfg : LineRecord) : State :=
  let x := s.line l
  let y : Line := { x with cfg := cfg }
  match cfg.function with
  | .input =>
    if x.cfg.function = .input then
      if cfg.debounce = 0 then (s.setLine l y).setDebounced l x.raw
      else if x.timer.isRunning then s.setLine l { y with timer := .running cfg.debounce }
      else s.setLine l y
    else s.setLine l { y with debounced := some x.raw, timer := .stopped }
  | .unused => s.setLine l { y with debounced := none, timer := .stopped }
  | .output => s.setLine l { y with debounced := none, timer := .stopped }

/-- A LINE-CONFIG taken (R116). -/
def State.serveLineConfig (s : State) (t : Ticket) (line function polarity debounce role edge source : Byte) : State :=
  match index8 line.toNat, lineRecordOf function polarity debounce role edge source with
  | some l, some cfg => (s.configureLine l cfg).answer t .done
  | _, _ => s.answer t .badArgument

/-- The manual levels of the masked lines become `level` (R122). -/
def State.setManual (s : State) (mask : Byte) (level : Bool) : State :=
  { s with veh.lines := Oct.build fun l =>
      if mask.getLsbD l.val then { s.veh.lines.get l with manual := level } else s.veh.lines.get l }

/-- A LINES-SET taken (R122). -/
def State.serveLinesSet (s : State) (t : Ticket) (mask : Byte) : State := (s.setManual mask true).answer t .done

/-- A LINES-CLEAR taken (R122). -/
def State.serveLinesClear (s : State) (t : Ticket) (mask : Byte) : State := (s.setManual mask false).answer t .done

/-! ## Output lines (R120, R121) -/

/-- A special mode (R100). -/
def Mode.isSpecial : Mode → Bool
  | .standby => false
  | .panorama => false
  | .turn => true
  | .lift => true
  | .kerb => true

/-- Some enabled port is in a state other than LIVE (R121). -/
def State.cameraFault (s : State) : Bool :=
  allCams.any fun p => profileEnabled (s.port p).profile && decide ((s.port p).st ≠ .live)

/-- The value of a line's output source (R121). -/
def State.sourceValue (s : State) (l : Fin 8) : Bool :=
  match (s.line l).cfg.source with
  | .manual => (s.line l).manual
  | .attention => s.attentionFlag
  | .cameraFault => s.cameraFault
  | .specialView => s.veh.sentMode.isSpecial
  | .zoneNear => s.veh.near

/-- The level an OUTPUT line drives, high as `true`; none for a line that is not driven (R120). -/
def State.driven (s : State) (l : Fin 8) : Option Bool :=
  if (s.line l).cfg.function = .output then some (levelAsserted (s.line l).cfg.polarity (s.sourceValue l)) else none

/-! ## Vehicle-data records (R124 to R128) -/

/-- The sensor indices of a record's readings. -/
def readingIndices (bs : List Byte) (n : Nat) : List Nat := (List.range n).map fun i => byteAt bs (7 + 3 * i)

/-- A record is not malformed (R124). -/
def vehicleRecordOk (bs : List Byte) : Bool :=
  crc16Matches bs && decide (byteAt bs 6 ≤ 8) && decide (bs.length = 9 + 3 * byteAt bs 6) &&
  (readingIndices bs (byteAt bs 6)).all (fun i => decide (i ≤ 7)) && decide (readingIndices bs (byteAt bs 6)).Nodup

/-- A reading's range field (R125): 0xFFFF is NO-ECHO, a range above 500 is taken as 500. -/
def readingOf (n : Nat) : Reading := if n = 0xFFFF then .noEcho else .range (min 500 n)

/-- The sensors after reading `i` of a record (R125). -/
def applyReading (bs : List Byte) (sensors : Oct Sensor) (i : Nat) : Oct Sensor :=
  match index8 (byteAt bs (7 + 3 * i)) with
  | none => sensors
  | some k => sensors.set k ⟨readingOf (u16At bs (8 + 3 * i)), 0⟩

/-- The band containing an angle (R128). -/
def bandContaining : List Int → Int → Nat
  | [], _ => 0
  | e :: es, a => if a < e then 0 else bandContaining es a + 1

/-- Band `k` is kept by an angle under the hysteresis (R128). -/
def bandKept (t : BandTable) (k : Nat) (a : Int) : Bool :=
  (decide (k = 0) || decide (t.edges.getD (k - 1) 0 - t.hysteresis ≤ a)) &&
  (decide (k + 1 = t.count) || decide (a < t.edges.getD k 0 + t.hysteresis))

/-- The current band after an accepted record, from the state the record found (R128). -/
def nextBand (t : BandTable) (found : VdState) (k : Nat) (a : Int) : Nat :=
  match found with
  | .none => bandContaining t.edges a
  | .lost => bandContaining t.edges a
  | .fresh => if bandKept t k a then k else bandContaining t.edges a
  | .stale => if bandKept t k a then k else bandContaining t.edges a

/-- The clamps of R125. -/
def clampAngle (a : Int) : Int := max (-450) (min 450 a)

/-- An accepted record is applied (R125, R127). -/
def Vehicle.accept (v : Vehicle) (t : BandTable) (bs : List Byte) : Vehicle :=
  { v with
    seq := byteAt bs 1
    angle := clampAngle (s16At bs 2)
    speed := min 1500 (u16At bs 4)
    sensors := (List.range (byteAt bs 6)).foldl (applyReading bs) v.sensors
    state := .fresh
    staleTimer := .running Config.staleMs
    lostTimer := .running Config.lostMs
    band := nextBand t v.state v.band (clampAngle (s16At bs 2)) }

/-- A vehicle-data record arrives (R124, R125, R127): a malformed one is discarded whole. -/
def State.vehicleRecord (s : State) (bs : List Byte) : State :=
  if vehicleRecordOk bs then
    ({ s with veh := s.veh.accept (bandTableOf s.ovl.bands) bs } : State).raiseIf
      (decide (s.veh.state ≠ .fresh)) evVehicleData
  else s

/-- STALE_EXPIRY (R127). -/
def State.staleExpiry (s : State) : State :=
  if s.veh.state = .fresh ∧ s.veh.staleTimer.isRunning then
    ({ s with veh := { s.veh with state := .stale, staleTimer := .stopped } } : State).raise evVehicleData
  else s

/-- LOST_EXPIRY (R127). -/
def State.lostExpiry (s : State) : State :=
  if s.veh.state = .stale ∧ s.veh.lostTimer.isRunning then
    ({ s with veh := { s.veh with state := .lost, lostTimer := .stopped } } : State).raise evVehicleData
  else s

/-- A Band Table is applied: the current band is chosen afresh (R93, R129). -/
def State.applyBandTable (s : State) (bands : List Byte) : State :=
  { s with ovl.bands := bands, veh.band := bandContaining (bandTableOf bands).edges s.veh.angle }

/-- The vehicle interface at power-on and FULL reset (R123, R130). The pins keep their levels. -/
def State.resetVehicle (s : State) : State :=
  { s with veh := Vehicle.powerOn (Oct.build fun l => (s.veh.lines.get l).raw) }

/-! ## Commands -/

/-- STALE_EXPIRY. -/
def execStaleExpiry (s : State) : Host.Outcome State Fault Refusal := .next s.staleExpiry

/-- LOST_EXPIRY. -/
def execLostExpiry (s : State) : Host.Outcome State Fault Refusal := .next s.lostExpiry

/-- RAW_CHANGE. -/
def execRawChange (line : Fin 8) (level : Bool) (s : State) : Host.Outcome State Fault Refusal :=
  .next (s.rawChange line level)

/-- DEBOUNCE_TIMER_EXPIRY. -/
def execDebounceTimerExpiry (line : Fin 8) (s : State) : Host.Outcome State Fault Refusal :=
  .next (s.debounceExpiry line)

end Sys2Proof.Machine
end

