-- ==== Sys2Proof/Machine/Overlays.lean ====
section
/-! DEFINITION. The overlay engine's tables and lists (05_overlays.md, R75 to R99): which elements a frame shows, the
draw list, the near indication, and the pending element list. Drawing itself is in Machine/Draw.lean. -/

namespace Sys2Proof.Machine

/-! ## Shown elements (R79, R83, R86, R90) -/

/-- Bit k of a set byte. -/
def inSet (set_ k : Nat) : Bool := set_.testBit k

/-- The conditions every kind shares (R79). -/
def commonShown (v : FrameView) (rec : List Byte) : Bool :=
  inSet (elModes rec) v.mode.code &&
  decide (BitVec.ofNat 6 (elAsserted rec) &&& v.roles = BitVec.ofNat 6 (elAsserted rec)) &&
  decide (BitVec.ofNat 6 (elNegated rec) &&& v.roles = 0) &&
  (decide (elCams rec = 0) || allCams.any fun c => inSet (elCams rec) c.val && !v.live.get c) &&
  (decide (elStates rec = 0) || inSet (elStates rec) v.vd.code)

/-- A GUIDE's curve and appearance (R83, R85): solid in its colour while FRESH, dashed in the degraded colour while
STALE, not shown otherwise or where the band has no such curve. -/
def guideLook (v : FrameView) (t : BandTable) (rec : List Byte) : Option Look :=
  match (t.curves.getD v.band [])[byteAt rec 8]? with
  | none => none
  | some points =>
    match v.vd with
    | .fresh => some (.guide (elColour rec) false (byteAt rec 9) points)
    | .stale => some (.guide t.colour true (byteAt rec 9) points)
    | .none => none
    | .lost => none

/-- The colour class of a range against a ZONE's thresholds; none at or above Far (R86). -/
def zoneClass (near mid far r : Nat) : Option ZoneClass :=
  if far ≤ r then none else if r < near then some .near else if r < mid then some .mid else some .far

/-- The palette index of a ZONE's class. -/
def zoneColour (rec : List Byte) : ZoneClass → Nat
  | .near => byteAt rec 15
  | .mid => byteAt rec 16
  | .far => byteAt rec 17

/-- A sensor index as a byte of an element record gives it; the element check holds it to 0..7. -/
def sensorIndex (rec : List Byte) : Option (Fin 8) := index8 (byteAt rec 8)

/-- A ZONE's class and appearance (R86): hidden with data NONE or LOST, no range, an age above 500 ms, or beyond Far. -/
def zoneLook (v : FrameView) (rec : List Byte) : Option Look :=
  match sensorIndex rec with
  | none => none
  | some i =>
    match v.vd, (v.sensors.get i).reading with
    | .none, _ => none
    | .lost, _ => none
    | _, .none => none
    | _, .noEcho => none
    | _, .range r =>
      if Config.zoneAgeMs < (v.sensors.get i).age then none
      else (zoneClass (u16At rec 9) (u16At rec 11) (u16At rec 13) r).map fun k =>
        .zone k (zoneColour rec k) (rectAt rec 18) (decide (byteAt rec 26 = 0))

/-- An ICON's glyph, where the Glyph Store holds it (R90). -/
def iconLook (glyphs rec : List Byte) : Option Look :=
  (findGlyph glyphs (byteAt rec 8)).map fun g => .icon (s16At rec 9) (s16At rec 11) g

/-- The kind-specific test and the resolved appearance (R79, R80). -/
def kindLook (v : FrameView) (t : BandTable) (glyphs rec : List Byte) : Option Look :=
  match elKind rec with
  | 1 => guideLook v t rec
  | 2 => zoneLook v rec
  | 3 => iconLook glyphs rec
  | 4 => some (.frame (elColour rec) (rectAt rec 8) (byteAt rec 16))
  | _ => none

/-- The draw-list entry of an element, where it is shown (R79). -/
def shownEntry (v : FrameView) (t : BandTable) (glyphs : List Byte) (index : Nat) (rec : List Byte) : Option DrawEntry :=
  if commonShown v rec then (kindLook v t glyphs rec).map fun k => ⟨index, rec, k⟩ else none

/-- The draw list (R80): the shown elements by layer, lowest first, and within a layer by index. -/
def buildDrawList (v : FrameView) (t : BandTable) (glyphs : List Byte) (elements : List (List Byte)) : List DrawEntry :=
  (List.range 8).flatMap fun layer =>
    (List.range elements.length).filterMap fun i =>
      if elLayer (elements.getD i []) = layer then shownEntry v t glyphs i (elements.getD i []) else none

/-- A draw-list entry is a ZONE in the near class. -/
def DrawEntry.isNear (e : DrawEntry) : Bool :=
  match e.look with
  | .zone .near _ _ _ => true
  | .zone .mid _ _ _ => false
  | .zone .far _ _ _ => false
  | .guide _ _ _ _ => false
  | .icon _ _ _ => false
  | .frame _ _ _ => false

/-- A frame's near indication (R87). -/
def nearOf (entries : List DrawEntry) : Bool := entries.any DrawEntry.isNear

/-! ## The pending element list (R94 to R96) -/

/-- A change for an index: in place of the entry for that index where there is one, at the tail otherwise (R95). -/
def putEdit (edits : List Edit) (e : Edit) : List Edit :=
  if edits.any fun x => x.index == e.index then edits.map fun x => if x.index = e.index then e else x else edits ++ [e]

/-- A request that passed its tests joins the list, and the one it replaces is answered SUPERSEDED (R95). -/
def State.joinEdits (s : State) (e : Edit) : State :=
  let s' : State := { s with ovl.edits := putEdit s.ovl.edits e }
  match s.ovl.edits.find? fun x => x.index == e.index with
  | none => s'
  | some x => s'.answer x.ticket .superseded

/-- The list has room for an index (R94, test 3). -/
def editsFull (edits : List Edit) (index : Nat) : Bool :=
  decide (Config.editPlaces ≤ edits.length) && !(edits.any fun x => x.index == index)

/-- An ELEMENT-WRITE taken (R94). -/
def State.serveElementWrite (s : State) (t : Ticket) (index : Byte) (rec : List Byte) : State :=
  if 63 < index.toNat then s.answer t .badArgument
  else if !elementOk rec then s.answerBadContent t 0
  else if editsFull s.ovl.edits index.toNat then s.answer t .busy
  else s.joinEdits ⟨index.toNat, some rec, t⟩

/-- An ELEMENT-CLEAR taken (R94). -/
def State.serveElementClear (s : State) (t : Ticket) (index : Byte) : State :=
  if 63 < index.toNat then s.answer t .badArgument
  else if editsFull s.ovl.edits index.toNat then s.answer t .busy
  else s.joinEdits ⟨index.toNat, none, t⟩

/-- The Overlay Table after one entry (R96). -/
def applyEdit (elements : List (List Byte)) (e : Edit) : List (List Byte) :=
  elements.set e.index (e.change.getD elementNone)

/-- Every entry's request is answered, in list order (R96). -/
def State.answerEdits (s : State) (edits : List Edit) (r : Result) : State :=
  edits.foldl (fun s e => s.answer e.ticket r) s

/-- The pending element list at a turnover, and the OVERLAY table due there, if any (R96). -/
def State.applyEdits (s : State) (table : Option (List Byte)) : State :=
  let s' : State := { s with
    ovl.elements := match table with
      | none => s.ovl.edits.foldl applyEdit s.ovl.elements
      | some bs => elementsOf bs
    ovl.edits := [] }
  s'.answerEdits s.ovl.edits (match table with
    | none => .done
    | some _ => .superseded)

/-! ## The frame view and the draw list at a turnover (R78, R80) -/

/-- The frame view of the frame being prepared, from its mode and live set and the vehicle interface. -/
def State.viewNow (s : State) (live : Quad Bool) : FrameView :=
  { mode := s.modes.mode, live := live, roles := s.veh.roles, vd := s.veh.state, band := s.veh.band,
    sensors := s.veh.sensors }

/-- Latches the frame view and builds the draw list. -/
def State.latchView (s : State) (live : Quad Bool) : State :=
  { s with
    ovl.view := s.viewNow live
    ovl.drawList := buildDrawList (s.viewNow live) (bandTableOf s.ovl.bands) s.ovl.glyphs s.ovl.elements }

end Sys2Proof.Machine
end

