-- ==== Sys2Proof/Machine/ViewModes.lean ====
section
/-! DEFINITION. The mode controller (06_view_modes.md, R100 to R114): bindings, the override, causes, the dwell count and
the choice of a frame's mode. -/

namespace Sys2Proof.Machine

/-- A change of the current mode: the dwell count becomes 0 (R108) and MODE-CHANGE is set (R112). -/
def State.setMode (s : State) (m : Mode) : State :=
  if m = s.modes.mode then s
  else ({ s with modes := { s.modes with mode := m, dwell := 0 } } : State).raise evModeChange

def Bindings.anySpecial (b : Bindings) : Bool := b.turn.isSome || b.lift.isSome || b.kerb.isSome

/-! ## Requests (R102, R106) -/

/-- What a slot byte names: one of 0..3, NONE for 0xFF, or nothing in range. -/
def slotOperand (slot : Byte) : Option (Option (Fin 4)) :=
  if slot = 0xFF then some none else (index4 slot.toNat).map some

/-- The tests of a BIND-MODE whose mode and slot are in range; none where it is accepted (R102, tests 2 to 4). -/
def State.bindRefusal (s : State) (m : Mode) (slot : Option (Fin 4)) : Option Result :=
  match slot with
  | some i =>
    if (s.layouts.slots.get i).condition ≠ .valid then some .notReady
    else if m.isSpecial ∧ s.modes.bind.panorama = none then some .notReady
    else none
  | none =>
    if m = .panorama ∧ (s.modes.bind.anySpecial ∨ s.modes.mode.isSpecial) then some .inUse else none

/-- The mode of a BIND-MODE: any but STANDBY (R102, test 1). -/
def bindableMode (mode : Nat) : Option Mode :=
  match modeOf mode with
  | some .standby => none
  | some m => some m
  | none => none

/-- A binding is asked for, by a BIND-MODE or a BINDINGS entry of the boot image: the result, and the part after it
(R102, R174). -/
def State.bind (s : State) (mode slot : Byte) : Result × State :=
  match bindableMode mode.toNat, slotOperand slot with
  | some m, some i =>
    match s.bindRefusal m i with
    | some r => (r, s)
    | none => (.done, { s with modes.bind := s.modes.bind.set m i })
  | _, _ => (.badArgument, s)

/-- A BIND-MODE taken (R102). -/
def State.serveBindMode (s : State) (t : Ticket) (mode slot : Byte) : State :=
  (s.bind mode slot).2.answer t (s.bind mode slot).1

/-- A SET-VIEW taken (R106). -/
def State.serveSetView (s : State) (t : Ticket) (mode : Byte) : State :=
  match bindableMode mode.toNat with
  | none => s.answer t .badArgument
  | some m =>
    if s.modes.bind.of m = none then s.answer t .notReady
    else ({ s with modes.override := some m } : State).answer t .done

/-- A RELEASE-VIEW taken (R106). -/
def State.serveReleaseView (s : State) (t : Ticket) : State :=
  ({ s with modes.override := none } : State).answer t .done

/-! ## Causes (R104, R105) -/

/-- The KERB latch after its update at a turnover (R105). -/
def kerbAfter (rules : List Byte) (latch : Bool) (vd : VdState) (speed : Nat) : Bool :=
  if vd = .fresh then
    if speed ≤ rulesKerbSpeed rules then true else if rulesKerbRelease rules < speed then false else latch
  else latch

/-- The causes that hold at a turnover (R104). -/
structure Causes where
  lift : Bool
  turn : Bool
  kerb : Bool
deriving DecidableEq, Repr

def State.causes (s : State) : Causes :=
  { lift := s.veh.roleAsserted .liftActive
    turn := s.veh.roleAsserted .nearsideIndicator &&
      (decide (s.veh.state ≠ .fresh) || decide (s.veh.speed ≤ rulesTurnSpeed s.modes.rules))
    kerb := s.modes.kerb }

/-! ## The choice (R107 to R110) -/

/-- The fall-back of a desired mode and its rank (R107). -/
def fallBack (b : Bindings) (m : Mode) (rank : Nat) : Mode × Nat :=
  if (b.of m).isSome then (m, rank) else if b.panorama.isSome then (.panorama, 5) else (.standby, 5)

/-- The desired mode and its rank (R107). -/
def desiredMode (c : Causes) (override : Option Mode) (b : Bindings) : Mode × Nat :=
  if c.lift then fallBack b .lift 1
  else if c.turn then fallBack b .turn 2
  else if c.kerb then fallBack b .kerb 3
  else match override with
    | some m => fallBack b m 4
    | none => fallBack b .panorama 5

/-- The mode rank of a special mode (R107); 5 for the others, which have none. -/
def modeRank : Mode → Nat
  | .lift => 1
  | .turn => 2
  | .kerb => 3
  | .panorama => 5
  | .standby => 5

/-- The reason for a special mode holds (R107). -/
def reasonHolds (c : Causes) (override : Option Mode) (m : Mode) : Bool :=
  (match m with
    | .lift => c.lift
    | .turn => c.turn
    | .kerb => c.kerb
    | .panorama => false
    | .standby => false) || decide (override = some m)

/-- The dwell count after its update, before the choice (R108). -/
def dwellAfter (m : Mode) (reason : Bool) (dwell : Nat) : Nat :=
  if m.isSpecial then (if reason then 0 else min 255 (dwell + 1)) else dwell

/-- The mode chosen at a turnover held by neither boot nor the reset hold (R109, R110). -/
def chosenMode (mode : Mode) (b : Bindings) (desired : Mode × Nat) (dwell setting : Nat) : Mode :=
  if mode.isSpecial then
    if b.of mode = none then .panorama
    else if desired.1 = mode then mode
    else if desired.2 < modeRank mode then .panorama
    else if setting ≤ dwell then .panorama
    else mode
  else desired.1

/-- The choice of R109 and R110, with the dwell count of R108. -/
def State.choose (s : State) : State :=
  let c := s.causes
  let d := dwellAfter s.modes.mode (reasonHolds c s.modes.override s.modes.mode) s.modes.dwell
  ({ s with modes.dwell := d } : State).setMode
    (chosenMode s.modes.mode s.modes.bind (desiredMode c s.modes.override s.modes.bind) d (rulesDwell s.modes.rules))

/-- The reset hold at a turnover (R114): the mode the reset set is kept, STANDBY in place of an unbound PANORAMA, and the
hold is cleared. -/
def State.keepHeld (s : State) : State :=
  ({ s with modes.hold := false } : State).setMode
    (if s.modes.mode = .panorama ∧ s.modes.bind.panorama = none then .standby else s.modes.mode)

/-- The mode controller at a turnover (R104, R105, R109, R113, R114), and the in-use slot record it leads to (R31,
R111). -/
def State.modeTurnover (s : State) : State :=
  let s1 : State := { s with modes.kerb := kerbAfter s.modes.rules s.modes.kerb s.veh.state s.veh.speed }
  let s2 := if s1.modes.hold then s1.keepHeld else if s1.store.boot.status = .running then s1 else s1.choose
  { s2 with layouts.inUse := s2.modes.bind.of s2.modes.mode }

/-- The mode controller at a VIEW reset (R114). -/
def State.resetModeView (s : State) : State :=
  let s1 := s.setMode
    (if s.store.boot.status = .running then s.modes.mode
     else if s.modes.bind.panorama.isSome then .panorama else .standby)
  { s1 with modes := { s1.modes with kerb := false, dwell := 0, hold := true } }

end Sys2Proof.Machine
end

