-- ==== Sys2Proof/Machine/Loads.lean ====
section
/-! DEFINITION. Table loads, reading a table back, and the events' requests (R161 to R167), with the load timer's
expiry. -/

namespace Sys2Proof.Machine

/-! ## The load context (R162 to R165) -/

/-- The load ends and its buffer is discarded. -/
def State.closeLoad (s : State) : State := { s with mgmt.load := LoadContext.idle }

/-- The table and the target that a LOAD-BEGIN or a boot entry names: none where the table is not one of the ten or the
target is out of range (R162, test 2; R174). -/
def destOf (table slot camera : Byte) : Option TableLoad :=
  match tableOf table.toNat with
  | none => none
  | some t => (targetOf t slot.toNat camera.toNat).map fun (s, c) => ⟨t, s, c, []⟩

/-- The context of a load just opened (R162). -/
def LoadContext.open_ (d : TableLoad) (total : Nat) (crc : BitVec 32) : LoadContext :=
  { st := .opened, dest := d, total := total, crc := crc, nextSeg := 0, timer := .running Config.loadMs,
    ticket := ⟨0, 0⟩ }

/-- A LOAD-BEGIN taken (R162, R29). -/
def State.serveLoadBegin (s : State) (t : Ticket) (table slot camera : Byte) (total : BitVec 16) (crc : BitVec 32) :
    State :=
  if s.mgmt.load.st ≠ .idle ∨ s.store.boot.status = .running then s.answer t .busy
  else match destOf table slot camera with
    | none => s.answer t .badArgument
    | some d =>
      if Config.loadBuffer < total.toNat ∨ d.table.limit < total.toNat then s.answer t .badArgument
      else if d.table.isLayout ∧ s.slotGuarded d.slot then s.answer t .inUse
      else ({ s with mgmt.load := LoadContext.open_ d total.toNat crc } : State).answer t .done

/-- The context after an accepted segment (R163). -/
def LoadContext.accept (l : LoadContext) (data : List Byte) : LoadContext :=
  { l with
    dest := { l.dest with content := l.dest.content ++ data }
    nextSeg := l.nextSeg + 1
    timer := .running Config.loadMs }

/-- A LOAD-DATA taken (R163). -/
def State.serveLoadData (s : State) (t : Ticket) (segment : BitVec 16) (data : List Byte) : State :=
  if s.mgmt.load.st ≠ .opened then s.answer t .noLoad
  else if segment.toNat ≠ s.mgmt.load.nextSeg ∨ s.mgmt.load.total < s.mgmt.load.dest.content.length + data.length then
    s.closeLoad.answer t .sequence
  else ({ s with mgmt.load := s.mgmt.load.accept data } : State).answer t .done

/-- The tests of a LOAD-END, in order (R164, R32). -/
inductive LoadVerdict where
  | sequence
  | badCrc
  | badContent (index : Nat)
  | inUse
  | passes
deriving DecidableEq, Repr

def State.loadVerdict (s : State) : LoadVerdict :=
  let l := s.mgmt.load
  if l.dest.content.length < l.total then .sequence
  else if crc32 l.dest.content ≠ l.crc then .badCrc
  else match contentCheck l.dest.table l.dest.content with
    | some i => .badContent i
    | none => if l.dest.table.isLayout ∧ s.slotGuarded l.dest.slot then .inUse else .passes

/-- A LOAD-END taken (R164): a layout table that passes is written at once; any other waits for the turnover. -/
def State.serveLoadEnd (s : State) (t : Ticket) : State :=
  if s.mgmt.load.st ≠ .opened then s.answer t .noLoad
  else match s.loadVerdict with
    | .sequence => s.closeLoad.answer t .sequence
    | .badCrc => s.closeLoad.answer t .badCrc
    | .badContent i => s.closeLoad.answerBadContent t i
    | .inUse => s.closeLoad.answer t .inUse
    | .passes =>
      if s.mgmt.load.dest.table.isLayout then (s.closeLoad.writeLayout s.mgmt.load.dest).answer t .done
      else { s with mgmt.load := { s.mgmt.load with st := .applying, timer := .stopped, ticket := t } }

/-- A LOAD-ABORT taken (R165). -/
def State.serveLoadAbort (s : State) (t : Ticket) : State :=
  if s.mgmt.load.st = .opened then s.closeLoad.answer t .done else s.answer t .noLoad

/-- LOAD_TIMER_EXPIRY (R165); a timer that is not running does not expire (log 4). -/
def State.loadTimerExpiry (s : State) : State :=
  if s.mgmt.load.st = .opened ∧ s.mgmt.load.timer.isRunning then s.closeLoad.raise evLoadFailed else s

/-! ## TABLE-READ (R161) -/

/-- A table's content in force; none for an absent layout table. -/
def State.tableContent (s : State) (d : TableLoad) : Option (List Byte) :=
  match d.table with
  | .tileMap => (s.layouts.slots.get d.slot).tileMap
  | .warpGrid => (s.layouts.slots.get d.slot).grids.get d.cam
  | .cameraProfile => some (s.port d.cam).profile
  | .checkWindows => some (s.port d.cam).windows
  | .balance => some s.bal.table
  | .bands => some s.ovl.bands
  | .palette => some s.ovl.palette
  | .glyphs => some s.ovl.glyphs
  | .overlay => some s.ovl.elements.flatten
  | .modeRules => some s.modes.rules

/-- A table's present length (R161): that of its content in force, and for an absent layout table its fixed length
(log 24). -/
def State.presentLength (s : State) (d : TableLoad) : Nat :=
  match s.tableContent d with
  | none => d.table.limit
  | some bs => bs.length

/-- A TABLE-READ taken (R161). -/
def State.serveTableRead (s : State) (t : Ticket) (table slot camera : Byte) (offset : BitVec 16) (length : Byte) :
    State :=
  match destOf table slot camera with
  | none => s.answer t .badArgument
  | some d =>
    if length.toNat < 1 ∨ 24 < length.toNat ∨ s.presentLength d < offset.toNat + length.toNat then
      s.answer t .badArgument
    else match s.tableContent d with
      | none => s.answer t .notReady
      | some bs => s.answerWith t .done (sliceOf bs offset.toNat length.toNat)

/-! ## EVENT-ENABLE and EVENT-ACK (R167) -/

/-- An EVENT-ENABLE taken. -/
def State.serveEventEnable (s : State) (t : Ticket) (mask : BitVec 24) : State :=
  ({ s with mgmt.enable := mask } : State).answer t .done

/-- An EVENT-ACK taken. -/
def State.serveEventAck (s : State) (t : Ticket) (mask : BitVec 24) : State :=
  ({ s with mgmt.status := s.mgmt.status &&& ~~~mask } : State).answer t .done

/-! ## Commands -/

/-- LOAD_TIMER_EXPIRY. -/
def execLoadTimerExpiry (s : State) : Host.Outcome State Fault Refusal := .next s.loadTimerExpiry

end Sys2Proof.Machine
end

