-- ==== Sys2Proof/Machine/Memory.lean ====
section
/-! DEFINITION. The configuration memory and boot (11_configuration_memory_and_power_up.md, R172 to R175): accesses at the
interface, STORE-WRITE and STORE-READ, the boot image's header and entries, and the commands of the memory. -/

namespace Sys2Proof.Machine

/-! ## The interface (R172) -/

/-- An access joins those at the interface, which run in the order made. -/
def State.pushAccess (s : State) (a : Access) : State := { s with store.access := s.store.access ++ [a] }

/-- The access in progress ends. -/
def State.popAccess (s : State) : State := { s with store.access := s.store.access.tail }

/-- `n` bytes of the memory from `offset`; a memory that does not answer returns 0xFF for every byte (R172). -/
def State.readStore (s : State) (answered : Bool) (offset n : Nat) : List Byte :=
  if answered then Memory.readBytes storeDefault s.store.mem offset n else List.replicate n 0xFF

/-- A page takes its new content. -/
def State.writePage (s : State) (w : PageWrite) : State :=
  { s with store.mem := Memory.writeBytes storeDefault s.store.mem w.offset w.data }

/-- The end of a page write that has lost its request: the page holds its old or its new content (R172, R175), and the next
free value says which (log 11). -/
def State.settlePage (s : State) (w : PageWrite) : State :=
  { s with
    store.mem := if Config.pageTakesNew s.freeCount then Memory.writeBytes storeDefault s.store.mem w.offset w.data
      else s.store.mem
    freeCount := s.freeCount + 1 }

/-- Page writes that have lost their requests end one after another. -/
def State.settlePages (ws : List PageWrite) (s : State) : State := ws.foldl State.settlePage s

/-- The late writes in front of the interface, and what stands behind them. -/
def splitLate : List Access → List PageWrite × List Access
  | .lateWrite w :: rest => (w :: (splitLate rest).1, (splitLate rest).2)
  | rest => ([], rest)

/-- The late writes in front are over, as they are once a later access ends: each access runs to its end before the next
begins (R172, log 18). -/
def State.endLateWrites (s : State) : State :=
  { s.settlePages (splitLate s.store.access).1 with store.access := (splitLate s.store.access).2 }

def Access.isLate : Access → Bool
  | .lateWrite _ => true
  | .bootHeader => false
  | .bootEntry => false
  | .storeRead _ _ => false
  | .pageWrite => false

/-! ## STORE-WRITE and STORE-READ (R175) -/

/-- A STORE-WRITE taken (R175). -/
def State.serveStoreWrite (s : State) (t : Ticket) (offset : BitVec 16) (data : List Byte) : State :=
  if offset.toNat % Config.pageBytes ≠ 0 then s.answer t .badArgument
  else if s.store.boot.status = .running ∨ s.store.writing.isSome then s.answer t .busy
  else
    ({ s with store := { s.store with
        writing := some ⟨t, offset.toNat, data⟩
        writeTimer := .running Config.writeMs } } : State).pushAccess .pageWrite

/-- A STORE-READ taken (R175). -/
def State.serveStoreRead (s : State) (t : Ticket) (offset : BitVec 16) : State :=
  if Config.storeBytes < offset.toNat + Config.storeReadBytes then s.answer t .badArgument
  else if s.store.writing.isSome then s.answer t .busy
  else s.pushAccess (.storeRead t offset.toNat)

/-- The page write in flight has its report: the store-write state is IDLE and the write timer stopped. -/
def State.endWrite (s : State) : State :=
  { s with store := { s.store with writing := none, writeTimer := .stopped, access := s.store.access.tail } }

/-- The page write loses its request: the state is IDLE and the timer stopped, and the write keeps its place at the
interface, behind the accesses made before it (R172, log 18). -/
def State.loseWrite (s : State) (w : PageWrite) : State :=
  { s with store := { s.store with
      writing := none
      writeTimer := .stopped
      access := s.store.access.map fun a => if a = .pageWrite then .lateWrite w else a } }

/-- PAGE_WRITE_COMPLETE (R175, R172): the report of the page write at the interface answers its STORE-WRITE; that of a
late write answers nothing, and the last one ends the wait of the first boot read after a FULL reset. -/
def State.pageWriteComplete (s : State) : State :=
  match s.store.access, s.store.writing with
  | .pageWrite :: _, some w => (s.endWrite.writePage w).answer w.ticket .done
  | .lateWrite w :: rest, _ =>
    { s.popAccess.settlePage w with
      store.bootWait := if rest.any Access.isLate then s.store.bootWait else .stopped }
  | _, _ => s

/-- WRITE_TIMER_EXPIRY (R175): the request is answered, and its page is settled when the write ends at the interface
(log 11); a timer that is not running does not expire (log 4). -/
def State.writeTimerExpiry (s : State) : State :=
  match s.store.writing with
  | none => s
  | some w =>
    if s.store.writeTimer.isRunning then (s.loseWrite w).answer w.ticket .timeout else s

/-- STORE_READ_COMPLETE (R175). -/
def State.storeReadComplete (s : State) (answered : Bool) : State :=
  let s' := s.endLateWrites
  match s'.store.access.head? with
  | some (.storeRead t offset) => s'.popAccess.answerWith t .done (s'.readStore answered offset Config.storeReadBytes)
  | _ => s

/-! ## Boot (R173, R174) -/

def State.setBoot (s : State) (b : Boot) : State := { s with store.boot := b }

/-- Boot ends with a status of R173's table. -/
def State.endBoot (s : State) (status : BootStatus) : State :=
  s.setBoot { s.store.boot with status := status, due := none }

/-- Boot ends when its last entry is applied or skipped: LOADED if none failed, CONTENT-FAIL otherwise (R173). -/
def State.finishBoot (s : State) : State :=
  s.endBoot (if s.store.boot.failed.isSome then .contentFail else .loaded)

/-- Boot goes on: it reads the next entry, or ends when none is left. -/
def State.continueBoot (s : State) : State :=
  if Config.bootHeaderBytes + s.store.boot.length ≤ s.store.boot.offset then s.finishBoot
  else s.pushAccess .bootEntry

/-- BOOT_WAIT_EXPIRY (R172). -/
def State.bootWaitExpiry (s : State) : State :=
  if s.store.bootWait.isRunning then { s with store.bootWait := .stopped } else s

/-- The marker of a boot image. -/
def bootMarker : List Byte := [0xB0, 0x07, 0x4E, 0x16]

/-- The tests of R173, in order, on the 12 header bytes and the bytes behind them: the status with which boot ends, or
none where it goes on. -/
def bootHeaderTest (header : List Byte) (entries : Nat → List Byte) : Option BootStatus :=
  if header.take 4 ≠ bootMarker then some .none
  else if Config.storeBytes - Config.bootHeaderBytes < u32At header 4 then some .crcFail
  else if (crc32 (entries (u32At header 4))).toNat ≠ u32At header 8 then some .crcFail
  else none

/-- BOOT_HEADER_READ (R173). -/
def State.bootHeaderRead (s : State) (answered : Bool) : State :=
  let s' := s.endLateWrites
  if s'.store.access.head? = some .bootHeader ∧ s.store.bootWait.isRunning = false then
    let header := s'.readStore answered 0 Config.bootHeaderBytes
    match bootHeaderTest header (s'.readStore answered Config.bootHeaderBytes) with
    | some status => s'.popAccess.endBoot status
    | none => (s'.popAccess.setBoot { Boot.begin with length := u32At header 4 }).continueBoot
  else s

/-- An entry failed: the first one's index is kept (R173). -/
def Boot.fail (b : Boot) (index : Nat) : Boot := { b with failed := some (b.failed.getD index) }

/-- A BINDINGS entry: four bindings, in the order PANORAMA, TURN, LIFT, KERB (R174). Answers whether none was refused. -/
def State.applyBindings (s : State) (data : List Byte) : Bool × State :=
  let b1 := s.bind 1 (data.getD 0 0)
  let b2 := b1.2.bind 2 (data.getD 1 0)
  let b3 := b2.2.bind 3 (data.getD 2 0)
  let b4 := b3.2.bind 4 (data.getD 3 0)
  (decide (b1.1 = .done) && decide (b2.1 = .done) && decide (b3.1 = .done) && decide (b4.1 = .done), b4.2)

/-- What boot makes of an entry (R174). -/
inductive EntryVerdict where
  | skip
  | bindings
  | layout (d : TableLoad)
  | due (d : TableLoad)
deriving DecidableEq, Repr

/-- The checks of an entry with its code, slot, camera and data (R174, R36). -/
def State.entryVerdict (s : State) (code slot camera : Byte) (data : List Byte) : EntryVerdict :=
  if code.toNat = bindingsCode then (if data.length = 4 then .bindings else .skip)
  else match destOf code slot camera with
    | none => .skip
    | some d =>
      if d.table.limit < data.length then .skip
      else if (contentCheck d.table data).isSome then .skip
      else if d.table.isLayout then (if s.slotGuarded d.slot then .skip else .layout { d with content := data })
      else .due { d with content := data }

/-- An entry that ends within the image is checked and applied (R174): the entry's index is `index`. A due table stops the
reading until the turnover. -/
def State.applyEntry (s : State) (index : Nat) (code slot camera : Byte) (data : List Byte) : State :=
  match s.entryVerdict code slot camera data with
  | .skip => (s.setBoot (s.store.boot.fail index)).continueBoot
  | .bindings =>
    let (ok, s') := s.applyBindings data
    if ok then s'.continueBoot else (s'.setBoot (s'.store.boot.fail index)).continueBoot
  | .layout d => (s.writeLayout d).continueBoot
  | .due d => s.setBoot { s.store.boot with due := some d }

/-- BOOT_ENTRY_READ (R174): an entry that runs past the image's length fails and ends the reading. -/
def State.bootEntryRead (s : State) (answered : Bool) : State :=
  let s' := s.endLateWrites
  if s'.store.access.head? = some .bootEntry then
    let b := s.store.boot
    let left := Config.bootHeaderBytes + b.length - b.offset
    let head := s'.readStore answered b.offset 5
    let s1 := s'.popAccess
    if left < 5 ∨ left < 5 + u16At head 3 then (s1.setBoot (b.fail b.index)).finishBoot
    else
      (s1.setBoot { b with offset := b.offset + 5 + u16At head 3, index := b.index + 1 }).applyEntry b.index
        (head.getD 0 0) (head.getD 1 0) (head.getD 2 0) (s'.readStore answered (b.offset + 5) (u16At head 3))
  else s

/-! ## Commands -/

/-- PAGE_WRITE_COMPLETE. -/
def execPageWriteComplete (s : State) : Host.Outcome State Fault Refusal := .next s.pageWriteComplete

/-- WRITE_TIMER_EXPIRY. -/
def execWriteTimerExpiry (s : State) : Host.Outcome State Fault Refusal := .next s.writeTimerExpiry

/-- STORE_READ_COMPLETE. -/
def execStoreReadComplete (answered : Bool) (s : State) : Host.Outcome State Fault Refusal :=
  .next (s.storeReadComplete answered)

/-- BOOT_WAIT_EXPIRY. -/
def execBootWaitExpiry (s : State) : Host.Outcome State Fault Refusal := .next s.bootWaitExpiry

/-- BOOT_HEADER_READ. -/
def execBootHeaderRead (answered : Bool) (s : State) : Host.Outcome State Fault Refusal :=
  .next (s.bootHeaderRead answered)

/-- BOOT_ENTRY_READ. -/
def execBootEntryRead (answered : Bool) (s : State) : Host.Outcome State Fault Refusal :=
  .next (s.bootEntryRead answered)

end Sys2Proof.Machine
end

