-- ==== Sys2Proof/Machine/Transmit.lean ====
section
/-! DEFINITION. The output transmitter (09_the_output_frame_and_its_header.md, R147 to R154): the header record and its
bytes, the header lines' samples, and frame start. -/

namespace Sys2Proof.Machine

/-! ## The header record (R149, R150) -/

/-- A camera's header fields (R150). -/
def State.camHeader (s : State) (c : Cam) : CamHeader :=
  { st := (s.port c).st, reading := Ring.readingFrame (s.port c).ring, gain := (s.camBal c).gain,
    drops := (s.port c).drops, attnValue := (s.chan c).attnValue }

/-- The header record of the coming frame, from what each owner holds, with the responses handed over (R149). -/
def State.headerNow (s : State) : Header :=
  { frameNo := s.tx.frameNo + 1
    mode := s.modes.mode
    slot := s.layouts.inUse
    cams := Quad.build s.camHeader
    vd := s.veh.state
    seq := if s.veh.state = .none then 0 else s.veh.seq
    band := s.veh.band
    hold := s.mgmt.hold
    lost := s.mgmt.lost
    boot := s.store.boot.status
    bootIndex := if s.store.boot.status = .contentFail then s.store.boot.failed.getD 0 else 0
    writing := s.store.writing.isSome
    status := s.mgmt.status
    enable := s.mgmt.enable
    attention := s.attentionFlag
    underrun := s.tx.underrun
    responses := s.mgmt.filled.take Config.headerResponses }

/-- The transmitter builds the header record of the coming frame, and the filled responses at the head of the response
queue, up to 8, leave it (R149, R151). -/
def State.buildHeader (s : State) : State :=
  { s with
    tx.header := s.headerNow
    mgmt.filled := s.mgmt.filled.drop Config.headerResponses }

/-! ## The header block (R152, formats section) -/

/-- A response record as it is sent (formats section). -/
def Response.bytes (r : Response) : List Byte :=
  [r.tag, r.kind, BitVec.ofNat 8 r.result.code, BitVec.ofNat 8 r.data.length] ++ r.data

/-- A camera's nine bytes (formats section): with no READING slot the presence byte and the frame number are 0. -/
def CamHeader.bytes (c : CamHeader) : List Byte :=
  [BitVec.ofNat 8 c.st.code, if c.reading.isSome then 1 else 0] ++ be16 (c.reading.getD 0) ++ be16 c.gain ++
  be16 c.drops ++ [c.attnValue]

/-- The flags byte (formats section). -/
def Header.flags (h : Header) : Byte :=
  BitVec.ofNat 8 ((if h.hold then 1 else 0) + (if h.attention then 2 else 0) + (if h.writing then 4 else 0))

/-- A byte that is 0xFF for NONE (formats section). -/
def noneByte : Option Nat → Byte
  | none => 0xFF
  | some n => BitVec.ofNat 8 n

/-- The bytes of the header block before its CRC (formats section). -/
def Header.body (h : Header) : List Byte :=
  ([0xC3, 0x5A, 0x41, 0x16, 0x01] : List Byte) ++ be32 h.frameNo.toNat ++
  [BitVec.ofNat 8 h.mode.code, noneByte (h.slot.map Fin.val)] ++
  (h.cams.get 0).bytes ++ (h.cams.get 1).bytes ++ (h.cams.get 2).bytes ++ (h.cams.get 3).bytes ++
  [BitVec.ofNat 8 h.vd.code, BitVec.ofNat 8 h.seq, BitVec.ofNat 8 h.band, h.flags, BitVec.ofNat 8 h.lost,
    BitVec.ofNat 8 h.boot.code] ++
  be16 h.bootIndex ++ mask24Bytes h.status ++ mask24Bytes h.enable ++
  [noneByte h.underrun.first, BitVec.ofNat 8 h.underrun.count, BitVec.ofNat 8 h.responses.length] ++
  h.responses.flatMap Response.bytes

/-- The header block, its CRC-16 last (R152, R170). -/
def Header.block (h : Header) : List Byte := withCrc16 h.body

/-- The luma of header sample `k`, counted through the four header lines (R171): byte k div 2's high four bits, then its
low four; 16 past the end of the block. -/
def headerLuma (block : List Byte) (k : Nat) : Nat :=
  match block[k / 2]? with
  | none => 16
  | some b => if k % 2 = 0 then 16 + 12 * (b.toNat / 16) else 16 + 12 * (b.toNat % 16)

/-- Sample x of header line 0..3 of the frame being sent (R148, R171). -/
def State.headerSample (s : State) (line x : Nat) : Sample := ⟨headerLuma s.tx.header.block (1024 * line + x), 128⟩

/-- Sample x of line 0..599 of the frame being sent (R147, R148): the header lines, the 576 active lines, and black in the
blanking lines. -/
def State.lineSample (s : State) (line x : Nat) : Sample :=
  if line < 4 then s.headerSample line x
  else if line < 580 then s.activeSample ((line - 4) / 32) ((line - 4) % 32) x
  else ⟨16, 128⟩

/-! ## Frame start (R147) -/

/-- The frame number advances, the working underrun record is cleared (R147, R153), and the mode and the near indication
of the frame about to be sent go to the vehicle interface (R111, R87). -/
def State.openFrame (s : State) : State :=
  { s with
    tx := { s.tx with frameNo := s.tx.frameNo + 1, phase := .header, underrun := ⟨none, 0⟩ }
    veh := { s.veh with sentMode := s.ovl.view.mode, near := nearOf s.ovl.drawList } }

/-- FRAME_START (R147): the frame opens and the compositor starts band 0 in half 0 (R53). -/
def State.frameStart (s : State) : State := (s.openFrame.dropWork).startBand 0

/-- FRAME_START. -/
def execFrameStart (s : State) : Host.Outcome State Fault Refusal := .next s.frameStart

end Sys2Proof.Machine
end

