-- ==== Sys2Proof/Machine/Turnover.lean ====
section
/-! DEFINITION. The turnover's work, block by block (R147 and the rules it names): the rings' readers, the tables due, the
balance unit, the mode, the frame plan, the frame view and the header. The order of the parts is the one the rules
give: live set and rings before a profile (R8, R18), gains before a Balance Table (R60), rules before causes (R103),
elements before the frame view (R96), a boot end before the choice (R174), every owner's work before the header
(R149). -/

namespace Sys2Proof.Machine

/-! ## Tables due (R164, R174) -/

/-- The tables that take effect at this turnover: that of an APPLYING load, and boot's. -/
def State.dueTables (s : State) : List TableLoad :=
  (if s.mgmt.load.st = .applying then [s.mgmt.load.dest] else []) ++ s.store.boot.due.toList

/-- The content due for a table without a target. -/
def dueContent (ds : List TableLoad) (t : Table) : Option (List Byte) :=
  (ds.find? fun d => decide (d.table = t)).map TableLoad.content

/-- The live set of a turnover (R18). -/
def State.liveNow (s : State) : Quad Bool := Quad.build fun p => decide ((s.port p).st = .live)

/-- Each ring acts as the compositor's reader (R18). -/
def State.turnRings (s : State) : State :=
  { s with ports := Quad.build fun p =>
      { s.port p with ring := Ring.turnover (decide ((s.port p).st = .live)) (s.port p).ring } }

/-- A Camera Profile is applied (R8), with what it does at the channel and the balance unit (R67, R72, R140, R141) and the
attention read of a status register newly known (R4). -/
def State.applyProfile (s : State) (p : Cam) (profile : List Byte) : State :=
  let old := s.port p
  let s1 := s.putPort p (old.applyProfile (s.writingFor p) profile)
  let s2 := s1.setChan p ((s1.chan p).applyProfile profile)
  let s3 := s2.setBal p (s2.camBal p).quiet
  if old.attention && (profileStatus old.profile).isNone && (profileStatus profile).isSome then s3.askAttention p
  else s3

/-- A Check Windows table is applied (R6). -/
def State.applyWindows (s : State) (p : Cam) (windows : List Byte) : State :=
  s.setPort p ((s.port p).applyWindows windows)

/-- A due table of a camera takes effect at its port. -/
def State.applyCamTable (s : State) (d : TableLoad) : State :=
  match d.table with
  | .cameraProfile => s.applyProfile d.cam d.content
  | .checkWindows => s.applyWindows d.cam d.content
  | _ => s

/-- The balance unit's work, the nudge test by the table still in force among it (log 29), then a Balance Table due
(R60). -/
def State.turnBalance (s : State) (table : Option (List Byte)) : State :=
  match table with
  | none => s.balanceTurnover
  | some bs => s.balanceTurnover.applyBalanceTable bs

/-- Mode Rules due take effect before the causes are evaluated (R103). -/
def State.applyRules (s : State) (table : Option (List Byte)) : State :=
  match table with
  | none => s
  | some bs => { s with modes.rules := bs }

/-- A Band Table due (R93, R129). -/
def State.applyBands (s : State) (table : Option (List Byte)) : State :=
  match table with
  | none => s
  | some bs => s.applyBandTable bs

/-- A Palette due (R81). -/
def State.applyPalette (s : State) (table : Option (List Byte)) : State :=
  match table with
  | none => s
  | some bs => { s with ovl.palette := bs }

/-- A GLYPHS table due (R89). -/
def State.applyGlyphs (s : State) (table : Option (List Byte)) : State :=
  match table with
  | none => s
  | some bs => { s with ovl.glyphs := bs }

/-- Every table due takes effect, and the pending element list is applied, each at its place in its owner's work; the
balance unit's own work is among it. -/
def State.applyTables (s : State) (ds : List TableLoad) : State :=
  ((((((ds.foldl State.applyCamTable s).turnBalance (dueContent ds .balance)).applyRules
    (dueContent ds .modeRules)).applyBands (dueContent ds .bands)).applyPalette (dueContent ds .palette)).applyGlyphs
    (dueContent ds .glyphs)).applyEdits (dueContent ds .overlay)

/-- The LOAD-END of the table applied is answered DONE and the context is IDLE (R164), after the element requests' answers
(R96; log 13 for a table other than OVERLAY). -/
def State.finishLoad (s : State) : State :=
  if s.mgmt.load.st = .applying then s.closeLoad.answer s.mgmt.load.ticket .done else s

/-- Boot's due table has been applied: boot reads on, or ends before the mode choice (R174). -/
def State.finishBootTable (s : State) : State :=
  match s.store.boot.due with
  | none => s
  | some _ => (s.setBoot { s.store.boot with due := none }).continueBoot

/-! ## What the coming frame latches -/

/-- The frame plan (R38), with the statistics and the mark cleared (R52). -/
def State.latchPlan (s : State) (live : Quad Bool) : State :=
  { s with comp := { s.comp with
      plan :=
        { slot := s.layouts.inUse
          live := live
          source := Quad.build fun c => if live.get c then Ring.find (s.port c).ring .reading else none
          gain := Quad.build fun c => (s.camBal c).gain }
      seam := Seam.zero
      incomplete := false } }

/-- The turnover's work up to the handing over of responses; take-up then resumes (R159). -/
def State.turnoverWork (s : State) : State :=
  let live := s.liveNow
  let s1 := ((s.turnRings.applyTables s.dueTables).finishLoad.finishBootTable).modeTurnover
  let s2 : State := { (s1.latchPlan live).latchView live with tx.phase := .blanking }
  s2.buildHeader

end Sys2Proof.Machine
end

