-- ==== Sys2Proof/Machine/Resets.lean ====
section
/-! DEFINITION. Power-on, FULL reset and VIEW reset (R154 to R156, R168, R169), each block by its own rule. -/

namespace Sys2Proof.Machine

/-- The page writes at the head of the interface, with no read before them: those that may have begun (R172). -/
def writesAhead (writing : Option PageWrite) : List Access → List PageWrite
  | .pageWrite :: rest => writing.toList ++ writesAhead writing rest
  | .lateWrite w :: rest => w :: writesAhead writing rest
  | _ => []

/-- POWER_ON (R154): every block takes its power-on values. The links, the pins and the memory's contents are not the
part's; a page whose write may have begun holds its old or its new content (log 11). -/
def State.powerOnAgain (s : State) : State :=
  let s' := s.settlePages (writesAhead s.store.writing s.store.access)
  State.powerOn (Quad.build fun p => (s.port p).lock) (Oct.build fun l => (s.line l).raw) s'.store.mem s'.freeCount
    s.pending

/-- The page writes the memory has still to finish, in the order they reached the interface (R172). -/
def Store.writes (x : Store) : List PageWrite :=
  x.access.flatMap fun
    | .pageWrite => x.writing.toList
    | .lateWrite w => [w]
    | .bootHeader => []
    | .bootEntry => []
    | .storeRead _ _ => []

/-- The configuration memory's interface and boot at a FULL reset (R172, R173): a page write goes on without its request,
and the first boot read waits for it (log 18); reads of before the reset are dropped (log 27). -/
def State.resetStore (s : State) : State :=
  { s with store :=
      { mem := s.store.mem
        access := s.store.writes.map .lateWrite ++ [.bootHeader]
        writing := none
        writeTimer := .stopped
        bootWait := if s.store.writes = [] then .stopped else .running Config.bootWaitMs
        boot := Boot.begin } }

/-- The ports, rings and arbiter at a FULL reset (R20, R21): what waits is withdrawn, a granted transfer runs to its
end, and port 0 comes first. -/
def State.resetPorts (s : State) : State :=
  { s with
    ports := Quad.build fun p => (s.port p).fullReset (s.writingFor p)
    dram.lastPort := 3 }

/-- Every block at a FULL reset takes its power-on values; the transmitter goes on (R155, R168). -/
def State.fullResetBlocks (s : State) : State :=
  ({ s.resetPorts with
    layouts := LayoutStore.powerOn
    bal := BalanceUnit.powerOn
    ovl := OverlayEngine.powerOn
    modes := ModeController.powerOn
    mgmt := Management.powerOn } : State).resetCompositor.resetVehicle.resetChannels.resetStore

/-- A FULL reset taken in blanking: the header record is discarded and built again at once (R155). -/
def State.rebuildHeader (s : State) : State := if s.tx.phase = .blanking then s.buildHeader else s

/-- A RESET naming FULL, taken (R168): its own response, DONE, is the first in the empty response queue. -/
def State.fullReset (s : State) (t : Ticket) : State :=
  let s1 := s.fullResetBlocks
  ({ s1 with mgmt.filled := [⟨t.tag, t.kind, .done, []⟩] } : State).rebuildHeader

/-- Every port and ring at a VIEW reset (R22, R14). -/
def State.viewResetPort (p : Cam) (s : State) : State := s.putPort p ((s.port p).viewReset (s.writingFor p))

/-- The blocks' part of a VIEW reset (R169: R22, R74, R114, R58). -/
def State.viewResetBlocks (s : State) : State :=
  let s1 := (forCams State.viewResetPort s).resetBalanceView.resetModeView
  { s1 with comp.incomplete := true, dram.lastPort := 3 }

/-- A RESET naming VIEW, taken (R169). -/
def State.viewReset (s : State) (t : Ticket) : State := s.viewResetBlocks.answer t .done

/-- POWER_ON. -/
def execPowerOn (s : State) : Host.Outcome State Fault Refusal := .next s.powerOnAgain

end Sys2Proof.Machine
end

