-- ==== Sys2Proof/Machine/Requests.lean ====
section
/-! DEFINITION. Records, the request queue, take-up and routing (R157 to R160, R168, R169), and the commands that are
requests or bring one, and the turnover, after which take-up resumes. -/

namespace Sys2Proof.Machine

/-! ## Routing (R160) -/

/-- A RESET taken (R168, R169). -/
def State.serveReset (s : State) (t : Ticket) (what : Byte) : State :=
  if what = 0 then s.fullReset t else if what = 1 then s.viewReset t else s.answer t .badArgument

/-- A request handed to its owner (R160). -/
def State.serveReq (s : State) (t : Ticket) : Req → State
  | .loadBegin table slot camera total crc => s.serveLoadBegin t table slot camera total crc
  | .loadData segment data => s.serveLoadData t segment data
  | .loadEnd => s.serveLoadEnd t
  | .loadAbort => s.serveLoadAbort t
  | .tableRead table slot camera offset length => s.serveTableRead t table slot camera offset length
  | .bindMode mode slot => s.serveBindMode t mode slot
  | .setView mode => s.serveSetView t mode
  | .releaseView => s.serveReleaseView t
  | .elementWrite index record => s.serveElementWrite t index record
  | .elementClear index => s.serveElementClear t index
  | .camXfer camera device direction register count data =>
    s.serveCamXfer t camera device direction register count data
  | .lineConfig line function polarity debounce role edge source =>
    s.serveLineConfig t line function polarity debounce role edge source
  | .linesSet mask => s.serveLinesSet t mask
  | .linesClear mask => s.serveLinesClear t mask
  | .eventEnable mask => s.serveEventEnable t mask
  | .eventAck mask => s.serveEventAck t mask
  | .storeWrite offset data => s.serveStoreWrite t offset data
  | .storeRead offset => s.serveStoreRead t offset
  | .reset what => s.serveReset t what

/-- A request at its take-up (R160): an unlisted kind is answered UNKNOWN-KIND under kind code 0xFF (formats section), a
payload of a length its kind does not allow BAD-ARGUMENT, and any other goes to its owner. -/
def State.serve (s : State) (r : Request) : State :=
  match parseRequest r.kind r.payload with
  | .unknownKind => s.answer ⟨r.tag, 0xFF⟩ .unknownKind
  | .badLength => s.answer ⟨r.tag, r.kind⟩ .badArgument
  | .ok q => s.serveReq ⟨r.tag, r.kind⟩ q

/-! ## Take-up (R159) -/

/-- A place of the response queue is free. -/
def State.placeFree (s : State) : Bool := decide (s.mgmt.reserved + s.mgmt.filled.length < Config.responsePlaces)

/-- The request at the head leaves the queue and a place is reserved for it; HOLD is cleared where this brings the queue
down to 4 (R158, R159). -/
def State.popRequest (s : State) (rest : List Request) : State :=
  { s with
    mgmt.queue := rest
    mgmt.hold := if rest.length = Config.holdClear then false else s.mgmt.hold
    mgmt.reserved := s.mgmt.reserved + 1 }

/-- Take-up, for at most `n` requests: one at a time, each whole before the next, while the queue holds one and a place
is free. -/
def State.takeUpN : Nat → State → State
  | 0, s => s
  | n + 1, s =>
    match s.mgmt.queue with
    | [] => s
    | r :: rest => if s.placeFree then State.takeUpN n ((s.popRequest rest).serve r) else s

/-- Take-up: no more requests than wait in the queue. -/
def State.takeUp (s : State) : State := State.takeUpN s.mgmt.queue.length s

/-! ## Arrival (R157, R158) -/

/-- A request is discarded (R157): the lost-request count rises until it reaches 255. -/
def State.loseRequest (s : State) : State := { s with mgmt.lost := min 255 (s.mgmt.lost + 1) }

/-- A request joins the tail of the queue; HOLD is set where this brings the queue to 12 (R158; log 25). -/
def State.pushRequest (s : State) (r : Request) : State :=
  { s with
    mgmt.queue := s.mgmt.queue ++ [r]
    mgmt.hold := if (s.mgmt.queue ++ [r]).length = Config.holdSet then true else s.mgmt.hold }

/-- A request that arrives (R157, R158, R159): discarded where its payload is above 56 bytes or the queue holds 16, queued
otherwise; then take-up is attempted (logs 1, 23). -/
def State.submit (s : State) (r : Request) : State :=
  (if Config.maxPayload < r.payload.length then s.loseRequest
   else if Config.requestPlaces ≤ s.mgmt.queue.length then s.loseRequest
   else s.pushRequest r).takeUp

/-- A record on the return channel (R157): type 0x02 goes to the vehicle interface, which checks it; a request that passes
its checks is offered to the queue; any other record is discarded as a request. -/
def State.receiveRecord (s : State) (bytes : List Byte) : State :=
  if bytes.head? = some 0x02 then s.vehicleRecord bytes
  else match requestOfRecord bytes with
    | some r => s.submit r
    | none => s.loseRequest

/-- The turnover (R147), then the take-up that the places freed allow (R159; log 12). -/
def State.turnover (s : State) : State := s.turnoverWork.takeUp

/-! ## Commands -/

/-- TURNOVER. -/
def execTurnover (s : State) : Host.Outcome State Fault Refusal := .next s.turnover

/-- REQUEST_RECORD. -/
def execRequestRecord (bytes : List Byte) (s : State) : Host.Outcome State Fault Refusal := .next (s.receiveRecord bytes)

/-- VEHICLE_DATA_RECORD. -/
def execVehicleDataRecord (bytes : List Byte) (s : State) : Host.Outcome State Fault Refusal :=
  .next (s.receiveRecord bytes)

/-- RESET_FULL. -/
def execResetFull (tag : Byte) (s : State) : Host.Outcome State Fault Refusal :=
  .next (s.submit ((Req.reset 0).toRequest tag))

/-- RESET_VIEW. -/
def execResetView (tag : Byte) (s : State) : Host.Outcome State Fault Refusal :=
  .next (s.submit ((Req.reset 1).toRequest tag))

/-- UNKNOWN_KIND. -/
def execUnknownKind (tag kind : Byte) (payload : List Byte) (s : State) : Host.Outcome State Fault Refusal :=
  .next (s.submit ⟨tag, kind, payload⟩)

/-- LOAD_BEGIN. -/
def execLoadBegin (tag table slot camera : Byte) (total : BitVec 16) (crc : BitVec 32) (s : State) :
    Host.Outcome State Fault Refusal := .next (s.submit ((Req.loadBegin table slot camera total crc).toRequest tag))

/-- LOAD_DATA. -/
def execLoadData (tag : Byte) (segment : BitVec 16) (data : List Byte) (s : State) :
    Host.Outcome State Fault Refusal := .next (s.submit ((Req.loadData segment data).toRequest tag))

/-- LOAD_END. -/
def execLoadEnd (tag : Byte) (s : State) : Host.Outcome State Fault Refusal :=
  .next (s.submit (Req.loadEnd.toRequest tag))

/-- LOAD_ABORT. -/
def execLoadAbort (tag : Byte) (s : State) : Host.Outcome State Fault Refusal :=
  .next (s.submit (Req.loadAbort.toRequest tag))

/-- TABLE_READ. -/
def execTableRead (tag table slot camera : Byte) (offset : BitVec 16) (length : Byte) (s : State) :
    Host.Outcome State Fault Refusal := .next (s.submit ((Req.tableRead table slot camera offset length).toRequest tag))

/-- BIND_MODE. -/
def execBindMode (tag mode slot : Byte) (s : State) : Host.Outcome State Fault Refusal :=
  .next (s.submit ((Req.bindMode mode slot).toRequest tag))

/-- SET_VIEW. -/
def execSetView (tag mode : Byte) (s : State) : Host.Outcome State Fault Refusal :=
  .next (s.submit ((Req.setView mode).toRequest tag))

/-- RELEASE_VIEW. -/
def execReleaseView (tag : Byte) (s : State) : Host.Outcome State Fault Refusal :=
  .next (s.submit (Req.releaseView.toRequest tag))

/-- ELEMENT_WRITE. -/
def execElementWrite (tag index : Byte) (record : List Byte) (s : State) : Host.Outcome State Fault Refusal :=
  .next (s.submit ((Req.elementWrite index record).toRequest tag))

/-- ELEMENT_CLEAR. -/
def execElementClear (tag index : Byte) (s : State) : Host.Outcome State Fault Refusal :=
  .next (s.submit ((Req.elementClear index).toRequest tag))

/-- CAM_XFER. -/
def execCamXfer (tag camera device direction : Byte) (register : BitVec 16) (count : Byte) (data : List Byte)
    (s : State) : Host.Outcome State Fault Refusal :=
  .next (s.submit ((Req.camXfer camera device direction register count data).toRequest tag))

/-- LINE_CONFIG. -/
def execLineConfig (tag line function polarity debounce role edge source : Byte) (s : State) :
    Host.Outcome State Fault Refusal :=
  .next (s.submit ((Req.lineConfig line function polarity debounce role edge source).toRequest tag))

/-- LINES_SET. -/
def execLinesSet (tag mask : Byte) (s : State) : Host.Outcome State Fault Refusal :=
  .next (s.submit ((Req.linesSet mask).toRequest tag))

/-- LINES_CLEAR. -/
def execLinesClear (tag mask : Byte) (s : State) : Host.Outcome State Fault Refusal :=
  .next (s.submit ((Req.linesClear mask).toRequest tag))

/-- EVENT_ENABLE. -/
def execEventEnable (tag : Byte) (mask : BitVec 24) (s : State) : Host.Outcome State Fault Refusal :=
  .next (s.submit ((Req.eventEnable mask).toRequest tag))

/-- EVENT_ACK. -/
def execEventAck (tag : Byte) (mask : BitVec 24) (s : State) : Host.Outcome State Fault Refusal :=
  .next (s.submit ((Req.eventAck mask).toRequest tag))

/-- STORE_WRITE. -/
def execStoreWrite (tag : Byte) (offset : BitVec 16) (data : List Byte) (s : State) :
    Host.Outcome State Fault Refusal := .next (s.submit ((Req.storeWrite offset data).toRequest tag))

/-- STORE_READ. -/
def execStoreRead (tag : Byte) (offset : BitVec 16) (s : State) : Host.Outcome State Fault Refusal :=
  .next (s.submit ((Req.storeRead offset).toRequest tag))

end Sys2Proof.Machine
end

