-- ==== Sys2Proof/Machine/Dispatch.lean ====
section
/-! DEFINITION. One arm for each command: the command's meaning. -/

namespace Sys2Proof.Machine

def exec (i : Instr) (s : State) : Host.Outcome State Fault Refusal :=
  match i with
  | .powerOn => Sys2Proof.Machine.execPowerOn s
  | .resetFull tag => Sys2Proof.Machine.execResetFull tag s
  | .resetView tag => Sys2Proof.Machine.execResetView tag s
  | .lockGained port => Sys2Proof.Machine.execLockGained port s
  | .lockLost port => Sys2Proof.Machine.execLockLost port s
  | .frameStartMark port => Sys2Proof.Machine.execFrameStartMark port s
  | .lineReceived port pixels => Sys2Proof.Machine.execLineReceived port pixels s
  | .frameEndMark port lineCount attention => Sys2Proof.Machine.execFrameEndMark port lineCount attention s
  | .stalenessTimerExpiry port => Sys2Proof.Machine.execStalenessTimerExpiry port s
  | .dramWriteComplete => Sys2Proof.Machine.execDramWriteComplete s
  | .sourceReadComplete => Sys2Proof.Machine.execSourceReadComplete s
  | .bandCompletion band => Sys2Proof.Machine.execBandCompletion band s
  | .frameStart => Sys2Proof.Machine.execFrameStart s
  | .bandStart band => Sys2Proof.Machine.execBandStart band s
  | .bandEnd band => Sys2Proof.Machine.execBandEnd band s
  | .turnover => Sys2Proof.Machine.execTurnover s
  | .requestRecord bytes => Sys2Proof.Machine.execRequestRecord bytes s
  | .unknownKind tag kind payload => Sys2Proof.Machine.execUnknownKind tag kind payload s
  | .loadBegin tag table slot camera total crc => Sys2Proof.Machine.execLoadBegin tag table slot camera total crc s
  | .loadData tag segment data => Sys2Proof.Machine.execLoadData tag segment data s
  | .loadEnd tag => Sys2Proof.Machine.execLoadEnd tag s
  | .loadAbort tag => Sys2Proof.Machine.execLoadAbort tag s
  | .tableRead tag table slot camera offset length => Sys2Proof.Machine.execTableRead tag table slot camera offset length s
  | .bindMode tag mode slot => Sys2Proof.Machine.execBindMode tag mode slot s
  | .setView tag mode => Sys2Proof.Machine.execSetView tag mode s
  | .releaseView tag => Sys2Proof.Machine.execReleaseView tag s
  | .elementWrite tag index record => Sys2Proof.Machine.execElementWrite tag index record s
  | .elementClear tag index => Sys2Proof.Machine.execElementClear tag index s
  | .camXfer tag camera device direction register count data => Sys2Proof.Machine.execCamXfer tag camera device direction register count data s
  | .lineConfig tag line function polarity debounce role edge source => Sys2Proof.Machine.execLineConfig tag line function polarity debounce role edge source s
  | .linesSet tag mask => Sys2Proof.Machine.execLinesSet tag mask s
  | .linesClear tag mask => Sys2Proof.Machine.execLinesClear tag mask s
  | .eventEnable tag mask => Sys2Proof.Machine.execEventEnable tag mask s
  | .eventAck tag mask => Sys2Proof.Machine.execEventAck tag mask s
  | .storeWrite tag offset data => Sys2Proof.Machine.execStoreWrite tag offset data s
  | .storeRead tag offset => Sys2Proof.Machine.execStoreRead tag offset s
  | .vehicleDataRecord bytes => Sys2Proof.Machine.execVehicleDataRecord bytes s
  | .staleExpiry => Sys2Proof.Machine.execStaleExpiry s
  | .lostExpiry => Sys2Proof.Machine.execLostExpiry s
  | .rawChange line level => Sys2Proof.Machine.execRawChange line level s
  | .debounceTimerExpiry line => Sys2Proof.Machine.execDebounceTimerExpiry line s
  | .loadTimerExpiry => Sys2Proof.Machine.execLoadTimerExpiry s
  | .cameraAnswer channel accept => Sys2Proof.Machine.execCameraAnswer channel accept s
  | .readByte channel byte => Sys2Proof.Machine.execReadByte channel byte s
  | .stepTimerExpiry channel => Sys2Proof.Machine.execStepTimerExpiry channel s
  | .stopMarkSent channel => Sys2Proof.Machine.execStopMarkSent channel s
  | .pageWriteComplete => Sys2Proof.Machine.execPageWriteComplete s
  | .writeTimerExpiry => Sys2Proof.Machine.execWriteTimerExpiry s
  | .storeReadComplete answered => Sys2Proof.Machine.execStoreReadComplete answered s
  | .bootWaitExpiry => Sys2Proof.Machine.execBootWaitExpiry s
  | .bootHeaderRead answered => Sys2Proof.Machine.execBootHeaderRead answered s
  | .bootEntryRead answered => Sys2Proof.Machine.execBootEntryRead answered s

end Sys2Proof.Machine
end

