-- ==== Sys2Proof/Machine/Step.lean ====
section
/-! DEFINITION. One step: the command at the front of the queue, or a millisecond of the part's time base. -/

namespace Sys2Proof.Machine

/-- The state with one command put in front of those that wait. -/
def State.withCommand (s : State) (i : Instr) : State := { s with pending := i :: s.pending }

/-- A step takes the command at the front of the queue and does it with the queue's rest; on an empty queue one
millisecond passes (DESIGN CHOICE, log 2). -/
def step (s : State) : Host.Outcome State Fault Refusal :=
  match s.pending with
  | [] => .next s.tick
  | i :: rest => exec i { s with pending := rest }

/-- The state with the command that a word spells in front; no word spells one (log 10). -/
def State.withFetchWord (s : State) (nbits w : Nat) : State :=
  match decodeTableWord nbits w with
  | none => s
  | some i => s.withCommand i

end Sys2Proof.Machine
end

