-- ==== Sys2Proof/Safety.lean ====
section
/-! DEFINITION. What the statements are stated in: the invariants of the part, each drawn from the rules it names, and the
short names of a state's situation. -/

namespace Sys2Proof.Machine

/-! ## Responses (R157 to R159) -/

/-- No request waits and a place of the response queue is free: a request that arrives is taken at once (R159). -/
abbrev State.takesAtOnce (s : State) : Prop :=
  s.mgmt.queue = [] ∧ s.mgmt.reserved + s.mgmt.filled.length < 32

/-- The part with one more filled response, and nothing else changed: what a request answered at its take-up leaves. -/
def State.responded (s : State) (tag kind : Byte) (r : Result) (data : List Byte) : State :=
  { s with mgmt.filled := s.mgmt.filled ++ [⟨tag, kind, r, data⟩] }

/-- A transaction in flight is a pass-through, whose request waits for its result. -/
def Transaction.isPass (t : Transaction) : Bool :=
  match t.who with
  | .pass _ => true
  | .exposure _ => false
  | .attention => false

/-- The requests that wait at a channel (R138, R139). -/
def Channel.owed (c : Channel) : Nat :=
  c.queue.length + (match c.flight with
    | none => 0
    | some t => if t.isPass then 1 else 0)

def Access.isRead : Access → Bool
  | .storeRead _ _ => true
  | .bootHeader => false
  | .bootEntry => false
  | .pageWrite => false
  | .lateWrite _ => false

/-- The requests taken whose work has not ended: at the channels, in the pending element list, a LOAD-END that waits for
its turnover, a page write, the STORE-READs (R159, R160). -/
def State.owed (s : State) : Nat :=
  (s.chan 0).owed + (s.chan 1).owed + (s.chan 2).owed + (s.chan 3).owed + s.ovl.edits.length +
  (if s.mgmt.load.st = .applying then 1 else 0) + (if s.store.writing.isSome then 1 else 0) +
  (s.store.access.filter Access.isRead).length

/-- Every reserved place stands for one request whose work has not ended, and the limits of both queues hold (R158,
R159). -/
def ResponsesAccounted (s : State) : Prop :=
  s.mgmt.reserved = s.owed ∧ s.mgmt.reserved + s.mgmt.filled.length ≤ 32 ∧ s.mgmt.queue.length ≤ 16 ∧
  s.mgmt.lost ≤ 255

/-- A request whose byte lists have the lengths its kind allows (formats section). -/
def Req.fits : Req → Bool
  | .loadData _ data => decide (data.length ≤ 48)
  | .elementWrite _ rec => decide (rec.length = 32)
  | .camXfer _ _ _ _ _ data => decide (data.length ≤ 16)
  | .storeWrite _ data => decide (data.length = 32)
  | _ => true

/-- The command of the opcode table that a request under a tag is; a RESET naming neither FULL nor VIEW is none. -/
def Req.command (tag : Byte) : Req → Option Instr
  | .loadBegin t s c total crc => some (.loadBegin tag t s c total crc)
  | .loadData seg data => some (.loadData tag seg data)
  | .loadEnd => some (.loadEnd tag)
  | .loadAbort => some (.loadAbort tag)
  | .tableRead t s c off len => some (.tableRead tag t s c off len)
  | .bindMode m s => some (.bindMode tag m s)
  | .setView m => some (.setView tag m)
  | .releaseView => some (.releaseView tag)
  | .elementWrite i rec => some (.elementWrite tag i rec)
  | .elementClear i => some (.elementClear tag i)
  | .camXfer c d dir reg n data => some (.camXfer tag c d dir reg n data)
  | .lineConfig l f p d r e o => some (.lineConfig tag l f p d r e o)
  | .linesSet m => some (.linesSet tag m)
  | .linesClear m => some (.linesClear tag m)
  | .eventEnable m => some (.eventEnable tag m)
  | .eventAck m => some (.eventAck tag m)
  | .storeWrite off data => some (.storeWrite tag off data)
  | .storeRead off => some (.storeRead tag off)
  | .reset w => if w = 0 then some (.resetFull tag) else if w = 1 then some (.resetView tag) else none

/-- Nothing waits at a channel: it becomes IDLE when its transaction ends (R143). -/
abbrev Channel.nothingWaits (c : Channel) : Prop := c.queue = [] ∧ c.exposure = none ∧ c.attnWaiting = false

/-! ## Vehicle lines (R119) -/

/-- The debounced level of a line becoming `level` is an edge that matches the line's edge select (R119). -/
abbrev Line.edgeMatched (l : Line) (level : Bool) : Prop :=
  l.debounced ≠ some level ∧
    (l.cfg.edge = .both ∨ (l.cfg.edge = .assert ∧ (level = true ↔ l.cfg.polarity = .activeHigh)) ∨
      (l.cfg.edge = .release ∧ (level = true ↔ l.cfg.polarity = .activeLow)))

/-! ## Camera ports and rings (R1, R9, R15, R18) -/

/-- One ring (R15): the frame in flight is the one FILLING slot; at most one slot is READY and at most one READING; and a
LIVE port has one of either (R18). -/
def PortConsistent (p : Port) : Prop :=
  (∀ i, (p.ring.get i).st = .filling ↔ ∃ f, p.flight = some f ∧ f.slot = i) ∧
  (∀ i j, (p.ring.get i).st = .ready → (p.ring.get j).st = .ready → i = j) ∧
  (∀ i j, (p.ring.get i).st = .reading → (p.ring.get j).st = .reading → i = j) ∧
  (p.st = .live → ∃ i, (p.ring.get i).st = .ready ∨ (p.ring.get i).st = .reading) ∧
  (p.st = .acquiring ∨ p.st = .live ∨ p.st = .stale ∨ p.st = .frozen → p.lock = true)

def PortsConsistent (s : State) : Prop := ∀ p, PortConsistent (s.port p)

/-- A port's line buffers once the frame in `slot` is discarded (R20): the writes of its lines that wait are withdrawn, and
the write that is granted, the oldest, runs to its end. -/
def keptLines (granted : Bool) (slot : Fin 3) (bufs : List LineBuf) : List LineBuf :=
  if granted then bufs.take 1 ++ (bufs.drop 1).filter fun b => decide (b.slot ≠ slot)
  else bufs.filter fun b => decide (b.slot ≠ slot)

/-! ## Memories (R2, R15, R172) -/

/-- The DRAM keeps its canonical form and holds nothing past its last byte, every line that waits is one of a slot, and
what a band has read so far is in its canonical form; the configuration memory likewise, and every page write lies in
it. -/
def MemoriesSound (s : State) : Prop :=
  Memory.wf dramDefault s.dram.mem ∧ (∀ c ∈ s.dram.mem, c.1 < Config.dramBytes) ∧
  (∀ p, ∀ b ∈ (s.port p).bufs, b.line < Config.frameHeight ∧ b.data.length ≤ Config.lineBytes) ∧
  (∀ w, s.comp.work = some w → ∀ c, Memory.wf 0 (w.data.get c)) ∧
  Memory.wf storeDefault s.store.mem ∧ (∀ c ∈ s.store.mem, c.1 < Config.storeBytes) ∧
  (∀ w, s.store.writing = some w ∨ .lateWrite w ∈ s.store.access → w.offset + w.data.length ≤ Config.storeBytes)

/-- Page writes that have lost their requests end one after another: each leaves its page old or new (R172, R175). -/
def MaySettle : List PageWrite → List Host.Cell → List Host.Cell → Prop
  | [], mem, mem' => mem' = mem
  | w :: ws, mem, mem' =>
    MaySettle ws mem mem' ∨ MaySettle ws (Memory.writeBytes storeDefault mem w.offset w.data) mem'

/-! ## Tables (R164, R170) -/

/-- Every table in force, and every table that waits for a turnover, has passed its content check. -/
def TablesChecked (s : State) : Prop :=
  (∀ p, contentCheck .cameraProfile (s.port p).profile = none) ∧
  (∀ p, contentCheck .checkWindows (s.port p).windows = none) ∧
  contentCheck .balance s.bal.table = none ∧ contentCheck .bands s.ovl.bands = none ∧
  contentCheck .palette s.ovl.palette = none ∧ contentCheck .glyphs s.ovl.glyphs = none ∧
  contentCheck .modeRules s.modes.rules = none ∧
  s.ovl.elements.length = 64 ∧ (∀ r ∈ s.ovl.elements, elementOk r = true) ∧
  (∀ e ∈ s.ovl.edits, ∀ r, e.change = some r → elementOk r = true) ∧
  (∀ i m, (s.layouts.slots.get i).tileMap = some m → contentCheck .tileMap m = none) ∧
  (∀ i c g, (s.layouts.slots.get i).grids.get c = some g → contentCheck .warpGrid g = none) ∧
  (s.mgmt.load.st = .applying → contentCheck s.mgmt.load.dest.table s.mgmt.load.dest.content = none) ∧
  (∀ d, s.store.boot.due = some d → contentCheck d.table d.content = none)

/-- Every gain and target lies in 128..512 (R61), in the records and in the frame plan. -/
def GainsInRange (s : State) : Prop :=
  ∀ c, 128 ≤ (s.camBal c).gain ∧ (s.camBal c).gain ≤ 512 ∧ 128 ≤ (s.camBal c).target ∧ (s.camBal c).target ≤ 512 ∧
    128 ≤ s.comp.plan.gain.get c ∧ s.comp.plan.gain.get c ≤ 512

/-! ## Modes and layouts (R30, R31, R101, R102, R114) -/

/-- A bound slot and the in-use slot are VALID, the frame plan goes through the in-use slot, and PANORAMA is bound
whenever a special mode is bound or current. -/
def ModesConsistent (s : State) : Prop :=
  (∀ m i, s.modes.bind.of m = some i → (s.layouts.slots.get i).condition = .valid) ∧
  (∀ i, s.layouts.inUse = some i → (s.layouts.slots.get i).condition = .valid) ∧
  s.comp.plan.slot = s.layouts.inUse ∧
  (s.modes.bind.anySpecial = true ∨ s.modes.mode.isSpecial = true → s.modes.bind.panorama.isSome)

/-! ## Channels (R131, R136, R138, R143) -/

/-- An IDLE channel has nothing in flight and nothing waiting; a transaction is in flight only on a locked link; at most
four pass-throughs wait. -/
def ChannelsConsistent (s : State) : Prop :=
  ∀ p, ((s.chan p).active = false → (s.chan p).flight = none ∧ (s.chan p).choose = none) ∧
    ((s.chan p).flight ≠ none → (s.port p).lock = true) ∧
    (s.chan p).queue.length ≤ 4

/-! ## What is sent (R50, R148) -/

/-- An output sample is in range (R50). -/
def Sample.inRange (x : Sample) : Prop := 16 ≤ x.luma ∧ x.luma ≤ 235 ∧ 16 ≤ x.chroma ∧ x.chroma ≤ 240

/-- Every sample a half of the band buffer holds has passed the output stage. -/
def HalvesInRange (s : State) : Prop :=
  (∀ l ∈ s.comp.half0.lines, ∀ x ∈ l, Sample.inRange x) ∧ (∀ l ∈ s.comp.half1.lines, ∀ x ∈ l, Sample.inRange x)

/-! ## Timers (R12) -/

/-- A millisecond passes at a timer: a running one comes a millisecond nearer its expiry, any other stays as it was. -/
def Timer.countedDown (before after : Timer) : Prop :=
  (∀ n, before = .running n → after = .running (n - 1)) ∧ ((∀ n, before ≠ .running n) → after = before)

/-! ## RESET FULL (R168) -/

/-- A command that brings the request RESET FULL under a tag: the request itself, or a record or raw payload that carries
it (R157, formats section). -/
def bringsFullReset (c : Instr) (tag : Byte) : Prop :=
  c = .resetFull tag ∨ c = .unknownKind tag 0x70 [0] ∨
    ∃ bs, (c = .requestRecord bs ∨ c = .vehicleDataRecord bs) ∧ requestOfRecord bs = some ⟨tag, 0x70, [0]⟩

/-! ## Boot (R173, R174) -/

/-- The memory unit once boot has dealt with an entry of `len` data bytes: it asks for the next entry, behind the accesses
`rest`, or, at the image's end, boot ends LOADED, or CONTENT-FAIL where an entry failed. -/
def Store.afterEntry (x : Store) (rest : List Access) (len : Nat) (failed : Option Nat) : Store :=
  if x.boot.offset + 5 + len < 12 + x.boot.length then
    { x with
      access := rest ++ [.bootEntry]
      boot := { x.boot with offset := x.boot.offset + 5 + len, index := x.boot.index + 1, failed := failed } }
  else
    { x with
      access := rest
      boot := { x.boot with
        offset := x.boot.offset + 5 + len
        index := x.boot.index + 1
        failed := failed
        status := if failed = none then .loaded else .contentFail
        due := none } }

/-! ## Gains and exposure (R63, R67) -/

/-- Camera `c`'s target, with partner `p`, is computed from the frame just ended and not held (R63). -/
abbrev State.targetComputed (s : State) (c p : Cam) : Prop :=
  s.comp.incomplete = false ∧ 1024 ≤ (s.comp.seam.pair c p).2.2 ∧ (s.comp.seam.pair c p).1 ≠ 0 ∧
    s.comp.plan.live.get c = true ∧ s.comp.plan.live.get p = true

/-! ## Transactions as the channel fills them when they start (R132, R133) -/

/-- The attention read of a status register under a Camera Profile. -/
def attentionRead (profile : List Byte) (register : Nat) : Transaction :=
  ⟨.attention, profileDevice profile, true, register, 1, [], .device, [], false⟩

/-- The write of an exposure value under a Camera Profile with exposure control, current from its start (R140). -/
def exposureWrite (profile : List Byte) (x : ExposureControl) (value : Nat) : Transaction :=
  ⟨.exposure value, profileDevice profile, false, x.register, 2,
    [BitVec.ofNat 8 (value / 256), BitVec.ofNat 8 (value % 256)], .device, [], true⟩

/-- A channel that has just started a transaction: ACTIVE, the start mark and the device address sent, the step timer at
25 ms (R133, R135; `out` is the model's own window, log 21). -/
def Channel.started (c : Channel) (t : Transaction) : Channel :=
  { c with
    active := true, flight := some t, timer := .running 25, out := c.out ++ [.startMark, .device t.device false] }

/-- The channel once an attention read is asked for: it starts at an IDLE channel and waits at an ACTIVE one (R141,
R143). -/
def Channel.askedRead (c : Channel) (profile : List Byte) (register : Nat) : Channel :=
  if c.active then { c with attnWaiting := true } else c.started (attentionRead profile register)

/-- The channel once an exposure value is handed over: it starts at an IDLE channel and is served last, and at an ACTIVE
one it waits in place of any that waits (R140, R143). -/
def Channel.handed (c : Channel) (profile : List Byte) (x : ExposureControl) (value : Nat) : Channel :=
  if c.active then { c with exposure := some value }
  else { c.started (exposureWrite profile x value) with lastServed := .exposure }

/-! ## Seam pixels (R51) -/

/-- An output pixel is a composed seam pixel of cameras `a` and `b`, in either order. -/
def seamBetween (plan : Plan) (slots : Quad LayoutSlot) (a b : Cam) (x y : Nat) : Bool :=
  match plan.slot with
  | none => false
  | some i =>
    match (slots.get i).tile x y with
    | none => false
    | some t =>
      decide (tileTreatment plan.live (slots.get i) t x y = .composed) &&
      decide (0 < secondaryWeight t (x % 32) (y % 32)) && decide (secondaryWeight t (x % 32) (y % 32) < 256) &&
      (decide (t.primary = some a ∧ t.secondary = some b) || decide (t.primary = some b ∧ t.secondary = some a))

/-- Camera `c`'s luma sample S at an output pixel, before gain (R45). -/
def rawLuma (plan : Plan) (slots : Quad LayoutSlot) (fetch : Cam → Nat → Nat) (c : Cam) (x y : Nat) : Nat :=
  match plan.slot with
  | none => 0
  | some i => (camSample plan (slots.get i) fetch c x y).s

/-- A figure summed over the 32 rows and 1024 columns of band `b`. -/
def bandSum (b : Nat) (f : Nat → Nat → Nat) : Nat :=
  ∑ r ∈ Finset.range 32, ∑ x ∈ Finset.range 1024, f x (32 * b + r)

/-! ## What each table's content check accepts, by its own rule -/

/-- A Camera Profile's fields are in range (R7, R66); those behind an absent field are ignored. -/
def ProfileGood (p : List Byte) : Prop :=
  (byteAt p 0 = 0 ∨ byteAt p 0 = 1) ∧ 2 ≤ byteAt p 1 ∧ 128 ≤ u16At p 2 ∧ u16At p 2 ≤ 512 ∧ byteAt p 4 ≤ 127 ∧
  (byteAt p 5 = 0 ∨ (byteAt p 5 = 1 ∧ 1 ≤ u16At p 12 ∧ u16At p 8 ≤ u16At p 14 ∧ u16At p 14 ≤ u16At p 10)) ∧
  (byteAt p 16 = 0 ∨ byteAt p 16 = 1)

/-- A Check Windows record (R6). -/
def WindowGood (r : List Byte) : Prop :=
  8 ≤ u16At r 4 ∧ u16At r 4 ≤ 256 ∧ 8 ≤ u16At r 6 ∧ u16At r 6 ≤ 256 ∧ u16At r 0 + u16At r 4 ≤ 1280 ∧
  u16At r 2 + u16At r 6 ≤ 800

/-- A tile record (R26). -/
def TileGood (r : List Byte) : Prop :=
  (byteAt r 0 ≤ 3 ∨ byteAt r 0 = 0xFF) ∧ (byteAt r 0 = 0xFF → byteAt r 1 = 0xFF) ∧
  (byteAt r 1 ≠ 0xFF → byteAt r 1 ≤ 3 ∧ byteAt r 1 ≠ byteAt r 0 ∧ byteAt r 2 ≤ 1 ∧ -255 ≤ s16At r 4 ∧ s16At r 4 ≤ 255)

/-- A vertex record (R27, R28). -/
def VertexGood (r : List Byte) : Prop := u16At r 0 = 0xFFFF ∨ (u16At r 0 ≤ 20464 ∧ u16At r 2 ≤ 12784)

/-- The Mode Rules record (R103). -/
def RulesGood (r : List Byte) : Prop :=
  u16At r 0 ≤ 1500 ∧ u16At r 2 ≤ 1500 ∧ u16At r 4 ≤ 1500 ∧ u16At r 2 < u16At r 4

/-- A rectangle at an offset of an element record (R76). -/
def RectGood (r : List Byte) (o : Nat) : Prop :=
  -2048 ≤ s16At r o ∧ s16At r o ≤ 2047 ∧ -2048 ≤ s16At r (o + 2) ∧ s16At r (o + 2) ≤ 2047 ∧
  1 ≤ u16At r (o + 4) ∧ u16At r (o + 4) ≤ 2048 ∧ 1 ≤ u16At r (o + 6) ∧ u16At r (o + 6) ≤ 2048

/-- An element record passes the element check (R75, R76, R77). -/
def ElementGood (r : List Byte) : Prop :=
  byteAt r 0 ≤ 4 ∧ byteAt r 1 ≤ 7 ∧ byteAt r 2 < 32 ∧ byteAt r 3 < 64 ∧ byteAt r 4 < 64 ∧ byteAt r 5 < 16 ∧
  byteAt r 6 < 16 ∧ byteAt r 7 ≤ 15 ∧
  (∀ k < 6, ¬((byteAt r 3).testBit k = true ∧ (byteAt r 4).testBit k = true)) ∧
  (byteAt r 0 = 1 → byteAt r 8 ≤ 2 ∧ 1 ≤ byteAt r 9 ∧ byteAt r 9 ≤ 8) ∧
  (byteAt r 0 = 2 → byteAt r 8 ≤ 7 ∧ 0 < u16At r 9 ∧ u16At r 9 < u16At r 11 ∧ u16At r 11 < u16At r 13 ∧
    u16At r 13 ≤ 500 ∧ byteAt r 15 ≤ 15 ∧ byteAt r 16 ≤ 15 ∧ byteAt r 17 ≤ 15 ∧ RectGood r 18 ∧ byteAt r 26 ≤ 1) ∧
  (byteAt r 0 = 3 → byteAt r 8 ≤ 31 ∧ -2048 ≤ s16At r 9 ∧ s16At r 9 ≤ 2047 ∧ -2048 ≤ s16At r 11 ∧ s16At r 11 ≤ 2047) ∧
  (byteAt r 0 = 4 → RectGood r 8 ∧ 1 ≤ byteAt r 16 ∧ byteAt r 16 ≤ 16)

/-- Record `i` of a content of `size`-byte records is whole and good. -/
def RecordGood (size : Nat) (good : List Byte → Prop) (bs : List Byte) (i : Nat) : Prop :=
  size * (i + 1) ≤ bs.length ∧ good ((bs.drop (size * i)).take size)

/-- A check of `n` records of `size` bytes, in index order (R164, R170): it passes when there are exactly `n` and every one
is good, and otherwise names the first that fails, is missing or incomplete, or `n` for bytes left over. -/
def ChecksRecords (n size : Nat) (good : List Byte → Prop) (bs : List Byte) (answer : Option Nat) : Prop :=
  (answer = none ↔ bs.length = size * n ∧ ∀ i < n, RecordGood size good bs i) ∧
  ∀ i, answer = some i ↔ (∀ j < i, RecordGood size good bs j) ∧
    ((i < n ∧ ¬RecordGood size good bs i) ∨ (i = n ∧ size * n < bs.length))

/-- In a Balance Table's content, whole entry `a` names camera `b` as its partner. -/
def NamesPartner (bs : List Byte) (a b : Cam) : Prop := 3 * (a.val + 1) ≤ bs.length ∧ byteAt bs (3 * a.val) = b.val

/-- Entry `c` of a Balance Table is whole, its own fields are in range, and it lies on no cycle of partners (R59). -/
def EntryGood (bs : List Byte) (c : Cam) : Prop :=
  3 * (c.val + 1) ≤ bs.length ∧ (byteAt bs (3 * c.val) ≤ 3 ∨ byteAt bs (3 * c.val) = 0xFF) ∧
  128 ≤ u16At bs (3 * c.val + 1) ∧ u16At bs (3 * c.val + 1) ≤ 512 ∧ ¬Relation.TransGen (NamesPartner bs) c c

/-- The header fields of a Band Table (R92, R93). -/
structure BandHeader where
  edges : List Int
  hysteresis : Nat
  colour : Nat
deriving DecidableEq, Repr

/-- Band count, hysteresis, degraded colour, edges (formats section). -/
def BandHeader.bytes (h : BandHeader) : List Byte :=
  [BitVec.ofNat 8 (h.edges.length + 1), BitVec.ofNat 8 h.hysteresis, BitVec.ofNat 8 h.colour] ++ h.edges.flatMap beInt

/-- The header fields lie in the ranges of R92. -/
def BandHeader.good (h : BandHeader) : Prop :=
  h.edges.length ≤ 14 ∧ (∀ e ∈ h.edges, -450 ≤ e ∧ e ≤ 450) ∧ h.edges.Pairwise (· < ·) ∧ h.hysteresis ≤ 50 ∧ h.colour ≤ 15

/-- The bytes of one band: its polyline count, and of each polyline its point count and its points (formats section). -/
def curveSetBytes (polylines : List (List (Int × Int))) : List Byte :=
  BitVec.ofNat 8 polylines.length :: polylines.flatMap fun points =>
    BitVec.ofNat 8 points.length :: points.flatMap fun p => beInt p.1 ++ beInt p.2

/-- A band's polylines lie in the ranges of R92. -/
def curveSetGood (polylines : List (List (Int × Int))) : Prop :=
  polylines.length ≤ 3 ∧ ∀ points ∈ polylines, 2 ≤ points.length ∧ points.length ≤ 16 ∧
    ∀ p ∈ points, -2048 ≤ p.1 ∧ p.1 ≤ 2047 ∧ -2048 ≤ p.2 ∧ p.2 ≤ 2047

/-- The header of a Band Table. -/
def BandTable.header (t : BandTable) : BandHeader := ⟨t.edges, t.hysteresis, t.colour⟩

/-- The bytes of a Band Table: its header fields, then each band (formats section). -/
def BandTable.bytes (t : BandTable) : List Byte := t.header.bytes ++ t.curves.flatMap curveSetBytes

/-- A Band Table's fields lie in the ranges of R92, with one curve set for each band. -/
def BandTable.good (t : BandTable) : Prop :=
  t.header.good ∧ t.curves.length = t.edges.length + 1 ∧ ∀ polylines ∈ t.curves, curveSetGood polylines

/-- A run of a glyph record (R89). -/
inductive GlyphRun where
  | repeated (count code : Nat)
  | literal (codes : List Nat)
deriving DecidableEq, Repr

def GlyphRun.codes : GlyphRun → List Nat
  | .repeated n c => List.replicate n c
  | .literal cs => cs

/-- A run's count lies in 1..128 and its codes in 0..15. -/
def GlyphRun.good (r : GlyphRun) : Prop := 1 ≤ r.codes.length ∧ r.codes.length ≤ 128 ∧ ∀ c ∈ r.codes, c ≤ 15

/-- The byte encoding of a run (formats section). -/
def GlyphRun.bytes : GlyphRun → List Byte
  | .repeated n c => [BitVec.ofNat 8 (n - 1), BitVec.ofNat 8 c]
  | .literal cs => BitVec.ofNat 8 (128 + (cs.length - 1)) :: cs.map (BitVec.ofNat 8)

/-- A glyph record's bytes, from its glyph and the runs that give its codes. -/
def glyphBytes (g : Glyph) (runs : List GlyphRun) : List Byte :=
  [BitVec.ofNat 8 g.index, BitVec.ofNat 8 g.width, BitVec.ofNat 8 g.height] ++
  be16 (runs.flatMap GlyphRun.bytes).length ++ runs.flatMap GlyphRun.bytes

/-- A glyph record passes the tests of R89 that look at it alone. -/
def GlyphGood (g : Glyph) (runs : List GlyphRun) : Prop :=
  g.index ≤ 31 ∧ 1 ≤ g.width ∧ g.width ≤ 64 ∧ 1 ≤ g.height ∧ g.height ≤ 64 ∧ (∀ r ∈ runs, r.good) ∧
  g.codes = runs.flatMap GlyphRun.codes ∧ g.codes.length = g.width * g.height

/-! ## Composition and overlays, by their own rules -/

/-- A value of R43 interpolated over a tile from its four corners, at offset (i, j); `v right down` is a corner's. -/
def interpolated (i j : Nat) (v : Nat → Nat → Nat) : Nat :=
  ((32 - i) * (32 - j) * v 0 0 + i * (32 - j) * v 1 0 + (32 - i) * j * v 0 1 + i * j * v 1 1 + 512) / 1024

/-- A sample of R45 at a position in sixteenths; `plane x y` is the byte at whole position (x, y), held to the frame's edge. -/
def sampledAt (x y : Nat) (plane : Nat → Nat → Nat) : Nat :=
  ((16 - x % 16) * (16 - y % 16) * plane (x / 16) (y / 16) + x % 16 * (16 - y % 16) * plane (x / 16 + 1) (y / 16) +
    (16 - x % 16) * (y % 16) * plane (x / 16) (y / 16 + 1) + x % 16 * (y % 16) * plane (x / 16 + 1) (y / 16 + 1) + 128) / 256

/-- The byte in a warp grid at which the vertex at a corner of output pixel (x, y)'s tile begins (R27). -/
def cornerByte (x y right down : Nat) : Nat := 4 * (33 * (y / 32 + down) + (x / 32 + right))

/-- Some corner of output pixel (x, y)'s tile is INVALID in a warp grid (R27, R42). -/
def CornerInvalid (grid : List Byte) (x y : Nat) : Prop :=
  ∃ right < 2, ∃ down < 2, u16At grid (cornerByte x y right down) = 0xFFFF

/-- One camera's part of output pixel (x, y), from its gain, its warp grid and the bytes of its source slot: the gained
luma and the two chroma samples (R43 to R47). -/
def cameraPart (gain : Nat) (grid : List Byte) (fetch : Nat → Nat) (x y : Nat) : Pix :=
  let px := interpolated (x % 32) (y % 32) fun right down => u16At grid (cornerByte x y right down)
  let py := interpolated (x % 32) (y % 32) fun right down => u16At grid (cornerByte x y right down + 2)
  ⟨min 255 ((sampledAt px py (fun a b => fetch (min b 799 * 2560 + 2 * min a 1279)) * gain + 128) / 256),
    sampledAt (px / 2) py fun a b => fetch (min b 799 * 2560 + 4 * min a 639 + 1),
    sampledAt (px / 2) py fun a b => fetch (min b 799 * 2560 + 4 * min a 639 + 3)⟩

/-- The conditions that every kind of element shares hold against a frame view (R79). -/
def ElementConditions (v : FrameView) (rec : List Byte) : Prop :=
  (byteAt rec 2).testBit v.mode.code = true ∧
  (∀ k < 6, (byteAt rec 3).testBit k = true → v.roles.getLsbD k = true) ∧
  (∀ k < 6, (byteAt rec 4).testBit k = true → v.roles.getLsbD k = false) ∧
  (byteAt rec 5 = 0 ∨ ∃ c : Cam, (byteAt rec 5).testBit c.val = true ∧ v.live.get c = false) ∧
  (byteAt rec 6 = 0 ∨ (byteAt rec 6).testBit v.vd.code = true)

/-- The rectangle at an offset of an element record (formats section). -/
def rectBytes (rec : List Byte) (o : Nat) : Rect := ⟨s16At rec o, s16At rec (o + 2), u16At rec (o + 4), u16At rec (o + 6)⟩

/-- An element passes its kind's own test and takes this appearance (R80): GUIDE (R83), ZONE (R86), ICON (R90), FRAME
(R91). -/
def ElementTakes (v : FrameView) (t : BandTable) (glyphs rec : List Byte) (k : Look) : Prop :=
  (byteAt rec 0 = 1 ∧ ∃ points, (t.curves.getD v.band [])[byteAt rec 8]? = some points ∧
    ((v.vd = .fresh ∧ k = .guide (byteAt rec 7) false (byteAt rec 9) points) ∨
      (v.vd = .stale ∧ k = .guide t.colour true (byteAt rec 9) points))) ∨
  (byteAt rec 0 = 2 ∧ (v.vd = .fresh ∨ v.vd = .stale) ∧ ∃ (i : Fin 8) (r : Nat) (cls : ZoneClass) (colour : Nat),
    byteAt rec 8 = i.val ∧ (v.sensors.get i).reading = .range r ∧ (v.sensors.get i).age ≤ 500 ∧
    k = .zone cls colour (rectBytes rec 18) (decide (byteAt rec 26 = 0)) ∧
    ((r < u16At rec 9 ∧ cls = .near ∧ colour = byteAt rec 15) ∨
      (u16At rec 9 ≤ r ∧ r < u16At rec 11 ∧ cls = .mid ∧ colour = byteAt rec 16) ∨
      (u16At rec 11 ≤ r ∧ r < u16At rec 13 ∧ cls = .far ∧ colour = byteAt rec 17))) ∨
  (byteAt rec 0 = 3 ∧ ∃ g ∈ glyphStoreOf glyphs, g.index = byteAt rec 8 ∧ k = .icon (s16At rec 9) (s16At rec 11) g) ∨
  (byteAt rec 0 = 4 ∧ k = .frame (byteAt rec 7) (rectBytes rec 8) (byteAt rec 16))

/-- A pixel is one of a rectangle's (R76). -/
def InRect (r : Rect) (x y : Int) : Prop :=
  r.left ≤ x ∧ x ≤ r.left + r.width - 1 ∧ r.top ≤ y ∧ y ≤ r.top + r.height - 1

/-- The length of segment `k` of a polyline (R84). -/
def spanLength (points : List (Int × Int)) (k : Nat) : Nat :=
  max ((points.getD (k + 1) (0, 0)).1 - (points.getD k (0, 0)).1).natAbs
    ((points.getD (k + 1) (0, 0)).2 - (points.getD k (0, 0)).2).natAbs

/-- Step `s` of a segment from (x0, y0) to (x1, y1), of length `l`, covers a pixel (R84): on the major axis the pixel at the
step, and on the minor axis `width` pixels about the rounded minor coordinate. -/
def StepPixel (x0 y0 x1 y1 : Int) (l s width : Nat) (x y : Int) : Prop :=
  let minor := fun d : Int => d.sign * ((2 * s * d.natAbs + l) / (2 * l) : Nat)
  let across := fun c v : Int => c - ((width - 1) / 2 : Nat) ≤ v ∧ v ≤ c - ((width - 1) / 2 : Nat) + width - 1
  if (y1 - y0).natAbs ≤ (x1 - x0).natAbs then
    x = x0 + (x1 - x0).sign * s ∧ across (y0 + minor (y1 - y0)) y
  else y = y0 + (y1 - y0).sign * s ∧ across (x0 + minor (x1 - x0)) x

/-- A drawn step of a guide covers a pixel (R84, R85): every step of a solid one, those with a step index whose eighth is
even of a dashed one. -/
def GuidePixel (dashed : Bool) (width : Nat) (points : List (Int × Int)) (x y : Int) : Prop :=
  ∃ k s, k + 1 < points.length ∧ s ≤ spanLength points k ∧
    (dashed = true → ((∑ j ∈ Finset.range k, spanLength points j) + s) / 8 % 2 = 0) ∧
    StepPixel (points.getD k (0, 0)).1 (points.getD k (0, 0)).2 (points.getD (k + 1) (0, 0)).1
      (points.getD (k + 1) (0, 0)).2 (spanLength points k) s width x y

end Sys2Proof.Machine
end

