-- ==== Sys2Proof/Certificates/Slice0/Obligations.lean ====
section
/-! DEFINITION. The statements about the part, each drawn from the rules its docstring names. A statement about a request
takes it at a moment when no request waits and a place of the response queue is free (`State.takesAtOnce`), the moment
at which R159 has it taken at once; `RequestQueueFillsAndEmpties` covers the others. -/

open Sys2Proof Sys2Proof.Machine

/-! ## The step -/

/-- A step takes the command at the front of the queue and does it with the queue's rest. -/
def Obligations.StepRunsTheFrontCommand : Prop :=
  ∀ (c : Instr) (rest : List Instr) (s : State),
    step { s with pending := c :: rest } = exec c { s with pending := rest }

/-- With no command waiting, a step lets one millisecond pass (the model's choice, log 2): every reading's age rises by 1
to 65535 at most and a sensor with no reading stays at 0 (R126); every running timer comes one millisecond nearer its
expiry; a stopped or expired timer stays as it is, and nothing else
moves. -/
def Obligations.IdleStepPassesOneMillisecond : Prop :=
  ∀ s : State, s.pending = [] → ∃ t, step s = .next t ∧
    (∀ i, (t.veh.sensors.get i).reading = (s.veh.sensors.get i).reading ∧
      (t.veh.sensors.get i).age =
        if (s.veh.sensors.get i).reading = .none then (s.veh.sensors.get i).age
        else min 65535 ((s.veh.sensors.get i).age + 1)) ∧
    (∀ p, t.port p = { s.port p with staleness := (t.port p).staleness } ∧
      (s.port p).staleness.countedDown (t.port p).staleness) ∧
    (∀ p, t.chan p = { s.chan p with timer := (t.chan p).timer } ∧ (s.chan p).timer.countedDown (t.chan p).timer) ∧
    (∀ l, t.line l = { s.line l with timer := (t.line l).timer } ∧ (s.line l).timer.countedDown (t.line l).timer) ∧
    s.veh.staleTimer.countedDown t.veh.staleTimer ∧ s.veh.lostTimer.countedDown t.veh.lostTimer ∧
    s.mgmt.load.timer.countedDown t.mgmt.load.timer ∧ s.store.writeTimer.countedDown t.store.writeTimer ∧
    s.store.bootWait.countedDown t.store.bootWait ∧
    t.veh = { s.veh with
      lines := t.veh.lines, sensors := t.veh.sensors, staleTimer := t.veh.staleTimer, lostTimer := t.veh.lostTimer } ∧
    t.mgmt = { s.mgmt with load := { s.mgmt.load with timer := t.mgmt.load.timer } } ∧
    t.store = { s.store with writeTimer := t.store.writeTimer, bootWait := t.store.bootWait } ∧
    t.dram = s.dram ∧ t.layouts = s.layouts ∧ t.comp = s.comp ∧ t.bal = s.bal ∧ t.ovl = s.ovl ∧ t.modes = s.modes ∧
    t.tx = s.tx ∧ t.freeCount = s.freeCount ∧ t.pending = []

/-! ## Power-on and resets -/

/-- What the part holds at power-on, and the header of frame 0 as R154 lists it, with the power-on values of R7, R20,
R21, R37, R38, R52, R53, R73, R75, R78, R81, R87, R92, R103, R114, R115, R117, R123, R130, R131, R158, R159, R162, R166,
R172 and R173. The links unlocked (so that R145 sends no stop mark), the pins low and the blank memory are the model's
(log 6). -/
def Obligations.ResetHoldsThePowerOnValues : Prop :=
  State.reset.tx.frameNo = 0 ∧ State.reset.tx.underrun = ⟨none, 0⟩ ∧
  State.reset.tx.header.frameNo = 0 ∧ State.reset.tx.header.mode = .standby ∧ State.reset.tx.header.slot = none ∧
  (∀ c, State.reset.tx.header.cams.get c = ⟨.off, none, 256, 0, 0⟩) ∧
  State.reset.tx.header.vd = .none ∧ State.reset.tx.header.seq = 0 ∧ State.reset.tx.header.band = 0 ∧
  State.reset.tx.header.hold = false ∧ State.reset.tx.header.lost = 0 ∧ State.reset.tx.header.boot = .running ∧
  State.reset.tx.header.writing = false ∧ State.reset.tx.header.status = 0 ∧ State.reset.tx.header.enable = 0 ∧
  State.reset.tx.header.attention = false ∧ State.reset.tx.header.underrun = ⟨none, 0⟩ ∧
  State.reset.tx.header.responses = [] ∧
  (∀ p, (State.reset.port p).st = .off ∧ (State.reset.port p).validFrames = 0 ∧ (State.reset.port p).drops = 0 ∧
    (State.reset.port p).acquire = 0 ∧ (State.reset.port p).repeats = 0 ∧ (State.reset.port p).lastSig = none ∧
    (State.reset.port p).attention = false ∧ (State.reset.port p).staleness = .stopped ∧
    (State.reset.port p).flight = none ∧ (State.reset.port p).windows = [] ∧ (State.reset.port p).bufs = [] ∧
    profileEnabled (State.reset.port p).profile = false ∧ profileFreezeLimit (State.reset.port p).profile = 15 ∧
    profileInitialGain (State.reset.port p).profile = 256 ∧ profileDevice (State.reset.port p).profile = 0 ∧
    profileExposure (State.reset.port p).profile = none ∧ profileStatus (State.reset.port p).profile = none ∧
    ∀ i, (State.reset.port p).ring.get i = ⟨.free, none⟩) ∧
  (∀ i, (State.reset.layouts.slots.get i).condition = .empty) ∧ State.reset.layouts.inUse = none ∧
  State.reset.comp.plan = ⟨none, Quad.fill false, Quad.fill none, Quad.fill 256⟩ ∧
  (∀ a b, State.reset.comp.seam.pair a b = (0, 0, 0)) ∧ State.reset.comp.incomplete = false ∧
  State.reset.comp.half 0 = ⟨.writing, 0, []⟩ ∧ State.reset.comp.half 1 = ⟨.free, 0, []⟩ ∧
  State.reset.comp.work = some ⟨0, [], Quad.fill [], true⟩ ∧ State.reset.comp.next = 1 ∧
  State.reset.dram.granted = none ∧ State.reset.dram.lastPort = 3 ∧
  (∀ c, State.reset.camBal c = ⟨256, 256, 0, 0, 0⟩ ∧ balancePartner State.reset.bal.table c = none ∧
    balanceManual State.reset.bal.table c = 256) ∧
  (∀ e ∈ State.reset.ovl.elements, elKind e = 0) ∧ State.reset.ovl.elements.length = 64 ∧
  paletteEntry State.reset.ovl.palette 0 = ⟨128, 128, 128, 16⟩ ∧
  (∀ i < 15, paletteEntry State.reset.ovl.palette (i + 1) = ⟨16, 128, 128, 0⟩) ∧
  State.reset.ovl.view = ⟨.standby, Quad.fill false, 0, .none, 0, Oct.fill ⟨.none, 0⟩⟩ ∧
  State.reset.ovl.edits = [] ∧ State.reset.ovl.drawList = [] ∧ glyphStoreOf State.reset.ovl.glyphs = [] ∧
  bandTableOf State.reset.ovl.bands = ⟨0, 0, [], [[]]⟩ ∧
  State.reset.modes.mode = .standby ∧ State.reset.modes.bind = ⟨none, none, none, none⟩ ∧
  rulesTurnSpeed State.reset.modes.rules = 300 ∧ rulesKerbSpeed State.reset.modes.rules = 50 ∧
  rulesKerbRelease State.reset.modes.rules = 80 ∧ rulesDwell State.reset.modes.rules = 30 ∧
  State.reset.modes.override = none ∧ State.reset.modes.kerb = false ∧ State.reset.modes.dwell = 0 ∧
  State.reset.modes.hold = false ∧
  (∀ l, (State.reset.line l).cfg = ⟨.unused, .activeHigh, 20, none, .none, .manual⟩ ∧
    (State.reset.line l).manual = false ∧ (State.reset.line l).debounced = none ∧
    (State.reset.line l).timer = .stopped) ∧
  State.reset.veh.state = .none ∧ State.reset.veh.seq = 0 ∧ State.reset.veh.angle = 0 ∧ State.reset.veh.speed = 0 ∧
  State.reset.veh.band = 0 ∧ (∀ i, State.reset.veh.sensors.get i = ⟨.none, 0⟩) ∧
  State.reset.veh.staleTimer = .stopped ∧ State.reset.veh.lostTimer = .stopped ∧
  State.reset.veh.sentMode = .standby ∧ State.reset.veh.near = false ∧
  (∀ p, (State.reset.chan p).active = false ∧ (State.reset.chan p).timer = .stopped ∧ (State.reset.chan p).out = [] ∧
    (State.reset.chan p).flight = none ∧ (State.reset.chan p).nothingWaits ∧
    (State.reset.chan p).lastServed = .exposure ∧ (State.reset.chan p).cached = none ∧
    (State.reset.chan p).attnValue = 0) ∧
  State.reset.mgmt.queue = [] ∧ State.reset.mgmt.hold = false ∧ State.reset.mgmt.lost = 0 ∧
  State.reset.mgmt.reserved = 0 ∧ State.reset.mgmt.filled = [] ∧ State.reset.mgmt.load.st = .idle ∧
  State.reset.mgmt.load.dest.content = [] ∧ State.reset.mgmt.load.timer = .stopped ∧
  State.reset.mgmt.status = 0 ∧ State.reset.mgmt.enable = 0 ∧
  State.reset.store.boot.status = .running ∧ State.reset.store.writing = none ∧
  State.reset.store.writeTimer = .stopped ∧ State.reset.store.bootWait = .stopped ∧
  State.reset.store.access = [.bootHeader]
/-- Power applied anew: every block takes its power-on values (R154), the links, the pins and the memory's contents
being kept; only a page whose write may have begun (one with no read before it at the interface) may hold its new
content in place of its old (the model's reading of R172, log 11). The transmitter starts with frame start of frame 0,
whose header R154 lists. These things in the power-on values are the model's: the bytes behind the absent fields of a
Camera Profile (log 7) and those a NONE element record does not use (log 30) are 0, DRAM reads as it did when nothing
was written (log 8), a stop mark is sent on every locked link (its reading of R145, log 19; `out` is its window on the
wire, log 21), windows are numbered anew (log 20), accesses under way at the memory are dropped (log 27), and the IDLE
load context's other fields (log 31). -/
def Obligations.PowerOnRestoresPowerOnValues : Prop :=
  ∀ s : State, ∃ mem,
    exec .powerOn s =
      .next (State.powerOn (Quad.build fun p => (s.port p).lock) (Oct.build fun l => (s.line l).raw) mem
        (s.freeCount + (writesAhead s.store.writing s.store.access).length) s.pending) ∧
    MaySettle (writesAhead s.store.writing s.store.access) s.store.mem mem

/-- A FULL reset (R168, R155, R20, R21, R37, R54, R57, R73, R99, R114, R123, R130, R145, R172, R173): every block takes
its power-on values, the output timing, the frame number and the working underrun record go on, the RESET's own response
is the first of the empty response queue, and in blanking the header record is built again at once with that response in
it. A half that is SENDING or FILL goes on, every other is FREE, and the compositor takes the lowest-numbered band whose
band start has not been taken, if that band's half is FREE; a granted camera write runs to its end and the waiting ones
are withdrawn. The DRAM and the configuration memory keep their bytes: the page writes at the interface, in flight or
late, go on without a request (what they leave is said in StoreAccessesAnswerTheirRequests), and the first boot read
stands behind them, waiting 20 ms at most; reads are dropped (the model's reading, logs 18 and 27). The stop mark on
every locked link is the model's reading of R145 (log 19), and `out` its window on the wire (log 21); so are the zero
bytes behind the absent fields of a Camera Profile (log 7) and of a NONE element record (log 30), the numbering of
windows (log 20) and the other fields of an IDLE load context (log 31). -/
def Obligations.FullResetRestoresPowerOnValues : Prop :=
  ∀ (tag : Byte) (s : State), s.takesAtOnce → ∃ t, exec (.resetFull tag) s = .next t ∧
    t.tx.frameNo = s.tx.frameNo ∧ t.tx.phase = s.tx.phase ∧ t.tx.underrun = s.tx.underrun ∧
    (s.tx.phase ≠ .blanking → t.tx.header = s.tx.header ∧
      t.mgmt = { Management.powerOn with filled := [⟨tag, 0x70, .done, []⟩] }) ∧
    (s.tx.phase = .blanking → t.mgmt = Management.powerOn ∧
      t.tx.header = { Header.powerOn with
        frameNo := s.tx.frameNo + 1, underrun := s.tx.underrun, responses := [⟨tag, 0x70, .done, []⟩] }) ∧
    (∀ p, t.port p = { Port.powerOn (s.port p).lock with
      bufs := if s.dram.granted = some (.write p) then (s.port p).bufs.take 1 else [] }) ∧
    t.dram.mem = s.dram.mem ∧ t.dram.lastPort = 3 ∧ (s.dram.granted = none → t.dram.granted = none) ∧
    (∀ p, s.dram.granted = some (.write p) → t.dram.granted = some (.write p)) ∧
    (∀ r wanted, s.dram.granted = some (.read r wanted) → s.comp.work ≠ none ∨ wanted = false →
      t.dram.granted = some (.read r false)) ∧
    (∀ k, k = (match s.tx.phase with
        | .header => 0
        | .inBand b => b + 1
        | .afterBand b => b + 1
        | .blanking => 18) →
      (∀ j < 2, t.comp.half j =
        if (s.comp.half j).st = .sending ∨ (s.comp.half j).st = .fill then s.comp.half j
        else if k < 18 ∧ j = k % 2 then ⟨.writing, k, []⟩ else ⟨.free, 0, []⟩) ∧
      (k < 18 ∧ (s.comp.half k).st ≠ .sending ∧ (s.comp.half k).st ≠ .fill →
        t.comp.next = k + 1 ∧ t.comp.work = some ⟨k, [], Quad.fill [], true⟩) ∧
      (¬(k < 18 ∧ (s.comp.half k).st ≠ .sending ∧ (s.comp.half k).st ≠ .fill) →
        t.comp.next = k ∧ t.comp.work = none)) ∧
    t.layouts = LayoutStore.powerOn ∧ t.comp.plan = Plan.powerOn ∧ t.comp.seam = Seam.zero ∧ t.comp.incomplete = true ∧
    t.bal = BalanceUnit.powerOn ∧ t.ovl = OverlayEngine.powerOn ∧ t.modes = ModeController.powerOn ∧
    t.veh = Vehicle.powerOn (Oct.build fun l => (s.line l).raw) ∧ (∀ p, t.chan p = Channel.powerOn (s.port p).lock) ∧
    (∀ writes : List PageWrite,
      writes = s.store.access.flatMap (fun a => match a with
        | .pageWrite => s.store.writing.toList
        | .lateWrite w => [w]
        | .bootHeader => []
        | .bootEntry => []
        | .storeRead _ _ => []) →
      t.store = {
        mem := s.store.mem, access := writes.map .lateWrite ++ [.bootHeader], writing := none, writeTimer := .stopped,
        bootWait := if writes = [] then .stopped else .running 20, boot := Boot.begin }) ∧
    t.freeCount = s.freeCount ∧ t.pending = s.pending

/-- A VIEW reset (R169): ports and rings by R22 and R20, gains by R74, mode and KERB latch by R114, the frame in
progress by R58; a camera write that waits is withdrawn and a granted one runs to its end; every changed port raises
CAM-STATE (R14) and a changed mode MODE-CHANGE (R112); every other piece of state is kept. -/
def Obligations.ViewResetRestartsPortsGainsAndMode : Prop :=
  ∀ (tag : Byte) (s : State), s.takesAtOnce → ∃ t, exec (.resetView tag) s = .next t ∧
    (∀ p, (t.port p).st =
        (if profileEnabled (s.port p).profile then (if (s.port p).lock then .acquiring else .absent) else .off) ∧
      (profileEnabled (s.port p).profile = true → (s.port p).lock = true →
        (t.port p).acquire = 0 ∧ (t.port p).staleness = .running 100) ∧
      (profileEnabled (s.port p).profile = false ∨ (s.port p).lock = false → (t.port p).staleness = .stopped) ∧
      (t.port p).bufs = (if s.dram.granted = some (.write p) then (s.port p).bufs.take 1 else []) ∧
      (t.port p).flight = none ∧ (t.port p).validFrames = 0 ∧ (t.port p).drops = 0 ∧ (t.port p).repeats = 0 ∧
      (t.port p).lastSig = none ∧ (t.port p).attention = false ∧ (t.port p).lock = (s.port p).lock ∧
      (t.port p).profile = (s.port p).profile ∧ (t.port p).windows = (s.port p).windows ∧
      (∀ i, (t.port p).ring.get i =
        if ((s.port p).ring.get i).st = .filling ∨ ((s.port p).ring.get i).st = .ready then ⟨.free, none⟩
        else (s.port p).ring.get i) ∧
      (t.mgmt.status.getLsbD p.val = (s.mgmt.status.getLsbD p.val || decide ((t.port p).st ≠ (s.port p).st)))) ∧
    (∀ c, (t.camBal c).gain = (match balancePartner s.bal.table c with
        | none => balanceManual s.bal.table c
        | some _ => profileInitialGain (s.port c).profile) ∧
      (t.camBal c).target = (t.camBal c).gain ∧ (t.camBal c).high = 0 ∧ (t.camBal c).low = 0 ∧
      (t.camBal c).settle = 0) ∧
    t.bal.table = s.bal.table ∧
    t.modes.mode = (if s.store.boot.status = .running then s.modes.mode
      else if s.modes.bind.panorama.isSome then .panorama else .standby) ∧
    t.modes.kerb = false ∧ t.modes.dwell = 0 ∧ t.modes.hold = true ∧ t.modes.bind = s.modes.bind ∧
    t.modes.rules = s.modes.rules ∧ t.modes.override = s.modes.override ∧
    (t.mgmt.status.getLsbD 23 = (s.mgmt.status.getLsbD 23 || decide (t.modes.mode ≠ s.modes.mode))) ∧
    (∀ n, 4 ≤ n → n < 23 → t.mgmt.status.getLsbD n = s.mgmt.status.getLsbD n) ∧
    t.comp = { s.comp with incomplete := true } ∧ t.dram = { s.dram with lastPort := 3 } ∧
    t.mgmt = { s.mgmt with
      filled := s.mgmt.filled ++ [⟨tag, 0x70, .done, []⟩], status := t.mgmt.status } ∧
    t.layouts = s.layouts ∧ t.ovl = s.ovl ∧ t.veh = s.veh ∧ t.chans = s.chans ∧ t.tx = s.tx ∧ t.store = s.store ∧
    t.freeCount = s.freeCount ∧ t.pending = s.pending

/-! ## Invariants that every step keeps -/

/-- State.reset meets every invariant stated below. -/
def Obligations.ResetMeetsEveryInvariant : Prop :=
  PortsConsistent State.reset ∧ ChannelsConsistent State.reset ∧ ResponsesAccounted State.reset ∧
  MemoriesSound State.reset ∧ TablesChecked State.reset ∧ GainsInRange State.reset ∧ ModesConsistent State.reset ∧
  HalvesInRange State.reset

/-- Every ring holds at most one FILLING, one READY and one READING slot, the FILLING one being the frame in flight; a
LIVE port always has a READY or a READING slot; only a locked link is acquired (R9, R15, R18). An IDLE channel has
nothing in flight and nothing waiting, nothing is in flight on an unlocked link, and at most four pass-throughs wait
(R136, R138, R143). -/
def Obligations.EveryStepKeepsPortsAndChannelsConsistent : Prop :=
  (∀ s t : State, PortsConsistent s → step s = .next t → PortsConsistent t) ∧
  ∀ s t : State, ChannelsConsistent s → step s = .next t → ChannelsConsistent t

/-- Every reserved place of the response queue stands for one request whose work goes on; no more than 32 places are
taken and no more than 16 requests wait (R158, R159). So no request is answered twice and none is lost. -/
def Obligations.EveryStepKeepsResponsesAccounted : Prop :=
  ∀ s t : State, ChannelsConsistent s → ResponsesAccounted s → step s = .next t → ResponsesAccounted t

/-- Both memories keep their canonical form, no write leaves either (R15, R172), and a band's bytes keep theirs. -/
def Obligations.EveryStepKeepsMemoriesSound : Prop :=
  ∀ s t : State, MemoriesSound s → step s = .next t → MemoriesSound t

/-- Every table in force, and every table that waits, has passed its content check (R164, R174, R94); and with that every
gain and every target lies in 128..512 at all times (R61). -/
def Obligations.EveryStepKeepsTablesCheckedAndGainsInRange : Prop :=
  (∀ s t : State, TablesChecked s → step s = .next t → TablesChecked t) ∧
  ∀ s t : State, TablesChecked s → GainsInRange s → step s = .next t → GainsInRange t

/-- A bound slot and the in-use slot are VALID; PANORAMA is bound whenever a special mode is bound or current (R30, R32,
R102, R114). -/
def Obligations.EveryStepKeepsModesConsistent : Prop :=
  ∀ s t : State, ModesConsistent s → step s = .next t → ModesConsistent t

/-- Every active sample the transmitter sends lies in 16..235 for luma and 16..240 for chroma (R148, R50); and each of
the 600 lines comes from its source: the header lines, a band's lines as its SENDING half holds them or black from a
FILL half, and black in the blanking lines (R147, R148). -/
def Obligations.EveryActiveSampleIsInRange : Prop :=
  (∀ s t : State, HalvesInRange s → step s = .next t → HalvesInRange t) ∧
  (∀ (s : State) (b r x : Nat), HalvesInRange s → Sample.inRange (s.activeSample b r x)) ∧
  ∀ (s : State) (line x : Nat),
    (line < 4 → s.lineSample line x = s.headerSample line x) ∧
    (∀ b r, b < 18 → r < 32 → line = 4 + 32 * b + r →
      s.lineSample line x = s.activeSample b r x ∧
      ((s.comp.half b).st = .fill → s.lineSample line x = ⟨16, 128⟩) ∧
      ((s.comp.half b).st = .sending → (s.comp.half b).band = b → (s.comp.half b).lines.length = 32 →
        (∀ l ∈ (s.comp.half b).lines, l.length = 1024) → x < 1024 →
        ∃ l, (s.comp.half b).lines[r]? = some l ∧ l[x]? = some (s.lineSample line x))) ∧
    (580 ≤ line → line < 600 → s.lineSample line x = ⟨16, 128⟩)

/-- The header lines carry the header block (R171): byte k in luma samples 2k and 2k + 1 of the four lines, high four
bits first, each value v as 16 + 12v; chroma 128; luma 16 past the end; every header luma in 16..196; and a block of at
most 8 responses of at most 24 bytes has at most 290 bytes, the last two of them the CRC-16 of the bytes before (R152). -/
def Obligations.HeaderLinesCarryTheHeaderBlock : Prop :=
  (∀ h : Header, crc16Matches h.block = true ∧ h.block.take 4 = [0xC3, 0x5A, 0x41, 0x16] ∧
    (h.responses.length ≤ 8 → (∀ r ∈ h.responses, r.data.length ≤ 24) → h.block.length ≤ 290)) ∧
  ∀ (s : State) (line x : Nat), line < 4 → x < 1024 →
    (s.headerSample line x).chroma = 128 ∧ 16 ≤ (s.headerSample line x).luma ∧ (s.headerSample line x).luma ≤ 196 ∧
    (∀ k, 1024 * line + x = 2 * k → k < s.tx.header.block.length →
      (s.headerSample line x).luma = 16 + 12 * (byteAt s.tx.header.block k / 16)) ∧
    (∀ k, 1024 * line + x = 2 * k + 1 → k < s.tx.header.block.length →
      (s.headerSample line x).luma = 16 + 12 * (byteAt s.tx.header.block k % 16)) ∧
    (2 * s.tx.header.block.length ≤ 1024 * line + x → (s.headerSample line x).luma = 16)

/-! ## Rules of the whole part -/

/-- The frame plan is held unchanged until the next turnover, except that a power-on, or the take-up of a RESET FULL
that the command brings or that waited in the request queue, replaces it with the power-on plan (R38, R57, R154, R168);
and the layout slot through which a frame is composed cannot be written while the frame lasts, so that every band of it
is composed from the same tile map and grids (R32, R35). -/
def Obligations.FramePlanAndItsLayoutAreHeldUntilTurnover : Prop :=
  (∀ (c : Instr) (s t : State), c ≠ .turnover → exec c s = .next t →
    t.comp.plan = s.comp.plan ∨
      t.comp.plan = ⟨none, Quad.fill false, Quad.fill none, Quad.fill 256⟩ ∧
        (c = .powerOn ∨ ∃ tag, (bringsFullReset c tag ∨ ⟨tag, 0x70, [0]⟩ ∈ s.mgmt.queue) ∧
          ⟨tag, 0x70, .done, []⟩ ∈ t.tx.header.responses ++ t.mgmt.filled ∧ t.mgmt.queue = [])) ∧
  ∀ (c : Instr) (s t : State) (i : Fin 4), ModesConsistent s → c ≠ .turnover → s.comp.plan.slot = some i →
    exec c s = .next t → t.comp.plan.slot = some i → t.layouts.slots.get i = s.layouts.slots.get i

/-! ## Requests: records, queue, take-up -/

/-- Reading a request's kind and payload gives back its fields, for every request and every value its fields can hold
(R160 and the request tables of the formats section); and a request record that arrives whole does what the command of
its kind does (R157, R170). -/
def Obligations.RequestEncodingRoundTrips : Prop :=
  (∀ q : Req, q.fits = true → parseRequest q.kind q.payload = .ok q) ∧
  ∀ (q : Req) (tag : Byte) (c : Instr) (s : State), q.fits = true → q.command tag = some c →
    exec (.requestRecord (q.toRequest tag).record) s = exec c s ∧
    ∃ t, exec (.requestRecord (q.toRequest tag).record) s = .next t

/-- A record of a type other than 0x02 is discarded when it is no request, its payload length byte is above 56, its
length is not 6 plus that, or its CRC-16 does not match; the lost-request count then rises by one until it reaches 255,
and nothing else changes (R157). A request of an unlisted kind is answered UNKNOWN-KIND under kind code 0xFF and goes no
further; one of a listed kind with a payload of a length the formats section does not allow it is answered BAD-ARGUMENT
(R160 and the request and response records of the formats section), and so is a RESET whose byte is neither 0 nor 1
(R168); that holds whether the request comes as a whole record or as the command of a raw kind and payload. -/
def Obligations.BadRecordsAreCountedAndBadRequestsAnswered : Prop :=
  (∀ (bytes : List Byte) (s : State), bytes.head? ≠ some 0x02 →
    (bytes.head? ≠ some 0x01 ∨ 56 < byteAt bytes 3 ∨ bytes.length ≠ 6 + byteAt bytes 3 ∨
      u16At bytes (bytes.length - 2) ≠ (crc16 (bytes.take (bytes.length - 2))).toNat) →
    exec (.requestRecord bytes) s = .next { s with mgmt.lost := min 255 (s.mgmt.lost + 1) }) ∧
  ∀ (tag kind : Byte) (payload : List Byte) (s : State) (c : Instr), s.takesAtOnce → payload.length ≤ 56 →
    (c = .unknownKind tag kind payload ∨
      c = .requestRecord (withCrc16 ([0x01, tag, kind, BitVec.ofNat 8 payload.length] ++ payload))) →
    (kind.toNat ∉ listedKinds → exec c s = .next (s.responded tag 0xFF .unknownKind [])) ∧
    (∀ least most, (kind.toNat, least, most) ∈ ([
        (0x01, 9, 9), (0x02, 2, 50), (0x03, 0, 0), (0x04, 0, 0), (0x05, 6, 6), (0x10, 2, 2), (0x11, 1, 1), (0x12, 0, 0),
        (0x20, 33, 33), (0x21, 1, 1), (0x30, 6, 22), (0x40, 7, 7), (0x41, 1, 1), (0x42, 1, 1), (0x50, 3, 3), (0x51, 3, 3),
        (0x60, 34, 34), (0x61, 2, 2), (0x70, 1, 1)] : List (Nat × Nat × Nat)) →
      payload.length < least ∨ most < payload.length → exec c s = .next (s.responded tag kind .badArgument [])) ∧
    (∀ b : Byte, kind = 0x70 → payload = [b] → b ≠ 0 → b ≠ 1 → exec c s = .next (s.responded tag 0x70 .badArgument []))

/-- While no place of the response queue is free, an arriving request joins the tail of the request queue, HOLD being
set when it brings the queue to 12, and one that finds 16 waiting is discarded and counted (R157, R158, R159). After a
turnover's work, which the requests that wait do not affect, take-up goes on (that it comes after the header is the
model's reading, log 12): while one waits and a place is free, the request at the head leaves the queue, HOLD being
cleared where that brings it down to 4, and does what its command does, each whole before the next; a RESET FULL ends
it, for it empties the queue. -/
def Obligations.RequestQueueFillsAndEmpties : Prop :=
  (∀ (q : Req) (tag : Byte) (c : Instr) (s : State), q.fits = true → q.command tag = some c →
    32 ≤ s.mgmt.reserved + s.mgmt.filled.length →
    (16 ≤ s.mgmt.queue.length → exec c s = .next { s with mgmt.lost := min 255 (s.mgmt.lost + 1) }) ∧
    (s.mgmt.queue.length < 16 → exec c s = .next { s with
      mgmt.queue := s.mgmt.queue ++ [q.toRequest tag]
      mgmt.hold := if s.mgmt.queue.length + 1 = 12 then true else s.mgmt.hold })) ∧
  (∀ s : State, ∃ u, exec .turnover { s with mgmt.queue := [] } = .next u ∧ u.mgmt.queue = [] ∧
    exec .turnover s = .next ({ u with mgmt.queue := s.mgmt.queue } : State).takeUp) ∧
  (∀ x : State, (x.mgmt.queue = [] ∨ 32 ≤ x.mgmt.reserved + x.mgmt.filled.length) → x.takeUp = x) ∧
  ∀ (q : Req) (tag : Byte) (c : Instr) (rest : List Request) (x : State), q.fits = true → q.command tag = some c →
    x.mgmt.queue = q.toRequest tag :: rest → x.mgmt.reserved + x.mgmt.filled.length < 32 →
    ∃ v, exec c { x with
        mgmt.queue := []
        mgmt.hold := if rest.length = 4 then false else x.mgmt.hold } = .next v ∧ v.mgmt.queue = [] ∧
      x.takeUp = if c = .resetFull tag then v else ({ v with mgmt.queue := rest } : State).takeUp

/-! ## Loads, TABLE-READ and events -/

/-- LOAD-BEGIN opens a load, LOAD-DATA adds its bytes and restarts the timer, and LOAD-ABORT ends the load; each is
answered DONE and changes nothing else. The load timer's expiry ends the OPEN load, answers no request and sets
LOAD-FAILED, event 20 (R162, R163, R165, R166, R29). -/
def Obligations.LoadsOpenGrowAndEnd : Prop :=
  (∀ (tag : Byte) (s : State), s.takesAtOnce →
    (∀ (table slot camera : Byte) (total : BitVec 16) (crc : BitVec 32) (d : TableLoad),
      s.mgmt.load.st = .idle → s.store.boot.status ≠ .running → destOf table slot camera = some d →
      total.toNat ≤ 16384 → total.toNat ≤ d.table.limit →
      (d.table.isLayout = true → s.isBound d.slot = false ∧ s.layouts.inUse ≠ some d.slot) →
      exec (.loadBegin tag table slot camera total crc) s =
        .next (({ s with
          mgmt.load := ⟨.opened, d, total.toNat, crc, 0, .running 500, ⟨0, 0⟩⟩ } : State).responded tag 0x01 .done [])) ∧
    (∀ (segment : BitVec 16) (data : List Byte), s.mgmt.load.st = .opened → data.length ≤ 48 →
      segment.toNat = s.mgmt.load.nextSeg → s.mgmt.load.dest.content.length + data.length ≤ s.mgmt.load.total →
      exec (.loadData tag segment data) s =
        .next (({ s with
          mgmt.load := { s.mgmt.load with
            dest := { s.mgmt.load.dest with content := s.mgmt.load.dest.content ++ data }
            nextSeg := s.mgmt.load.nextSeg + 1
            timer := .running 500 } } : State).responded tag 0x02 .done [])) ∧
    (s.mgmt.load.st = .opened →
      exec (.loadAbort tag) s =
        .next (({ s with mgmt.load := LoadContext.idle } : State).responded tag 0x04 .done []))) ∧
  ∀ (s : State) (n : Nat), s.mgmt.load.st = .opened → s.mgmt.load.timer = .running n →
    exec .loadTimerExpiry s =
      .next { s with mgmt := { s.mgmt with
        load := LoadContext.idle, status := s.mgmt.status ||| BitVec.twoPow 24 20 } }

/-- A LOAD-END whose content is whole and sound: a layout table is written into its slot at once and answered DONE (R32,
R164); any other waits for the turnover as APPLYING, its place kept reserved and unanswered (R164). -/
def Obligations.LoadEndWritesOrWaits : Prop :=
  ∀ (tag : Byte) (s : State), s.takesAtOnce → s.mgmt.load.st = .opened →
    s.mgmt.load.total ≤ s.mgmt.load.dest.content.length → crc32 s.mgmt.load.dest.content = s.mgmt.load.crc →
    contentCheck s.mgmt.load.dest.table s.mgmt.load.dest.content = none →
    (s.mgmt.load.dest.table.isLayout = true → s.isBound s.mgmt.load.dest.slot = false →
      s.layouts.inUse ≠ some s.mgmt.load.dest.slot →
      ∃ t, exec (.loadEnd tag) s =
          .next (({ s with
            mgmt.load := LoadContext.idle
            layouts.slots := s.layouts.slots.set s.mgmt.load.dest.slot t } : State).responded tag 0x03 .done []) ∧
        (s.mgmt.load.dest.table = .tileMap →
          t = { s.layouts.slots.get s.mgmt.load.dest.slot with tileMap := some s.mgmt.load.dest.content }) ∧
        (s.mgmt.load.dest.table = .warpGrid →
          t = { s.layouts.slots.get s.mgmt.load.dest.slot with
            grids := (s.layouts.slots.get s.mgmt.load.dest.slot).grids.set s.mgmt.load.dest.cam
              (some s.mgmt.load.dest.content) })) ∧
    (s.mgmt.load.dest.table.isLayout = false →
      exec (.loadEnd tag) s =
        .next { s with
          mgmt.load := { s.mgmt.load with st := .applying, timer := .stopped, ticket := ⟨tag, 0x03⟩ }
          mgmt.reserved := s.mgmt.reserved + 1 })

/-- What turns a load's request away, in the order of the tests, and what that leaves: a refused LOAD-BEGIN leaves the
context as it was; a wrong segment and every failed test of LOAD-END end the load with the target unchanged; outside
OPEN the other three are answered NO-LOAD (R162, R163, R164, R165, R29, R32). -/
def Obligations.LoadRefusalsFollowTheirOrder : Prop :=
  ∀ (tag : Byte) (s : State), s.takesAtOnce →
    (∀ (table slot camera : Byte) (total : BitVec 16) (crc : BitVec 32),
      ((s.mgmt.load.st ≠ .idle ∨ s.store.boot.status = .running) →
        exec (.loadBegin tag table slot camera total crc) s = .next (s.responded tag 0x01 .busy [])) ∧
      (s.mgmt.load.st = .idle → s.store.boot.status ≠ .running →
        (destOf table slot camera = none →
          exec (.loadBegin tag table slot camera total crc) s = .next (s.responded tag 0x01 .badArgument [])) ∧
        ∀ d, destOf table slot camera = some d →
          (d.table.limit < total.toNat →
            exec (.loadBegin tag table slot camera total crc) s = .next (s.responded tag 0x01 .badArgument [])) ∧
          (total.toNat ≤ d.table.limit → d.table.isLayout = true →
            (s.isBound d.slot = true ∨ s.layouts.inUse = some d.slot) →
            exec (.loadBegin tag table slot camera total crc) s = .next (s.responded tag 0x01 .inUse [])))) ∧
    (s.mgmt.load.st ≠ .opened →
      (∀ (segment : BitVec 16) (data : List Byte), data.length ≤ 48 →
        exec (.loadData tag segment data) s = .next (s.responded tag 0x02 .noLoad [])) ∧
      exec (.loadEnd tag) s = .next (s.responded tag 0x03 .noLoad []) ∧
      exec (.loadAbort tag) s = .next (s.responded tag 0x04 .noLoad [])) ∧
    (s.mgmt.load.st = .opened →
      (∀ (segment : BitVec 16) (data : List Byte), data.length ≤ 48 →
        (segment.toNat ≠ s.mgmt.load.nextSeg ∨ s.mgmt.load.total < s.mgmt.load.dest.content.length + data.length) →
        exec (.loadData tag segment data) s =
          .next (({ s with mgmt.load := LoadContext.idle } : State).responded tag 0x02 .sequence [])) ∧
      (s.mgmt.load.dest.content.length < s.mgmt.load.total →
        exec (.loadEnd tag) s =
          .next (({ s with mgmt.load := LoadContext.idle } : State).responded tag 0x03 .sequence [])) ∧
      (s.mgmt.load.total ≤ s.mgmt.load.dest.content.length →
        (crc32 s.mgmt.load.dest.content ≠ s.mgmt.load.crc →
          exec (.loadEnd tag) s =
            .next (({ s with mgmt.load := LoadContext.idle } : State).responded tag 0x03 .badCrc [])) ∧
        (crc32 s.mgmt.load.dest.content = s.mgmt.load.crc →
          (∀ i, contentCheck s.mgmt.load.dest.table s.mgmt.load.dest.content = some i →
            exec (.loadEnd tag) s =
              .next (({ s with mgmt.load := LoadContext.idle } : State).responded tag 0x03 .badContent (be16 i))) ∧
          (contentCheck s.mgmt.load.dest.table s.mgmt.load.dest.content = none →
            s.mgmt.load.dest.table.isLayout = true →
            (s.isBound s.mgmt.load.dest.slot = true ∨ s.layouts.inUse = some s.mgmt.load.dest.slot) →
            exec (.loadEnd tag) s =
              .next (({ s with mgmt.load := LoadContext.idle } : State).responded tag 0x03 .inUse [])))))

/-- What the checks that a load, a boot entry and an ELEMENT-WRITE meet accept, and which record they name: TILE-MAP
(R26), WARP-GRID (R28), CAMERA-PROFILE (R7, R66), CHECK-WINDOWS (R6), BALANCE (R59), BANDS (R92, R93), PALETTE (R81),
GLYPHS (R89), OVERLAY and the element check (R77), MODE-RULES (R103); a BANDS or GLYPHS content is accepted exactly when
it is the encoding of a table in range, and is then that table; a failing one is named by the number of good bands or
records in front of the first that fails or is cut short, the header fields counting with band 0 and bytes left over
with the band count (R93, R170, R89). A table of one record, within its size limit, names index 0 (R170). A load's
target is in range as R162 gives it for its table; the size limits are those of the formats section. -/
def Obligations.ContentChecksAndTargetsFollowTheirRules : Prop :=
  (∀ bs : List Byte,
    ChecksRecords 576 6 TileGood bs (contentCheck .tileMap bs) ∧
    ChecksRecords 627 4 VertexGood bs (contentCheck .warpGrid bs) ∧
    (bs.length ≤ 19 → ChecksRecords 1 19 ProfileGood bs (contentCheck .cameraProfile bs)) ∧
    ChecksRecords 16 4 (fun r => byteAt r 3 ≤ 16) bs (contentCheck .palette bs) ∧
    ChecksRecords 64 32 ElementGood bs (contentCheck .overlay bs) ∧
    (bs.length ≤ 7 → ChecksRecords 1 7 RulesGood bs (contentCheck .modeRules bs)) ∧
    (elementOk bs = true ↔ bs.length = 32 ∧ ElementGood bs) ∧
    (contentCheck .checkWindows bs = none ↔
      ∃ n ≤ 4, bs.length = 8 * n ∧ ∀ i < n, RecordGood 8 WindowGood bs i) ∧
    (∀ i, contentCheck .checkWindows bs = some i ↔
      (∀ j < i, j < 4 ∧ RecordGood 8 WindowGood bs j) ∧ 8 * i < bs.length ∧ (4 ≤ i ∨ ¬RecordGood 8 WindowGood bs i)) ∧
    (contentCheck .balance bs = none ↔ bs.length = 12 ∧ ∀ c, EntryGood bs c) ∧
    (∀ i, contentCheck .balance bs = some i ↔
      (∃ c : Cam, c.val = i ∧ ¬EntryGood bs c ∧ ∀ d < c, EntryGood bs d) ∨
        (i = 4 ∧ 12 < bs.length ∧ ∀ c, EntryGood bs c)) ∧
    (contentCheck .bands bs = none ↔ ∃ t : BandTable, t.good ∧ bs = t.bytes) ∧
    (∀ t : BandTable, t.good → bs = t.bytes → bandTableOf bs = t) ∧
    (∀ i, contentCheck .bands bs = some i ↔
      (i = 0 ∧ ¬∃ (h : BandHeader) (rest : List Byte), h.good ∧ bs = h.bytes ++ rest) ∨
      ∃ (h : BandHeader) (sets : List (List (List (Int × Int)))) (rest : List Byte), h.good ∧ (∀ ps ∈ sets, curveSetGood ps) ∧
        bs = h.bytes ++ sets.flatMap curveSetBytes ++ rest ∧ sets.length = i ∧
        ((i < h.edges.length + 1 ∧ ¬∃ ps rest', curveSetGood ps ∧ rest = curveSetBytes ps ++ rest') ∨
          (i = h.edges.length + 1 ∧ rest ≠ []))) ∧
    (contentCheck .glyphs bs = none ↔ ∃ gs : List (Glyph × List GlyphRun),
      bs = gs.flatMap (fun g => glyphBytes g.1 g.2) ∧ (∀ g ∈ gs, GlyphGood g.1 g.2) ∧
        (gs.map fun g => g.1.index).Nodup) ∧
    (∀ gs : List (Glyph × List GlyphRun), bs = gs.flatMap (fun g => glyphBytes g.1 g.2) →
      (∀ g ∈ gs, GlyphGood g.1 g.2) → (gs.map fun g => g.1.index).Nodup → glyphStoreOf bs = gs.map Prod.fst) ∧
    (∀ i, contentCheck .glyphs bs = some i ↔ ∃ (gs : List (Glyph × List GlyphRun)) (rest : List Byte),
      bs = gs.flatMap (fun g => glyphBytes g.1 g.2) ++ rest ∧ (∀ g ∈ gs, GlyphGood g.1 g.2) ∧
        (gs.map fun g => g.1.index).Nodup ∧ gs.length = i ∧ rest ≠ [] ∧
        ¬∃ g runs rest', GlyphGood g runs ∧ g.index ∉ gs.map (fun g => g.1.index) ∧ rest = glyphBytes g runs ++ rest')) ∧
  ∀ table slot camera : Byte,
    (destOf table slot camera = none ↔ table.toNat = 0 ∨ 10 < table.toNat ∨ (table.toNat ≤ 2 ∧ 3 < slot.toNat) ∨
      (2 ≤ table.toNat ∧ table.toNat ≤ 4 ∧ 3 < camera.toNat)) ∧
    ∀ d, destOf table slot camera = some d → d.content = [] ∧
      (table.toNat ≤ 2 → d.slot.val = slot.toNat) ∧
      (2 ≤ table.toNat → table.toNat ≤ 4 → d.cam.val = camera.toNat) ∧
      (table.toNat, d.table, d.table.limit, d.table.isLayout) ∈ ([
        (1, .tileMap, 3456, true), (2, .warpGrid, 2508, true), (3, .cameraProfile, 19, false),
        (4, .checkWindows, 32, false), (5, .balance, 12, false), (6, .bands, 2971, false), (7, .palette, 64, false),
        (8, .glyphs, 8192, false), (9, .overlay, 2048, false), (10, .modeRules, 7, false)] :
          List (Nat × Table × Nat × Bool))

/-- TABLE-READ answers the bytes in force; it is refused BAD-ARGUMENT for a table or target out of range, a length
outside 1..24 or a read past the present length, and NOT-READY for an absent layout table (R161, R35; the order of these
two is the model's reading, log 24). -/
def Obligations.TableReadAnswersTheBytesInForce : Prop :=
  ∀ (tag table slot camera : Byte) (offset : BitVec 16) (length : Byte) (s : State), s.takesAtOnce →
    (destOf table slot camera = none →
      exec (.tableRead tag table slot camera offset length) s = .next (s.responded tag 0x05 .badArgument [])) ∧
    ∀ d, destOf table slot camera = some d →
      ((length.toNat = 0 ∨ 24 < length.toNat) →
        exec (.tableRead tag table slot camera offset length) s = .next (s.responded tag 0x05 .badArgument [])) ∧
      (1 ≤ length.toNat → length.toNat ≤ 24 →
        (∀ bs, s.tableContent d = some bs →
          (offset.toNat + length.toNat ≤ bs.length →
            exec (.tableRead tag table slot camera offset length) s =
              .next (s.responded tag 0x05 .done ((bs.drop offset.toNat).take length.toNat))) ∧
          (bs.length < offset.toNat + length.toNat →
            exec (.tableRead tag table slot camera offset length) s =
              .next (s.responded tag 0x05 .badArgument []))) ∧
        (s.tableContent d = none → offset.toNat + length.toNat ≤ d.table.limit →
          exec (.tableRead tag table slot camera offset length) s = .next (s.responded tag 0x05 .notReady [])))

/-- EVENT-ENABLE replaces the enable set, and an event enabled whose status is set sets the attention flag at that
moment; EVENT-ACK clears the status of every event whose bit is 1 and leaves the others; a status set before the
acknowledgement is cleared by it, one set after it stays set (R167). -/
def Obligations.EventEnableAndAckActOnTheirMasks : Prop :=
  ∀ (tag : Byte) (m : BitVec 24) (s : State), s.takesAtOnce →
    (∃ t, exec (.eventEnable tag m) s = .next t ∧
      t = ({ s with mgmt.enable := m } : State).responded tag 0x50 .done [] ∧
      ((∃ e < 24, s.mgmt.status.getLsbD e = true ∧ m.getLsbD e = true) ↔ t.attentionFlag = true)) ∧
    (∃ t, exec (.eventAck tag m) s = .next t ∧
      t = ({ s with mgmt.status := t.mgmt.status } : State).responded tag 0x51 .done [] ∧
      (∀ e < 24, t.mgmt.status.getLsbD e = (s.mgmt.status.getLsbD e && !m.getLsbD e)) ∧
      (m = 0 → t.mgmt.status = s.mgmt.status) ∧
      (∀ e < 24, (t.raise e).mgmt.status.getLsbD e = true)) ∧
    (∀ e < 24, m.getLsbD e = true →
      ∃ t, exec (.eventAck tag m) (s.raise e) = .next t ∧ t.mgmt.status.getLsbD e = false)

/-! ## View modes -/

/-- SET-VIEW makes a bound mode the override, is refused NOT-READY for an unbound one and BAD-ARGUMENT for STANDBY or a
code outside the list; RELEASE-VIEW sets the override to none, held or not; neither changes the current mode (R106).
BIND-MODE's tests in order, and the binding it makes; a refused request leaves the Mode Table as it was (R102, R30). -/
def Obligations.ViewRequestsFollowTheirTests : Prop :=
  ∀ (tag mode slot : Byte) (s : State), s.takesAtOnce →
    ((mode.toNat = 0 ∨ 4 < mode.toNat →
      exec (.setView tag mode) s = .next (s.responded tag 0x11 .badArgument [])) ∧
    (∀ m, modeOf mode.toNat = some m → m ≠ .standby →
      (s.modes.bind.of m = none → exec (.setView tag mode) s = .next (s.responded tag 0x11 .notReady [])) ∧
      (s.modes.bind.of m ≠ none → exec (.setView tag mode) s =
        .next (({ s with modes.override := some m } : State).responded tag 0x11 .done []))) ∧
    exec (.releaseView tag) s = .next (({ s with modes.override := none } : State).responded tag 0x12 .done [])) ∧
    ((mode.toNat = 0 ∨ 4 < mode.toNat ∨ (3 < slot.toNat ∧ slot ≠ 0xFF)) →
      exec (.bindMode tag mode slot) s = .next (s.responded tag 0x10 .badArgument [])) ∧
    (∀ m, modeOf mode.toNat = some m → m ≠ .standby →
      (slot = 0xFF →
        ((m = .panorama ∧ (s.modes.bind.anySpecial = true ∨ s.modes.mode.isSpecial = true)) →
          exec (.bindMode tag mode slot) s = .next (s.responded tag 0x10 .inUse [])) ∧
        (¬(m = .panorama ∧ (s.modes.bind.anySpecial = true ∨ s.modes.mode.isSpecial = true)) →
          exec (.bindMode tag mode slot) s =
            .next (({ s with modes.bind := s.modes.bind.set m none } : State).responded tag 0x10 .done []))) ∧
      ∀ i : Fin 4, slot.toNat = i.val →
        (((s.layouts.slots.get i).condition ≠ .valid ∨ (m.isSpecial = true ∧ s.modes.bind.panorama = none)) →
          exec (.bindMode tag mode slot) s = .next (s.responded tag 0x10 .notReady [])) ∧
        ((s.layouts.slots.get i).condition = .valid → (m.isSpecial = true → s.modes.bind.panorama ≠ none) →
          exec (.bindMode tag mode slot) s =
            .next (({ s with modes.bind := s.modes.bind.set m (some i) } : State).responded tag 0x10 .done [])))

/-! ## Overlay elements -/

/-- ELEMENT-WRITE and ELEMENT-CLEAR by their tests (R94): one for an index that has no entry joins the tail of the
pending list and waits; one for an index that has an entry takes that entry's place, and the request replaced is
answered SUPERSEDED (R95). -/
def Obligations.ElementRequestsJoinThePendingList : Prop :=
  ∀ (tag index : Byte) (record : List Byte) (s : State), s.takesAtOnce → record.length = 32 →
    (63 < index.toNat →
      exec (.elementWrite tag index record) s = .next (s.responded tag 0x20 .badArgument []) ∧
      exec (.elementClear tag index) s = .next (s.responded tag 0x21 .badArgument [])) ∧
    (index.toNat ≤ 63 →
      (elementOk record = false →
        exec (.elementWrite tag index record) s = .next (s.responded tag 0x20 .badContent [0, 0])) ∧
      ((∀ e ∈ s.ovl.edits, e.index ≠ index.toNat) →
        (16 ≤ s.ovl.edits.length →
          (elementOk record = true →
            exec (.elementWrite tag index record) s = .next (s.responded tag 0x20 .busy [])) ∧
          exec (.elementClear tag index) s = .next (s.responded tag 0x21 .busy [])) ∧
        (s.ovl.edits.length < 16 →
          (elementOk record = true →
            exec (.elementWrite tag index record) s =
              .next { s with
                ovl.edits := s.ovl.edits ++ [⟨index.toNat, some record, ⟨tag, 0x20⟩⟩]
                mgmt.reserved := s.mgmt.reserved + 1 }) ∧
          exec (.elementClear tag index) s =
            .next { s with
              ovl.edits := s.ovl.edits ++ [⟨index.toNat, none, ⟨tag, 0x21⟩⟩]
              mgmt.reserved := s.mgmt.reserved + 1 })) ∧
      (∀ before after old, s.ovl.edits = before ++ old :: after → old.index = index.toNat →
        (∀ e ∈ before ++ after, e.index ≠ index.toNat) →
        (elementOk record = true →
          exec (.elementWrite tag index record) s =
            .next (({ s with
              ovl.edits := before ++ ⟨index.toNat, some record, ⟨tag, 0x20⟩⟩ :: after } : State).responded
                old.ticket.tag old.ticket.kind .superseded [])) ∧
        exec (.elementClear tag index) s =
          .next (({ s with
            ovl.edits := before ++ ⟨index.toNat, none, ⟨tag, 0x21⟩⟩ :: after } : State).responded
              old.ticket.tag old.ticket.kind .superseded [])))

/-! ## Camera control channels -/

/-- A CAM-XFER whose fields are in range (R138): at an IDLE channel of a locked link it starts at once, with the start
mark and the device address (R133), and is recorded as last served (R143); at an ACTIVE one it waits at the tail; on an
unlocked link it ends NO-LINK as it is selected (R136). Out of range it is refused BAD-ARGUMENT, and with four waiting
BUSY. `out` is the model's own window on the wire (log 21). -/
def Obligations.CamXferStartsWaitsOrIsRefused : Prop :=
  ∀ (tag camera device direction : Byte) (register : BitVec 16) (count : Byte) (data : List Byte) (s : State),
    s.takesAtOnce → data.length ≤ 16 →
    ((3 < camera.toNat ∨ 127 < device.toNat ∨ 1 < direction.toNat ∨ count.toNat = 0 ∨ 16 < count.toNat ∨
        (direction = 0 ∧ data.length ≠ count.toNat) ∨ (direction = 1 ∧ data ≠ [])) →
      exec (.camXfer tag camera device direction register count data) s =
        .next (s.responded tag 0x30 .badArgument [])) ∧
    ∀ p : Cam, camera.toNat = p.val → device.toNat ≤ 127 → direction.toNat ≤ 1 → 1 ≤ count.toNat → count.toNat ≤ 16 →
      (direction = 0 → data.length = count.toNat) → (direction = 1 → data = []) →
      (4 ≤ (s.chan p).queue.length →
        exec (.camXfer tag camera device direction register count data) s = .next (s.responded tag 0x30 .busy [])) ∧
      ((s.chan p).active = true → (s.chan p).queue.length < 4 →
        exec (.camXfer tag camera device direction register count data) s =
          .next (({ s with mgmt.reserved := s.mgmt.reserved + 1 } : State).setChan p { s.chan p with
            queue := (s.chan p).queue ++ [⟨⟨tag, 0x30⟩, device.toNat, decide (direction = 1), register.toNat,
              count.toNat, data⟩] })) ∧
      ((s.chan p).active = false → (s.chan p).nothingWaits →
        ((s.port p).lock = true →
          exec (.camXfer tag camera device direction register count data) s =
            .next (({ s with mgmt.reserved := s.mgmt.reserved + 1 } : State).setChan p { s.chan p with
              active := true
              flight := some ⟨.pass ⟨tag, 0x30⟩, device.toNat, decide (direction = 1), register.toNat, count.toNat, data,
                .device, [], false⟩
              lastServed := .passThrough
              timer := .running 25
              out := (s.chan p).out ++ [.startMark, .device device.toNat false] })) ∧
        ((s.port p).lock = false →
          exec (.camXfer tag camera device direction register count data) s =
            .next ((s.setChan p { s.chan p with lastServed := .passThrough }).responded tag 0x30 .noLink [])))

/-- The camera accepts a byte and the exchange goes to its next step, the step timer starting afresh (R133, R134, R135):
the register's high byte, its low byte, then the data bytes of a WRITE in order or the restart mark and the device
address with READ. `out` is the model's own window on the wire (log 21). -/
def Obligations.AcceptedBytesAdvanceTheExchange : Prop :=
  ∀ (p : Cam) (s : State) (t : Transaction), (s.chan p).flight = some t →
    (t.step = .device → exec (.cameraAnswer p true) s =
      .next (s.setChan p { s.chan p with
        flight := some { t with step := .regHigh }, timer := .running 25,
        out := [.byte (BitVec.ofNat 8 (t.register / 256))] })) ∧
    (t.step = .regHigh → exec (.cameraAnswer p true) s =
      .next (s.setChan p { s.chan p with
        flight := some { t with step := .regLow }, timer := .running 25,
        out := [.byte (BitVec.ofNat 8 (t.register % 256))] })) ∧
    (t.step = .regLow → t.read = false → exec (.cameraAnswer p true) s =
      .next (s.setChan p { s.chan p with
        flight := some { t with step := .dataByte 0 }, timer := .running 25, out := [.byte (t.data.getD 0 0)] })) ∧
    (∀ k, t.step = .dataByte k → k + 1 < t.count → exec (.cameraAnswer p true) s =
      .next (s.setChan p { s.chan p with
        flight := some { t with step := .dataByte (k + 1) }, timer := .running 25,
        out := [.byte (t.data.getD (k + 1) 0)] })) ∧
    (t.step = .regLow → t.read = true → exec (.cameraAnswer p true) s =
      .next (s.setChan p { s.chan p with
        flight := some { t with step := .deviceRead }, timer := .running 25,
        out := [.restartMark, .device t.device true] })) ∧
    (t.step = .deviceRead → exec (.cameraAnswer p true) s =
      .next (s.setChan p { s.chan p with
        flight := some { t with step := .readByte }, timer := .running 25, out := [] }))

/-- The results of R133 and R134, handed to the requester (R137, R139, R67, R142, R144), at a channel where nothing else
waits: a rejected byte ends the transaction NO-DEVICE, REFUSED-ADDRESS or PARTIAL with the count of accepted data bytes,
and the last accepted data byte ends it DONE. That the channel is IDLE in the same step is the model's reading (log 14),
and `out` its own window on the wire (log 21). -/
def Obligations.CameraAnswersEndTransactions : Prop :=
  ∀ (p : Cam) (s : State) (t : Transaction) (accept : Bool) (r : Result) (bytes : List Byte),
    (s.chan p).flight = some t → (s.chan p).nothingWaits →
    ((accept = false ∧ (t.step = .device ∨ t.step = .deviceRead) ∧ r = .noDevice ∧ bytes = []) ∨
     (accept = false ∧ (t.step = .regHigh ∨ t.step = .regLow) ∧ r = .refusedAddress ∧ bytes = []) ∨
     (accept = false ∧ (∃ k, t.step = .dataByte k ∧ bytes = [BitVec.ofNat 8 k]) ∧ r = .partialWrite) ∨
     (accept = true ∧ (∃ k, t.step = .dataByte k ∧ t.count ≤ k + 1) ∧ r = .done ∧ bytes = [])) →
    (∀ k, t.who = .pass k → exec (.cameraAnswer p accept) s =
      .next ((({ s with mgmt.reserved := s.mgmt.reserved - 1 } : State).setChan p { s.chan p with
        active := false, flight := none, timer := .stopped, out := [.stopMark] }).responded k.tag k.kind r bytes)) ∧
    (∀ v, t.who = .exposure v → r = .done → exec (.cameraAnswer p accept) s =
      .next (s.setChan p { s.chan p with
        active := false, flight := none, timer := .stopped, out := [.stopMark],
        cached := if t.current then some v else (s.chan p).cached })) ∧
    (∀ v, t.who = .exposure v → r ≠ .done → exec (.cameraAnswer p accept) s =
      .next (({ s with mgmt.status := s.mgmt.status ||| BitVec.twoPow 24 (8 + p.val) } : State).setChan p { s.chan p with
        active := false, flight := none, timer := .stopped, out := [.stopMark] })) ∧
    (t.who = .attention → r ≠ .done → exec (.cameraAnswer p accept) s =
      .next (({ s with mgmt.status := s.mgmt.status ||| BitVec.twoPow 24 (8 + p.val) } : State).setChan p { s.chan p with
        active := false, flight := none, timer := .stopped, out := [.stopMark] }))

/-- A data byte of a READ (R134): accepted while more are to come; the last is rejected and ends the transaction DONE
with the bytes read, as the response of a pass-through or as the attention value with CAM-ATTN (R142). The channel is
IDLE in the same step (log 14), and `out` is the model's own window on the wire (log 21). -/
def Obligations.ReadBytesAreGatheredAndAnswered : Prop :=
  ∀ (p : Cam) (b : Byte) (s : State) (t : Transaction), (s.chan p).flight = some t → t.step = .readByte →
    (t.got.length + 1 < t.count → exec (.readByte p b) s =
      .next (s.setChan p { s.chan p with
        flight := some { t with got := t.got ++ [b] }, timer := .running 25, out := [.accept] })) ∧
    (t.count ≤ t.got.length + 1 → (s.chan p).nothingWaits →
      (∀ k, t.who = .pass k → exec (.readByte p b) s =
        .next ((({ s with mgmt.reserved := s.mgmt.reserved - 1 } : State).setChan p { s.chan p with
          active := false, flight := none, timer := .stopped, out := [.reject, .stopMark] }).responded k.tag k.kind
            .done (t.got ++ [b]))) ∧
      (t.who = .attention → t.got = [] → exec (.readByte p b) s =
        .next (({ s with mgmt.status := s.mgmt.status ||| BitVec.twoPow 24 (4 + p.val) } : State).setChan p { s.chan p with
          active := false, flight := none, timer := .stopped, out := [.reject, .stopMark], attnValue := b })))

/-- The step timer's expiry ends the transaction TIMEOUT and sends the stop mark: the result is handed over, the channel
is IDLE, and its arbiter chooses (R135, R136, R137, R143, R144; that the mark is over in the same step is the model's
reading, log 14, and `out` its own window on the wire, log 21). After the stop mark of a reset the channel is IDLE and
chooses likewise (R145). The arbiter's choice on a locked link (R143, R132, R140): the attention read first; of a
pass-through and an exposure write that both wait the one not served last; else the one that waits; with none waiting
the channel stays IDLE. -/
def Obligations.TimeoutsAndStopMarksLetTheArbiterChoose : Prop :=
  ∀ (p : Cam) (s u : State) (c : Instr),
    ((c = .stopMarkSent p ∧ (s.chan p).active = true ∧ (s.chan p).flight = none ∧
        u = s.setChan p { s.chan p with active := false }) ∨
      ∃ t n, c = .stepTimerExpiry p ∧ (s.chan p).flight = some t ∧ (s.chan p).timer = .running n ∧
        ((∃ k, t.who = .pass k ∧
            u = (({ s with mgmt.reserved := s.mgmt.reserved - 1 } : State).setChan p { s.chan p with
              active := false, flight := none, timer := .stopped, out := [.stopMark] }).responded k.tag k.kind
                .timeout []) ∨
          ((∀ k, t.who ≠ .pass k) ∧
            u = ({ s with mgmt.status := s.mgmt.status ||| BitVec.twoPow 24 (8 + p.val) } : State).setChan p
              { s.chan p with active := false, flight := none, timer := .stopped, out := [.stopMark] }))) →
    ((s.chan p).nothingWaits → exec c s = .next u) ∧
    ((s.port p).lock = true →
      (∀ r, (s.chan p).attnWaiting = true → profileStatus (s.port p).profile = some r →
        exec c s = .next (u.setChan p
          { (u.chan p).started (attentionRead (s.port p).profile r) with attnWaiting := false })) ∧
      (∀ x rest, (s.chan p).attnWaiting = false → (s.chan p).queue = x :: rest →
        ((s.chan p).exposure = none ∨ (s.chan p).lastServed = .exposure) →
        exec c s = .next (u.setChan p
          { (u.chan p).started ⟨.pass x.ticket, x.device, x.read, x.register, x.count, x.data, .device, [], false⟩ with
            queue := rest, lastServed := .passThrough })) ∧
      ∀ v x, (s.chan p).attnWaiting = false → (s.chan p).exposure = some v →
        ((s.chan p).queue = [] ∨ (s.chan p).lastServed = .passThrough) →
        profileExposure (s.port p).profile = some x →
        exec c s = .next (u.setChan p
          { (u.chan p).started (exposureWrite (s.port p).profile x v) with
            exposure := none, lastServed := .exposure }))

/-! ## Vehicle lines and vehicle data -/

/-- LINES-SET makes the manual level of every line whose mask bit is 1 asserted, LINES-CLEAR negated; the others keep
theirs; each is answered DONE, and an OUTPUT line with source MANUAL drives its level at once, any other line what it
drove; a line later made an OUTPUT with source MANUAL drives the level stored (R122, R120). In every state an OUTPUT
line drives its source's value by its polarity: of ATTENTION, some event with both status and enable set; of
CAMERA-FAULT, some enabled port not LIVE; of SPECIAL-VIEW, a special mode in the frame being sent; of ZONE-NEAR, its
near indication (R121). -/
def Obligations.LinesSetAndClearSetManualLevels : Prop :=
  (∀ (s : State) (l : Fin 8) (asserted : Prop),
    ((s.line l).cfg.source = .manual ∧ (asserted ↔ (s.line l).manual = true)) ∨
      ((s.line l).cfg.source = .attention ∧
        (asserted ↔ ∃ e < 24, s.mgmt.status.getLsbD e = true ∧ s.mgmt.enable.getLsbD e = true)) ∨
      ((s.line l).cfg.source = .cameraFault ∧
        (asserted ↔ ∃ p, profileEnabled (s.port p).profile = true ∧ (s.port p).st ≠ .live)) ∨
      ((s.line l).cfg.source = .specialView ∧
        (asserted ↔ s.veh.sentMode = .turn ∨ s.veh.sentMode = .lift ∨ s.veh.sentMode = .kerb)) ∨
      ((s.line l).cfg.source = .zoneNear ∧ (asserted ↔ s.veh.near = true)) →
    (s.line l).cfg.function = .output → ∃ high, s.driven l = some high ∧
      (high = true ↔ ((s.line l).cfg.polarity = .activeHigh ∧ asserted) ∨
        ((s.line l).cfg.polarity = .activeLow ∧ ¬asserted))) ∧
  ∀ (tag mask : Byte) (s : State), s.takesAtOnce →
    ∀ (level : Bool) (c : Instr) (kind : Byte),
      (level = true ∧ c = .linesSet tag mask ∧ kind = 0x41) ∨ (level = false ∧ c = .linesClear tag mask ∧ kind = 0x42) →
      ∃ t, exec c s = .next t ∧
        t = ({ s with veh.lines := t.veh.lines } : State).responded tag kind .done [] ∧
        (∀ l, t.line l = { s.line l with manual := if mask.getLsbD l.val then level else (s.line l).manual }) ∧
        (mask = 0 → t.veh.lines = s.veh.lines) ∧
        (∀ l, (s.line l).cfg.function = .output → (s.line l).cfg.source = .manual → mask.getLsbD l.val = true →
          t.driven l = some (match (s.line l).cfg.polarity with
            | .activeHigh => level
            | .activeLow => !level)) ∧
        (∀ l, (s.line l).cfg.function ≠ .output → t.driven l = none) ∧
        (∀ l, (s.line l).cfg.source ≠ .manual → t.driven l = s.driven l) ∧
        (∀ l cfg, cfg.function = .output → cfg.source = .manual →
          (t.setLine l { t.line l with cfg := cfg }).driven l = some (match cfg.polarity with
            | .activeHigh => if mask.getLsbD l.val then level else (s.line l).manual
            | .activeLow => !(if mask.getLsbD l.val then level else (s.line l).manual)))

/-- LINE-CONFIG replaces a line's record, and the line acts on it at once (R116): a line made an INPUT starts from its
raw level with no timer; one that stays an INPUT keeps its debounced level and restarts a running timer, or, with a new
debounce time of 0, takes its raw level at once, an edge by R119; any other has neither level nor timer. A field out of
range is refused BAD-ARGUMENT and changes nothing. -/
def Obligations.LineConfigReplacesTheRecord : Prop :=
  ∀ (tag line function polarity debounce role edge source : Byte) (s : State), s.takesAtOnce →
    ((7 < line.toNat ∨ 2 < function.toNat ∨ 1 < polarity.toNat ∨ 6 < role.toNat ∨ 3 < edge.toNat ∨ 4 < source.toNat) →
      exec (.lineConfig tag line function polarity debounce role edge source) s =
        .next (s.responded tag 0x40 .badArgument [])) ∧
    ∀ (l : Fin 8) (f : LineFunction) (pol : Polarity) (r : Option Role) (e : EdgeSelect) (o : OutputSource),
      line.toNat = l.val → functionOf function.toNat = some f → polarityOf polarity.toNat = some pol →
      roleOf role.toNat = some r → edgeOf edge.toNat = some e → sourceOf source.toNat = some o →
      (f ≠ .input →
        exec (.lineConfig tag line function polarity debounce role edge source) s =
          .next ((s.setLine l { s.line l with
            cfg := ⟨f, pol, debounce.toNat, r, e, o⟩, debounced := none, timer := .stopped }).responded tag 0x40
              .done [])) ∧
      (f = .input → (s.line l).cfg.function ≠ .input →
        exec (.lineConfig tag line function polarity debounce role edge source) s =
          .next ((s.setLine l { s.line l with
            cfg := ⟨f, pol, debounce.toNat, r, e, o⟩, debounced := some (s.line l).raw, timer := .stopped }).responded
              tag 0x40 .done [])) ∧
      (f = .input → (s.line l).cfg.function = .input → debounce ≠ 0 →
        exec (.lineConfig tag line function polarity debounce role edge source) s =
          .next ((s.setLine l { s.line l with
            cfg := ⟨f, pol, debounce.toNat, r, e, o⟩
            timer := match (s.line l).timer with
              | .running _ => .running debounce.toNat
              | other => other }).responded tag 0x40 .done [])) ∧
      (f = .input → (s.line l).cfg.function = .input → debounce = 0 →
        exec (.lineConfig tag line function polarity debounce role edge source) s =
          .next ((({ s with mgmt.status :=
              if ({ s.line l with cfg := ⟨f, pol, 0, r, e, o⟩ } : Line).edgeMatched (s.line l).raw then
                s.mgmt.status ||| BitVec.twoPow 24 (12 + l.val)
              else s.mgmt.status } : State).setLine l
            { s.line l with
              cfg := ⟨f, pol, 0, r, e, o⟩, debounced := some (s.line l).raw, timer := .stopped }).responded
                tag 0x40 .done []))

/-- A raw change (R117): on an INPUT line the timer is stopped where the raw level is back at the debounced level and
started afresh where it differs and the debounce time is above 0, the debounced level being kept, and with a debounce
time of 0 the debounced level takes the raw level at once; on any other line the pin's level is noted alone. At the
timer's expiry the debounced level takes the raw level. An edge sets LINE-EDGE where it matches the edge select (R119). -/
def Obligations.DebouncedLevelFollowsASteadyRawLevel : Prop :=
  ∀ (l : Fin 8) (s : State),
    (∀ level, (s.line l).cfg.function ≠ .input → (s.line l).raw ≠ level →
      exec (.rawChange l level) s = .next (s.setLine l { s.line l with raw := level })) ∧
    ((s.line l).cfg.function = .input →
      (∀ level, (s.line l).raw ≠ level → ((s.line l).debounced = some level ∨ (s.line l).cfg.debounce ≠ 0) →
        exec (.rawChange l level) s =
          .next (s.setLine l { s.line l with
            raw := level
            timer := if (s.line l).debounced = some level then .stopped else .running (s.line l).cfg.debounce })) ∧
      (∀ level, (s.line l).raw ≠ level → (s.line l).debounced ≠ some level → (s.line l).cfg.debounce = 0 →
        exec (.rawChange l level) s =
          .next (({ s with mgmt.status :=
              if (s.line l).edgeMatched level then s.mgmt.status ||| BitVec.twoPow 24 (12 + l.val)
              else s.mgmt.status } : State).setLine l
            { s.line l with raw := level, debounced := some level, timer := .stopped })) ∧
      (∀ n, (s.line l).timer = .running n →
        exec (.debounceTimerExpiry l) s =
          .next (({ s with mgmt.status :=
              if (s.line l).edgeMatched (s.line l).raw then s.mgmt.status ||| BitVec.twoPow 24 (12 + l.val)
              else s.mgmt.status } : State).setLine l
            { s.line l with debounced := some (s.line l).raw, timer := .stopped })))

/-- A vehicle-data record that is not malformed is applied at once, whichever way it comes (R125, R127, R128): the
numbers are taken and held to range, every sensor named takes its reading at age 0 and the others keep theirs, the state
is FRESH with both expiries pending anew, a change to FRESH sets VEHICLE-DATA, and the band is kept under the hysteresis
or chosen afresh. -/
def Obligations.AcceptedVehicleRecordIsApplied : Prop :=
  ∀ (bytes : List Byte) (s : State) (c : Instr), (c = .vehicleDataRecord bytes ∨ c = .requestRecord bytes) →
    bytes.head? = some 0x02 → vehicleRecordOk bytes = true →
    ∃ t, exec c s = .next t ∧
      t.veh.seq = byteAt bytes 1 ∧ t.veh.angle = max (-450) (min 450 (s16At bytes 2)) ∧
      t.veh.speed = min 1500 (u16At bytes 4) ∧ t.veh.state = .fresh ∧ t.veh.staleTimer = .running 200 ∧
      t.veh.lostTimer = .running 2000 ∧
      (∀ i < byteAt bytes 6, ∀ k : Fin 8, byteAt bytes (7 + 3 * i) = k.val →
        t.veh.sensors.get k =
          ⟨if u16At bytes (8 + 3 * i) = 0xFFFF then .noEcho else .range (min 500 (u16At bytes (8 + 3 * i))), 0⟩) ∧
      (∀ k : Fin 8, (∀ i < byteAt bytes 6, byteAt bytes (7 + 3 * i) ≠ k.val) →
        t.veh.sensors.get k = s.veh.sensors.get k) ∧
      t.veh.band =
        (if (s.veh.state = .fresh ∨ s.veh.state = .stale) ∧
            (s.veh.band = 0 ∨ (bandTableOf s.ovl.bands).edges.getD (s.veh.band - 1) 0 -
              (bandTableOf s.ovl.bands).hysteresis ≤ t.veh.angle) ∧
            (s.veh.band + 1 = (bandTableOf s.ovl.bands).count ∨
              t.veh.angle < (bandTableOf s.ovl.bands).edges.getD s.veh.band 0 + (bandTableOf s.ovl.bands).hysteresis)
         then s.veh.band else bandContaining (bandTableOf s.ovl.bands).edges t.veh.angle) ∧
      t.veh.lines = s.veh.lines ∧ t.veh.sentMode = s.veh.sentMode ∧ t.veh.near = s.veh.near ∧
      t = { s with
        veh := t.veh
        mgmt.status := if s.veh.state = .fresh then s.mgmt.status else s.mgmt.status ||| BitVec.twoPow 24 22 }

/-- A vehicle-data record whose CRC-16 does not match, whose reading count is above 8 or at odds with its length, which
names a sensor above 7 or one sensor twice, is discarded whole and changes nothing; every other is accepted and applied
at once, whatever the queue, HOLD, boot or a load is doing (R124). -/
def Obligations.MalformedVehicleRecordChangesNothing : Prop :=
  ∀ (bytes : List Byte) (s : State) (c : Instr) (malformed : Prop),
    (c = .vehicleDataRecord bytes ∨ c = .requestRecord bytes) → bytes.head? = some 0x02 →
    (malformed ↔
      u16At bytes (bytes.length - 2) ≠ (crc16 (bytes.take (bytes.length - 2))).toNat ∨ 8 < byteAt bytes 6 ∨
      bytes.length ≠ 9 + 3 * byteAt bytes 6 ∨ (∃ i < byteAt bytes 6, 7 < byteAt bytes (7 + 3 * i)) ∨
      (∃ i j, i < j ∧ j < byteAt bytes 6 ∧ byteAt bytes (7 + 3 * i) = byteAt bytes (7 + 3 * j))) →
    (malformed → exec c s = .next s) ∧
    (¬malformed → ∃ t, exec c s = .next t ∧ t.veh.state = .fresh ∧ t.veh.seq = byteAt bytes 1 ∧
      t.veh.staleTimer = .running 200 ∧ t.veh.lostTimer = .running 2000 ∧ t.mgmt.lost = s.mgmt.lost ∧
      t.mgmt.queue = s.mgmt.queue)

/-- The stale expiry takes FRESH to STALE and the lost expiry STALE to LOST; each sets VEHICLE-DATA and keeps the band,
the numbers and the readings (R127, R128). -/
def Obligations.StaleAndLostExpiriesAgeTheData : Prop :=
  ∀ (s : State) (n : Nat),
    (s.veh.state = .fresh → s.veh.staleTimer = .running n →
      exec .staleExpiry s = .next { s with
        veh := { s.veh with state := .stale, staleTimer := .stopped }
        mgmt.status := s.mgmt.status ||| BitVec.twoPow 24 22 }) ∧
    (s.veh.state = .stale → s.veh.lostTimer = .running n →
      exec .lostExpiry s = .next { s with
        veh := { s.veh with state := .lost, lostTimer := .stopped }
        mgmt.status := s.mgmt.status ||| BitVec.twoPow 24 22 })

/-! ## Configuration memory and boot -/

/-- STORE-WRITE hands its page to the interface and starts the write timer; STORE-READ hands its read (R175, R172). Each
is refused as R175 lists, and neither changes the memory yet. -/
def Obligations.StoreRequestsReachTheInterface : Prop :=
  ∀ (tag : Byte) (offset : BitVec 16) (data : List Byte) (s : State), s.takesAtOnce → data.length = 32 →
    (offset.toNat % 32 ≠ 0 → exec (.storeWrite tag offset data) s = .next (s.responded tag 0x60 .badArgument [])) ∧
    (offset.toNat % 32 = 0 →
      (s.store.boot.status = .running ∨ s.store.writing ≠ none →
        exec (.storeWrite tag offset data) s = .next (s.responded tag 0x60 .busy [])) ∧
      (s.store.boot.status ≠ .running → s.store.writing = none →
        exec (.storeWrite tag offset data) s = .next { s with
          store := { s.store with
            writing := some ⟨⟨tag, 0x60⟩, offset.toNat, data⟩
            writeTimer := .running 20
            access := s.store.access ++ [.pageWrite] }
          mgmt.reserved := s.mgmt.reserved + 1 })) ∧
    (65536 < offset.toNat + 24 →
      exec (.storeRead tag offset) s = .next (s.responded tag 0x61 .badArgument [])) ∧
    (offset.toNat + 24 ≤ 65536 →
      (s.store.writing ≠ none → exec (.storeRead tag offset) s = .next (s.responded tag 0x61 .busy [])) ∧
      (s.store.writing = none → exec (.storeRead tag offset) s = .next { s with
        store.access := s.store.access ++ [.storeRead ⟨tag, 0x61⟩ offset.toNat]
        mgmt.reserved := s.mgmt.reserved + 1 }))

/-- The end of an access (R175, R172): a page write reported in time writes its 32 bytes and is answered DONE; a read is
answered with 24 bytes, 0xFF each from a memory that does not answer. A write whose timer expires is answered TIMEOUT and
keeps its place at the interface, so that a read made before it returns the page's old bytes (that it stays there is the
model's reading, log 18). Once it ends, its page holds the old content or the new: the report that follows the expiry is
ignored, changes nothing else, and where no later write has lost its request ends the wait of a first boot read; with no
report, the write is over when a later access ends, which finds the page settled (log 11). -/
def Obligations.StoreAccessesAnswerTheirRequests : Prop :=
  ∀ s : State,
    (∀ w rest, s.store.writing = some w → s.store.access = .pageWrite :: rest →
      exec .pageWriteComplete s = .next (({ s with
        store := { s.store with
          mem := Memory.writeBytes storeDefault s.store.mem w.offset w.data
          writing := none
          writeTimer := .stopped
          access := rest }
        mgmt.reserved := s.mgmt.reserved - 1 } : State).responded w.ticket.tag w.ticket.kind .done [])) ∧
    (∀ w n, s.store.writing = some w → s.store.writeTimer = .running n →
      exec .writeTimerExpiry s = .next (({ s with
        store := { s.store with
          writing := none
          writeTimer := .stopped
          access := s.store.access.map fun a => if a = .pageWrite then .lateWrite w else a }
        mgmt.reserved := s.mgmt.reserved - 1 } : State).responded w.ticket.tag w.ticket.kind .timeout [])) ∧
    (∀ w rest, s.store.access = .lateWrite w :: rest →
      ∃ mem, (mem = s.store.mem ∨ mem = Memory.writeBytes storeDefault s.store.mem w.offset w.data) ∧
        exec .pageWriteComplete s = .next { s with
          store := { s.store with
            mem := mem
            access := rest
            bootWait := if rest.any Access.isLate then s.store.bootWait else .stopped }
          freeCount := s.freeCount + 1 }) ∧
    (∀ late a rest, s.store.access = late.map .lateWrite ++ a :: rest →
      ∃ mem, MaySettle late s.store.mem mem ∧ ∀ c,
        (((∃ k offset, a = .storeRead k offset) ∧ ∃ answered, c = .storeReadComplete answered) ∨
          (a = .bootHeader ∧ s.store.bootWait = .stopped ∧ ∃ answered, c = .bootHeaderRead answered) ∨
          (a = .bootEntry ∧ ∃ answered, c = .bootEntryRead answered)) →
        exec c s = exec c { s with
          store := { s.store with mem := mem, access := a :: rest }
          freeCount := s.freeCount + late.length }) ∧
    (∀ k offset rest answered, s.store.access = .storeRead k offset :: rest →
      ∃ bytes, exec (.storeReadComplete answered) s = .next (({ s with
          store.access := rest
          mgmt.reserved := s.mgmt.reserved - 1 } : State).responded k.tag k.kind .done bytes) ∧
        bytes.length = 24 ∧
        (∀ i < 24, bytes.getD i 0 = if answered then Memory.read storeDefault s.store.mem (offset + i) else 0xFF))

/-- The boot image's header (R173): with a wrong marker boot ends NONE, with a length above 65,524 or a wrong CRC-32
CRC-FAIL; otherwise boot reads the entries from offset 12, or ends LOADED where there are none. The 20 ms wait after a
FULL reset ends by itself (R172). -/
def Obligations.BootHeaderIsTested : Prop :=
  ∀ s : State,
    (∀ n, s.store.bootWait = .running n →
      exec .bootWaitExpiry s = .next { s with store.bootWait := .stopped }) ∧
    (∀ rest header, s.store.access = .bootHeader :: rest → s.store.bootWait = .stopped →
      header = Memory.readBytes storeDefault s.store.mem 0 12 →
      (header.take 4 ≠ [0xB0, 0x07, 0x4E, 0x16] → exec (.bootHeaderRead true) s =
        .next { s with store := { s.store with
          access := rest, boot := { s.store.boot with status := .none, due := none } } }) ∧
      (header.take 4 = [0xB0, 0x07, 0x4E, 0x16] →
        (65524 < u32At header 4 ∨ (crc32 (Memory.readBytes storeDefault s.store.mem 12 (u32At header 4))).toNat ≠
            u32At header 8 →
          exec (.bootHeaderRead true) s = .next { s with store := { s.store with
            access := rest, boot := { s.store.boot with status := .crcFail, due := none } } }) ∧
        (u32At header 4 ≤ 65524 → (crc32 (Memory.readBytes storeDefault s.store.mem 12 (u32At header 4))).toNat =
            u32At header 8 →
          exec (.bootHeaderRead true) s = .next { s with store := { s.store with
            access := if u32At header 4 = 0 then rest else rest ++ [.bootEntry]
            boot := ⟨if u32At header 4 = 0 then .loaded else .running, none, u32At header 4, 12, 0, none⟩ } })) ∧
      exec (.bootHeaderRead false) s = .next { s with store := { s.store with
        access := rest, boot := { s.store.boot with status := .none, due := none } } })

/-- A boot entry that ends within the image (R174, R36): one of an unknown table, an out-of-range target, an over-long
or unsound content or a guarded slot is skipped as failing; a sound layout table is written at once; a BINDINGS entry of
four bytes makes its four bindings in their order, each as a BIND-MODE would (R102), and fails where one of them is
refused. Then boot reads the next entry, or, after the last of the image, ends LOADED or CONTENT-FAIL (R173). A sound
table of another kind is held as due and no more is read before the turnover. An entry that runs past the image's
length, as one does whose bytes the memory does not answer (R172), ends boot as a failure. -/
def Obligations.BootEntriesAreApplied : Prop :=
  ∀ (s : State) (rest : List Access) (head data : List Byte) (len : Nat) (failing : Option Nat),
    s.store.access = .bootEntry :: rest → head = Memory.readBytes storeDefault s.store.mem s.store.boot.offset 5 →
    len = u16At head 3 → data = Memory.readBytes storeDefault s.store.mem (s.store.boot.offset + 5) len →
    failing = some (s.store.boot.failed.getD s.store.boot.index) →
    (s.store.boot.offset + 5 + len ≤ 12 + s.store.boot.length → (head.getD 0 0).toNat ≠ 11 →
      (∀ d, destOf (head.getD 0 0) (head.getD 1 0) (head.getD 2 0) = some d →
        len ≤ d.table.limit → contentCheck d.table data = none →
        (d.table.isLayout = false → exec (.bootEntryRead true) s =
          .next { s with store := { s.store with
            access := rest
            boot := { s.store.boot with
              offset := s.store.boot.offset + 5 + len
              index := s.store.boot.index + 1
              due := some { d with content := data } } } }) ∧
        (d.table = .tileMap → s.isBound d.slot = false → s.layouts.inUse ≠ some d.slot →
          exec (.bootEntryRead true) s =
            .next { s with
              store := s.store.afterEntry rest len s.store.boot.failed
              layouts.slots := s.layouts.slots.set d.slot
                { s.layouts.slots.get d.slot with tileMap := some data } }) ∧
        (d.table = .warpGrid → s.isBound d.slot = false → s.layouts.inUse ≠ some d.slot →
          exec (.bootEntryRead true) s =
            .next { s with
              store := s.store.afterEntry rest len s.store.boot.failed
              layouts.slots := s.layouts.slots.set d.slot
                { s.layouts.slots.get d.slot with
                  grids := (s.layouts.slots.get d.slot).grids.set d.cam (some data) } })) ∧
      ((destOf (head.getD 0 0) (head.getD 1 0) (head.getD 2 0) = none ∨
        ∃ d, destOf (head.getD 0 0) (head.getD 1 0) (head.getD 2 0) = some d ∧
          (d.table.limit < len ∨ contentCheck d.table data ≠ none ∨
            (d.table.isLayout = true ∧ (s.isBound d.slot = true ∨ s.layouts.inUse = some d.slot)))) →
        exec (.bootEntryRead true) s = .next { s with store := s.store.afterEntry rest len failing })) ∧
    (s.store.boot.offset + 5 + len ≤ 12 + s.store.boot.length → (head.getD 0 0).toNat = 11 →
      (len ≠ 4 → exec (.bootEntryRead true) s = .next { s with store := s.store.afterEntry rest len failing }) ∧
      (len = 4 → ∀ s1 s2 s3 s4 : State,
        exec (.bindMode 0 1 (data.getD 0 0))
          { s with mgmt := { s.mgmt with queue := [], reserved := 0, filled := [] } } = .next s1 →
        exec (.bindMode 0 2 (data.getD 1 0)) s1 = .next s2 → exec (.bindMode 0 3 (data.getD 2 0)) s2 = .next s3 →
        exec (.bindMode 0 4 (data.getD 3 0)) s3 = .next s4 →
        exec (.bootEntryRead true) s = .next { s with
          modes := s4.modes
          store := s.store.afterEntry rest len
            (if s4.mgmt.filled.map Response.result = [.done, .done, .done, .done] then s.store.boot.failed
              else failing) })) ∧
    (∀ answered, (answered = true ∧ s.store.boot.offset ≤ 12 + s.store.boot.length ∧
        12 + s.store.boot.length < s.store.boot.offset + 5 + len) ∨
        (answered = false ∧ 12 ≤ s.store.boot.offset ∧ s.store.boot.length ≤ 65524) →
      exec (.bootEntryRead answered) s =
        .next { s with store := { s.store with
          access := rest
          boot := { s.store.boot with status := .contentFail, failed := failing, due := none } } })

/-! ## Camera links -/

/-- Lock gained takes ABSENT to ACQUIRING with acquire count 0, repeat count 0 and the staleness timer started, raising
CAM-STATE; in OFF only the lock record changes (R1, R9, R12, R13, R14), and so it is in the other four states, whose
link is locked already: that event does not occur, and what its command does is the model's choice (log 4). The
staleness timer's expiry takes LIVE and FROZEN to STALE, raising CAM-STATE; in ACQUIRING it sets the acquire count to 0
and the timer stays expired (R12, R14). -/
def Obligations.LockGainedAndStalenessActByState : Prop :=
  (∀ (p : Cam) (s : State),
    ((s.port p).st = .absent → exec (.lockGained p) s =
      .next (({ s with mgmt.status := s.mgmt.status ||| BitVec.twoPow 24 p.val } : State).setPort p { s.port p with
        lock := true, st := .acquiring, acquire := 0, repeats := 0, staleness := .running 100 })) ∧
    ((s.port p).st ≠ .absent → exec (.lockGained p) s = .next (s.setPort p { s.port p with lock := true }))) ∧
  ∀ (p : Cam) (s : State) (n : Nat), (s.port p).staleness = .running n →
    ((s.port p).st = .live ∨ (s.port p).st = .frozen → exec (.stalenessTimerExpiry p) s =
      .next (({ s with mgmt.status := s.mgmt.status ||| BitVec.twoPow 24 p.val } : State).setPort p { s.port p with
        st := .stale, staleness := .stopped })) ∧
    ((s.port p).st = .acquiring → exec (.stalenessTimerExpiry p) s =
      .next (s.setPort p { s.port p with acquire := 0, staleness := .expired }))

/-- Lock lost (R9, R14, R17, R136): a port that takes frames goes to ABSENT, its frame in flight is discarded and its
FILLING slot FREE, its waiting line writes withdrawn (R20), the timer stops, both counts are 0 and the last signature is
kept, and CAM-STATE is raised; in OFF only the port's lock record changes. At the channel the transaction in flight ends
NO-LINK at once with no stop mark, and then all that waits ends NO-LINK as the arbiter selects it: every pass-through is
answered in its turn and CHANNEL-FAULT is set for an exposure write or an attention read (R137, R143, R144). `out` is
the model's own window on the wire (log 21). -/
def Obligations.LockLostEndsFramesAndTransactions : Prop :=
  ∀ (p : Cam) (s : State),
    ∃ t, exec (.lockLost p) s = .next t ∧ (t.port p).lock = false ∧
      ((s.port p).st = .off → t.port p = { s.port p with lock := false }) ∧
      ((s.port p).st ≠ .off → (s.port p).st ≠ .absent →
        (t.port p).st = .absent ∧ (t.port p).flight = none ∧ (t.port p).staleness = .stopped ∧
        (t.port p).acquire = 0 ∧ (t.port p).repeats = 0 ∧ (t.port p).lastSig = (s.port p).lastSig ∧
        (t.port p).validFrames = (s.port p).validFrames ∧ (t.port p).drops = (s.port p).drops ∧
        (∀ f, (s.port p).flight = some f → (t.port p).ring = (s.port p).ring.set f.slot ⟨.free, none⟩ ∧
          (t.port p).bufs = keptLines (decide (s.dram.granted = some (.write p))) f.slot (s.port p).bufs) ∧
        ((s.port p).flight = none → (t.port p).ring = (s.port p).ring ∧ (t.port p).bufs = (s.port p).bufs)) ∧
      t.chan p = { s.chan p with
        active := false, flight := none, queue := [], exposure := none, attnWaiting := false, timer := .stopped, out := []
        lastServed :=
          if (s.chan p).queue = [] then (if (s.chan p).exposure = none then (s.chan p).lastServed else .exposure)
          else if (s.chan p).exposure ≠ none ∧ (s.chan p).lastServed = .exposure ∧ (s.chan p).queue.length = 1 then
            .exposure
          else .passThrough } ∧
      (∀ flown : List Ticket,
        (flown = [] ∧ ∀ x k, (s.chan p).flight = some x → x.who ≠ .pass k) ∨
          (∃ x k, (s.chan p).flight = some x ∧ x.who = .pass k ∧ flown = [k]) →
        t.mgmt = { s.mgmt with
          reserved := s.mgmt.reserved - (flown.length + (s.chan p).queue.length)
          filled := s.mgmt.filled ++
            (flown ++ (s.chan p).queue.map XferRequest.ticket).map fun k => ⟨k.tag, k.kind, .noLink, []⟩
          status := t.mgmt.status }) ∧
      (∀ e < 24, t.mgmt.status.getLsbD e = true ↔ s.mgmt.status.getLsbD e = true ∨
        (e = p.val ∧ (s.port p).st ≠ .off ∧ (s.port p).st ≠ .absent) ∨
        (e = 8 + p.val ∧ ((∃ x, (s.chan p).flight = some x ∧ ∀ k, x.who ≠ .pass k) ∨ (s.chan p).exposure ≠ none ∨
          (s.chan p).attnWaiting = true))) ∧
      (∀ q, q ≠ p → t.port q = s.port q ∧ t.chan q = s.chan q) ∧
      t.dram = s.dram ∧ t.layouts = s.layouts ∧ t.comp = s.comp ∧ t.bal = s.bal ∧ t.ovl = s.ovl ∧ t.modes = s.modes ∧
      t.veh = s.veh ∧ t.tx = s.tx ∧ t.store = s.store

/-- A frame-start mark taken by a port that is not OFF takes the lowest-numbered FREE slot and marks it FILLING, and the
frame latches the Check Windows in force; a frame in flight is ended and discarded first, its waiting line writes
withdrawn (R16, R5, R11, R17, R20). -/
def Obligations.FrameStartMarkTakesTheLowestFreeSlot : Prop :=
  ∀ (p : Cam) (s : State) (i : Fin 3), (s.port p).lock = true → (s.port p).st ≠ .off →
    (∀ ring : Tri Slot,
      ((s.port p).flight = none ∧ ring = (s.port p).ring) ∨
        (∃ f, (s.port p).flight = some f ∧ ring = (s.port p).ring.set f.slot ⟨.free, none⟩) →
      (ring.get i).st = .free → (∀ j < i, (ring.get j).st ≠ .free) →
      ∃ t, exec (.frameStartMark p) s = .next t ∧
        (t.port p).ring = ring.set i ⟨.filling, none⟩ ∧
        (t.port p).flight = some ⟨i, 0, false, false, windowsOf (s.port p).windows, (s.port p).windowSet,
          (windowsOf (s.port p).windows).map fun _ => []⟩ ∧
        (t.port p).acquire =
          (if (s.port p).flight ≠ none ∧ (s.port p).st = .acquiring then 0 else (s.port p).acquire) ∧
        ((s.port p).flight = none → (t.port p).bufs = (s.port p).bufs) ∧
        (∀ f, (s.port p).flight = some f → (t.port p).bufs =
          keptLines (decide (s.dram.granted = some (.write p))) f.slot (s.port p).bufs) ∧
        t = s.setPort p { s.port p with
          ring := (t.port p).ring, flight := (t.port p).flight, acquire := (t.port p).acquire,
          bufs := (t.port p).bufs })

/-- A camera line ends (R2, R3): with a line buffer to spare it waits there for its write to its line of the FILLING
slot, it is counted, and the luma of its pixels inside each latched window joins what the window has gathered for the
signature (R5); with both buffers waiting it is a line overrun and the frame is written no further. That the lines
already waiting stay after an overrun is the model's choice (log 17), and so is that a line with fewer than 1280 pixels
leaves what it has (log 26). A line of a frame that is already overrun, or past line 799, is only counted. The write is
offered to the arbiter at once (R20). -/
def Obligations.ReceivedLineWaitsForItsWrite : Prop :=
  (∀ (p : Cam) (pixels : List (Byte × Byte)) (s : State) (f : Flight),
    (s.port p).lock = true → (s.port p).st ≠ .off → (s.port p).flight = some f → (f.overrun = true ∨ 800 ≤ f.lines) →
    ∃ t, exec (.lineReceived p pixels) s = .next t ∧
      t.port p = { s.port p with flight := some { f with
        lines := f.lines + 1, badLine := f.badLine || decide (pixels.length ≠ 1280) } } ∧
      (∀ q, q ≠ p → t.port q = s.port q) ∧ t.dram.mem = s.dram.mem ∧ t.layouts = s.layouts ∧ t.bal = s.bal ∧
      t.ovl = s.ovl ∧ t.modes = s.modes ∧ t.veh = s.veh ∧ t.chans = s.chans ∧ t.tx = s.tx ∧ t.mgmt = s.mgmt ∧
      t.store = s.store) ∧
  ∀ (p : Cam) (pixels : List (Byte × Byte)) (s : State) (f : Flight),
    (s.port p).lock = true → (s.port p).st ≠ .off → (s.port p).flight = some f → f.overrun = false → f.lines < 800 →
    ∃ t, exec (.lineReceived p pixels) s = .next t ∧
      ((s.port p).bufs.length < 2 →
        (t.port p).bufs = (s.port p).bufs ++
          [⟨f.slot, f.lines, (pixels.take 1280).flatMap fun q => [q.1, q.2]⟩] ∧
        ∃ g, (t.port p).flight = some g ∧ g.lines = f.lines + 1 ∧ g.slot = f.slot ∧ g.overrun = false ∧
          g.badLine = (f.badLine || decide (pixels.length ≠ 1280)) ∧ g.windows = f.windows ∧
          g.windowSet = f.windowSet ∧ g.luma.length = min f.luma.length f.windows.length ∧
          ∀ (i : Nat) (w : Window) (before : List Byte), f.windows[i]? = some w → f.luma[i]? = some before →
            g.luma[i]? = some (before ++
              if w.y ≤ f.lines ∧ f.lines < w.y + w.h then ((pixels.map Prod.fst).drop w.x).take w.w else [])) ∧
      (2 ≤ (s.port p).bufs.length →
        (t.port p).bufs = (s.port p).bufs ∧
        ∃ g, (t.port p).flight = some g ∧ g.lines = f.lines + 1 ∧ g.overrun = true ∧ g.luma = f.luma) ∧
      (s.dram.granted = none → (∀ q, q ≠ p → (s.port q).bufs = []) → (s.port p).bufs.length < 2 →
        t.dram.granted = some (.write p) ∧ t.dram.lastPort = p) ∧
      (∀ g, s.dram.granted = some g → t.dram = s.dram) ∧
      { t.port p with flight := (s.port p).flight, bufs := (s.port p).bufs } = s.port p ∧
      (∀ q, q ≠ p → t.port q = s.port q) ∧
      t.dram.mem = s.dram.mem ∧ t.layouts = s.layouts ∧ t.bal = s.bal ∧ t.ovl = s.ovl ∧ t.modes = s.modes ∧
      t.veh = s.veh ∧ t.chans = s.chans ∧ t.tx = s.tx ∧ t.mgmt = s.mgmt ∧ t.store = s.store

/-- A valid frame (R3, R4, R5, R10, R12, R13, R14, R17): it counts, its slot becomes READY with its frame number in
place of any READY slot before it, which counts as a drop; the state machine acts on it; the staleness timer restarts
and the last signature becomes the frame's, the CRC-16 of the luma its windows gathered. With the attention flag set and
a status register known, the channel is asked for an attention read, which starts or waits (R141); a port that goes from
ACQUIRING to LIVE with its cached exposure present hands its channel the restore (R71, R140). -/
def Obligations.ValidFrameIsTaken : Prop :=
  ∀ (p : Cam) (s : State) (f : Flight) (attention : Bool), ChannelsConsistent s →
    (s.port p).lock = true → (s.port p).st ≠ .off → (s.port p).st ≠ .absent →
    (s.port p).flight = some f → f.lines = 800 → f.badLine = false → f.overrun = false →
    ∀ sig : Option Signature,
      sig = (if f.windows = [] then none else some ⟨crc16 f.luma.flatten, f.windowSet⟩) →
    ∃ t, exec (.frameEndMark p 800 attention) s = .next t ∧
      (t.port p).validFrames = ((s.port p).validFrames + 1) % 65536 ∧ (t.port p).attention = attention ∧
      (t.port p).flight = none ∧
      (t.port p).ring.get f.slot = ⟨.ready, some (((s.port p).validFrames + 1) % 65536)⟩ ∧
      (∀ i, i ≠ f.slot → (t.port p).ring.get i =
        if ((s.port p).ring.get i).st = .ready then ⟨.free, none⟩ else (s.port p).ring.get i) ∧
      (t.port p).drops = (if ∃ i, ((s.port p).ring.get i).st = .ready then min 65535 ((s.port p).drops + 1)
        else (s.port p).drops) ∧
      (t.port p).staleness = .running 100 ∧ (t.port p).lastSig = sig ∧
      ((s.port p).st = .acquiring → (t.port p).acquire = (s.port p).acquire + 1 ∧
        (t.port p).st = (if 3 ≤ (s.port p).acquire + 1 then .live else .acquiring) ∧
        (t.port p).repeats = (if 3 ≤ (s.port p).acquire + 1 then 0 else (s.port p).repeats)) ∧
      ((s.port p).st = .live →
        (sig ≠ none ∧ sig = (s.port p).lastSig →
          (t.port p).repeats = min 255 ((s.port p).repeats + 1) ∧
          (t.port p).st = (if profileFreezeLimit (s.port p).profile ≤ min 255 ((s.port p).repeats + 1) then .frozen
            else .live)) ∧
        (¬(sig ≠ none ∧ sig = (s.port p).lastSig) →
          (t.port p).repeats = 0 ∧ (t.port p).st = .live)) ∧
      ((s.port p).st = .stale ∨
          ((s.port p).st = .frozen ∧ ¬(sig ≠ none ∧ sig = (s.port p).lastSig)) →
        (t.port p).st = .acquiring ∧ (t.port p).acquire = 1 ∧ (t.port p).repeats = 0) ∧
      ((s.port p).st = .frozen ∧ sig ≠ none ∧ sig = (s.port p).lastSig → (t.port p).st = .frozen) ∧
      t.mgmt = { s.mgmt with status :=
        if (t.port p).st ≠ (s.port p).st then s.mgmt.status ||| BitVec.twoPow 24 p.val else s.mgmt.status } ∧
      (∀ asked : Channel,
        ((attention = false ∨ profileStatus (s.port p).profile = none) ∧ asked = s.chan p) ∨
          (∃ r, attention = true ∧ profileStatus (s.port p).profile = some r ∧
            asked = (s.chan p).askedRead (s.port p).profile r) →
        (((s.port p).st ≠ .acquiring ∨ (t.port p).st ≠ .live ∨ (s.chan p).cached = none ∨
            profileExposure (s.port p).profile = none) → t.chan p = asked) ∧
        (∀ v x, (s.port p).st = .acquiring → (t.port p).st = .live → (s.chan p).cached = some v →
          profileExposure (s.port p).profile = some x → t.chan p = asked.handed (s.port p).profile x v)) ∧
      (∀ q, q ≠ p → t.port q = s.port q ∧ t.chan q = s.chan q) ∧ (t.port p).bufs = (s.port p).bufs ∧
      (t.port p).profile = (s.port p).profile ∧ (t.port p).windows = (s.port p).windows ∧ (t.port p).lock = true ∧
      t.dram = s.dram ∧ t.layouts = s.layouts ∧ t.comp = s.comp ∧ t.bal = s.bal ∧ t.ovl = s.ovl ∧ t.modes = s.modes ∧
      t.veh = s.veh ∧ t.tx = s.tx ∧ t.store = s.store

/-- A discarded frame (R11, R3), at its frame-end mark or at a frame-start mark that finds it in flight: in ACQUIRING it
sets the acquire count to 0; in no state does it change the port state, the repeat count or the last signature, or
restart the staleness timer; its slot becomes FREE, for the new frame of the frame-start mark to take one, and
its line writes that wait are withdrawn, one that is granted running to its end (R20). -/
def Obligations.DiscardedFrameOnlyResetsAcquiring : Prop :=
  (∀ (p : Cam) (s : State) (f : Flight),
    (s.port p).lock = true → (s.port p).st ≠ .off → (s.port p).flight = some f →
    ∃ t, exec (.frameStartMark p) s = .next t ∧
      (t.port p).acquire = (if (s.port p).st = .acquiring then 0 else (s.port p).acquire) ∧
      (t.port p).st = (s.port p).st ∧ (t.port p).repeats = (s.port p).repeats ∧
      (t.port p).lastSig = (s.port p).lastSig ∧ (t.port p).staleness = (s.port p).staleness ∧
      (t.port p).bufs = keptLines (decide (s.dram.granted = some (.write p))) f.slot (s.port p).bufs ∧
      ∃ i g, (((s.port p).ring.set f.slot ⟨.free, none⟩).get i).st = .free ∧
        (t.port p).ring = ((s.port p).ring.set f.slot ⟨.free, none⟩).set i ⟨.filling, none⟩ ∧
        (t.port p).flight = some g ∧ g.slot = i ∧ g.lines = 0) ∧
  ∀ (p : Cam) (n : Nat) (attention : Bool) (s : State) (f : Flight),
    (s.port p).lock = true → (s.port p).st ≠ .off → (s.port p).flight = some f →
    (f.lines ≠ 800 ∨ f.badLine = true ∨ n ≠ 800 ∨ f.overrun = true) →
    ∃ t, exec (.frameEndMark p n attention) s = .next t ∧
      (t.port p).acquire = (if (s.port p).st = .acquiring then 0 else (s.port p).acquire) ∧
      (t.port p).st = (s.port p).st ∧ (t.port p).repeats = (s.port p).repeats ∧
      (t.port p).lastSig = (s.port p).lastSig ∧ (t.port p).staleness = (s.port p).staleness ∧
      (t.port p).bufs = keptLines (decide (s.dram.granted = some (.write p))) f.slot (s.port p).bufs ∧
      (t.port p).ring = (s.port p).ring.set f.slot ⟨.free, none⟩ ∧ (t.port p).flight = none ∧
      t = s.setPort p { s.port p with
        ring := (t.port p).ring, flight := none, acquire := (t.port p).acquire, bufs := (t.port p).bufs }

/-! ## DRAM, bands and frames -/

/-- A camera write ends (R20, R2, R15): the bytes of the port's oldest waiting line stand in its slot's line, every other
byte of DRAM is as it was, and the buffer is free; then the arbiter grants the first port that waits after this one in
cyclic order, and the compositor's read where none does. -/
def Obligations.DramWriteStoresTheLine : Prop :=
  ∀ (p : Cam) (s : State) (b : LineBuf) (rest : List LineBuf),
    MemoriesSound s → s.dram.granted = some (.write p) → (s.port p).bufs = b :: rest →
    ∃ t, exec .dramWriteComplete s = .next t ∧
      (∀ k < b.data.length, Memory.read dramDefault t.dram.mem
        ((3 * p.val + b.slot.val) * 2048000 + b.line * 2560 + k) = b.data.getD k 0) ∧
      (∀ a, (a < (3 * p.val + b.slot.val) * 2048000 + b.line * 2560 ∨
          (3 * p.val + b.slot.val) * 2048000 + b.line * 2560 + b.data.length ≤ a) →
        Memory.read dramDefault t.dram.mem a = Memory.read dramDefault s.dram.mem a) ∧
      t.port p = { s.port p with bufs := rest } ∧ (∀ q, q ≠ p → t.port q = s.port q) ∧
      (∀ before q after, portsAfter s.dram.lastPort = before ++ q :: after → (t.port q).bufs ≠ [] →
        (∀ r ∈ before, (t.port r).bufs = []) →
        t.dram.granted = some (.write q) ∧ t.dram.lastPort = q ∧ t.comp = s.comp) ∧
      ((∀ q, (t.port q).bufs = []) →
        t.dram.lastPort = s.dram.lastPort ∧
        (∀ w r reads, s.comp.work = some w → w.reads = r :: reads →
          t.dram.granted = some (.read r true) ∧ t.comp = { s.comp with work := some { w with reads := reads } }) ∧
        ((s.comp.work = none ∨ ∃ w, s.comp.work = some w ∧ w.reads = []) →
          t.dram.granted = none ∧ t.comp = s.comp)) ∧
      t.layouts = s.layouts ∧ t.bal = s.bal ∧ t.ovl = s.ovl ∧ t.modes = s.modes ∧ t.veh = s.veh ∧ t.chans = s.chans ∧
      t.tx = s.tx ∧ t.mgmt = s.mgmt ∧ t.store = s.store

/-- A source read ends (R56, R20, R54): its bytes reach the band it was asked for, as they stand in DRAM; one whose band
has been given up is discarded; DRAM itself and every port stand. The read that composes the band adds to the record of
each pair of cameras, over the band's composed seam pixels, each camera's luma samples before gain and the count (R51);
no other read adds anything. That the band is composed when its last read ends, and that one read waits at a time, is
the model's choice (log 9). -/
def Obligations.SourceReadFeedsItsBand : Prop :=
  ∀ (r : SourceRead) (wanted : Bool) (s : State), MemoriesSound s → s.dram.granted = some (.read r wanted) →
    ∃ t, exec .sourceReadComplete s = .next t ∧
      (∀ w, wanted = true → s.comp.work = some w → ∃ w', t.comp.work = some w' ∧ w'.band = w.band ∧
        (∀ k < r.len, Memory.read 0 (w'.data.get r.cam) (r.line * 2560 + r.first + k) =
          Memory.read dramDefault s.dram.mem
            ((3 * r.cam.val + r.slot.val) * 2048000 + r.line * 2560 + r.first + k)) ∧
        (∀ c, c ≠ r.cam → w'.data.get c = w.data.get c) ∧ (w.reads = [] → w'.composed = true) ∧
        (w.reads ≠ [] → t.comp.seam = s.comp.seam) ∧
        (w.reads = [] → ∀ a b : Cam, a ≠ b → t.comp.seam.pair a b =
          ((s.comp.seam.pair a b).1 + bandSum w.band (fun x y =>
              if seamBetween s.comp.plan s.layouts.slots a b x y then
                rawLuma s.comp.plan s.layouts.slots w'.fetch a x y else 0),
            (s.comp.seam.pair a b).2.1 + bandSum w.band (fun x y =>
              if seamBetween s.comp.plan s.layouts.slots a b x y then
                rawLuma s.comp.plan s.layouts.slots w'.fetch b x y else 0),
            (s.comp.seam.pair a b).2.2 + bandSum w.band (fun x y =>
              if seamBetween s.comp.plan s.layouts.slots a b x y then 1 else 0)))) ∧
      (wanted = false → t.comp.seam = s.comp.seam ∧ (s.comp.work = none → t.comp = s.comp) ∧
        (∀ w, s.comp.work = some w → ∃ w', t.comp.work = some w' ∧ w'.data = w.data)) ∧
      t.comp.plan = s.comp.plan ∧ t.comp.half0 = s.comp.half0 ∧ t.comp.half1 = s.comp.half1 ∧
      t.comp.next = s.comp.next ∧ t.dram.mem = s.dram.mem ∧ t.ports = s.ports ∧ t.layouts = s.layouts ∧
      t.bal = s.bal ∧ t.ovl = s.ovl ∧ t.modes = s.modes ∧ t.veh = s.veh ∧ t.chans = s.chans ∧ t.tx = s.tx ∧
      t.mgmt = s.mgmt ∧ t.store = s.store

/-- The output stage of a band ends (R53, R49, R50): its half, still WRITING for it, becomes COMPLETE with the band's 32
lines of 1024 samples, each the held and packed pixels of R50; and the next band starts where its half is FREE. -/
def Obligations.BandCompletionFillsItsHalf : Prop :=
  ∀ (b : Fin 18) (s : State) (w : BandWork), s.comp.work = some w → w.band = b.val → w.composed = true →
    s.comp.next = b.val + 1 → (s.comp.half b.val).st = .writing → (s.comp.half b.val).band = b.val →
    ∃ t, exec (.bandCompletion b) s = .next t ∧
      (t.comp.half b.val).st = .complete ∧ (t.comp.half b.val).band = b.val ∧
      (t.comp.half b.val).lines.length = 32 ∧ (∀ l ∈ (t.comp.half b.val).lines, l.length = 1024) ∧
      (∀ r < 32, ∀ x < 1024, ∀ pix : Nat → Pix,
        (∀ i, pix i = holdPixel (drawList s.ovl.palette s.ovl.drawList i (32 * b.val + r)
          (compositorPixel s.comp.plan s.layouts.slots s.ovl.palette w.fetch i (32 * b.val + r)))) →
        (((t.comp.half b.val).lines.getD r []).getD x ⟨0, 0⟩).luma = (pix x).y ∧
        (((t.comp.half b.val).lines.getD r []).getD x ⟨0, 0⟩).chroma =
          if x % 2 = 0 then ((pix x).cb + (pix (x + 1)).cb + 1) / 2 else ((pix (x - 1)).cr + (pix x).cr + 1) / 2) ∧
      (b.val < 17 → (s.comp.half (b.val + 1)).st = .free →
        (t.comp.half (b.val + 1)).st = .writing ∧ (t.comp.half (b.val + 1)).band = b.val + 1 ∧
        t.comp.next = b.val + 2 ∧ ∃ w', t.comp.work = some w' ∧ w'.band = b.val + 1) ∧
      ((b.val = 17 ∨ (s.comp.half (b.val + 1)).st ≠ .free) →
        t.comp.work = none ∧ t.comp.half (b.val + 1) = s.comp.half (b.val + 1)) ∧
      t.comp.plan = s.comp.plan ∧ t.comp.seam = s.comp.seam ∧ t.dram.mem = s.dram.mem ∧ t.ports = s.ports ∧
      t.layouts = s.layouts ∧ t.bal = s.bal ∧ t.ovl = s.ovl ∧ t.modes = s.modes ∧ t.veh = s.veh ∧ t.chans = s.chans ∧
      t.tx = s.tx ∧ t.mgmt = s.mgmt ∧ t.store = s.store

/-- Band start (R54): a COMPLETE half is sent as composed; a half still WRITING is an underrun: it is sent as fill, the
band is abandoned, the statistics are marked incomplete, the underrun record and the UNDERRUN event note it (R55), and
the next band starts at once where its half is FREE. Band end frees the half, and a band that waits for it starts in it
(R53). -/
def Obligations.BandStartAndEndMoveTheHalves : Prop :=
  (∀ (b : Fin 18) (s : State),
    ((s.comp.half b.val).st = .complete → ∃ t, exec (.bandStart b) s = .next t ∧
      (t.comp.half b.val) = { s.comp.half b.val with st := .sending } ∧
      t.comp.half (b.val + 1) = s.comp.half (b.val + 1) ∧
      t = { s with
        comp := { s.comp with half0 := t.comp.half0, half1 := t.comp.half1 }
        tx.phase := .inBand b.val }) ∧
    (∀ w, (s.comp.half b.val).st = .writing → s.comp.work = some w → w.band = b.val → s.comp.next = b.val + 1 →
      ∃ t, exec (.bandStart b) s = .next t ∧
        (t.comp.half b.val).st = .fill ∧ t.comp.incomplete = true ∧
        t.tx.underrun = ⟨some (s.tx.underrun.first.getD b.val), s.tx.underrun.count + 1⟩ ∧
        t.mgmt = { s.mgmt with status := s.mgmt.status ||| BitVec.twoPow 24 21 } ∧
        (b.val < 17 → (s.comp.half (b.val + 1)).st = .free →
          (t.comp.half (b.val + 1)).st = .writing ∧ ∃ w', t.comp.work = some w' ∧ w'.band = b.val + 1) ∧
        (b.val = 17 → t.comp.work = none) ∧
        t.comp.plan = s.comp.plan ∧ t.comp.seam = s.comp.seam ∧ t.dram.mem = s.dram.mem ∧ t.ports = s.ports ∧
        t.layouts = s.layouts ∧ t.bal = s.bal ∧ t.ovl = s.ovl ∧ t.modes = s.modes ∧ t.veh = s.veh ∧
        t.chans = s.chans ∧ t.store = s.store ∧ t.tx.header = s.tx.header)) ∧
  ∀ (b : Fin 18) (s : State), ((s.comp.half b.val).st = .sending ∨ (s.comp.half b.val).st = .fill) →
    ∃ t, exec (.bandEnd b) s = .next t ∧
      ((s.comp.work ≠ none ∨ 18 ≤ s.comp.next ∨
          (s.comp.next % 2 ≠ b.val % 2 ∧ (s.comp.half s.comp.next).st ≠ .free)) →
        t.comp.half b.val = ⟨.free, 0, []⟩ ∧ t.comp.work = s.comp.work ∧ t.dram = s.dram) ∧
      (s.comp.work = none → s.comp.next < 18 → s.comp.next % 2 = b.val % 2 →
        (t.comp.half b.val).st = .writing ∧ (t.comp.half b.val).band = s.comp.next ∧
        t.comp.next = s.comp.next + 1 ∧ ∃ w, t.comp.work = some w ∧ w.band = s.comp.next) ∧
      t.tx = { s.tx with phase := .afterBand b.val } ∧ t.comp.plan = s.comp.plan ∧ t.comp.seam = s.comp.seam ∧
      t.comp.incomplete = s.comp.incomplete ∧ t.dram.mem = s.dram.mem ∧ t.ports = s.ports ∧ t.layouts = s.layouts ∧
      t.bal = s.bal ∧ t.ovl = s.ovl ∧ t.modes = s.modes ∧ t.veh = s.veh ∧ t.chans = s.chans ∧ t.mgmt = s.mgmt ∧
      t.store = s.store

/-- Frame start (R147, R53, R55, R111, R87): the working underrun record is cleared; band 0 starts in half 0; the frame's
mode and near indication go to the vehicle interface. The output frame number rises by 1 at each frame start, wrapping,
and at nothing else; only power-on sets it back (R147, R155, R156). -/
def Obligations.FrameStartOpensAndNumbersTheFrame : Prop :=
  (∀ s : State, ∃ t, exec .frameStart s = .next t ∧
    t.tx = { s.tx with frameNo := s.tx.frameNo + 1, phase := .header, underrun := ⟨none, 0⟩ } ∧
    t.veh = { s.veh with sentMode := s.ovl.view.mode, near := s.ovl.drawList.any DrawEntry.isNear } ∧
    t.comp.half0 = ⟨.writing, 0, []⟩ ∧ t.comp.half1 = s.comp.half1 ∧ t.comp.next = 1 ∧
    (∃ w, t.comp.work = some w ∧ w.band = 0 ∧ (s.comp.plan.slot = none → w.reads = [] ∧ w.composed = true)) ∧
    t.comp.plan = s.comp.plan ∧ t.comp.seam = s.comp.seam ∧ t.comp.incomplete = s.comp.incomplete ∧
    t.dram.mem = s.dram.mem ∧ t.ports = s.ports ∧ t.layouts = s.layouts ∧ t.bal = s.bal ∧ t.ovl = s.ovl ∧
    t.modes = s.modes ∧ t.chans = s.chans ∧ t.mgmt = s.mgmt ∧ t.store = s.store) ∧
  ∀ (c : Instr) (s t : State), exec c s = .next t →
    (c = .powerOn → t.tx.frameNo = 0) ∧ (c = .frameStart → t.tx.frameNo = s.tx.frameNo + 1) ∧
    (c ≠ .powerOn → c ≠ .frameStart → t.tx.frameNo = s.tx.frameNo)

/-! ## The turnover's own work. That requests which wait do not affect it, and what they do after it, is said by
`RequestQueueFillsAndEmpties`. -/

/-- The header record of the coming frame (R149, R150, R151, R153): its number, and every field as its owner holds it
once its own work is done; the oldest filled responses, up to 8, leave the queue into it in their order. -/
def Obligations.TurnoverBuildsTheHeader : Prop :=
  ∀ s : State, s.mgmt.queue = [] → ∃ t, exec .turnover s = .next t ∧
    t.tx.frameNo = s.tx.frameNo ∧ t.tx.phase = .blanking ∧ t.tx.underrun = s.tx.underrun ∧
    t.tx.header.frameNo = s.tx.frameNo + 1 ∧ t.tx.header.underrun = s.tx.underrun ∧
    t.tx.header.mode = t.modes.mode ∧ t.tx.header.slot = t.layouts.inUse ∧
    t.layouts.inUse = t.modes.bind.of t.modes.mode ∧
    (∀ c, t.tx.header.cams.get c =
      ⟨(t.port c).st, Ring.readingFrame (t.port c).ring, (t.camBal c).gain, (t.port c).drops, (t.chan c).attnValue⟩) ∧
    (∀ c, (t.port c).drops = (s.port c).drops ∧ (t.chan c).attnValue = (s.chan c).attnValue) ∧
    t.tx.header.vd = s.veh.state ∧ t.tx.header.seq = (if s.veh.state = .none then 0 else s.veh.seq) ∧
    t.tx.header.band = t.veh.band ∧ t.tx.header.hold = s.mgmt.hold ∧ t.tx.header.lost = s.mgmt.lost ∧
    t.tx.header.boot = t.store.boot.status ∧
    t.tx.header.bootIndex = (if t.store.boot.status = .contentFail then t.store.boot.failed.getD 0 else 0) ∧
    t.tx.header.writing = s.store.writing.isSome ∧ t.tx.header.status = t.mgmt.status ∧
    t.tx.header.enable = s.mgmt.enable ∧ t.tx.header.attention = decide (t.mgmt.status &&& s.mgmt.enable ≠ 0) ∧
    (∃ new, t.tx.header.responses ++ t.mgmt.filled = s.mgmt.filled ++ new) ∧
    t.tx.header.responses.length = min 8 (t.tx.header.responses.length + t.mgmt.filled.length) ∧
    t.dram = s.dram ∧ t.veh = { s.veh with band := t.veh.band }

/-- What the coming frame is made from (R18, R38, R52, R78): the live set is the ports LIVE before any profile acts; each
live camera's READY slot, if any, becomes READING and its READING slot before it FREE, and a camera outside it loses its
READING slot; the plan takes the in-use slot, the READING slots and the gains set; the statistics start at 0; the frame
view is what the vehicle interface and the mode controller hold. -/
def Obligations.TurnoverLatchesThePlan : Prop :=
  ∀ s : State, s.mgmt.queue = [] → PortsConsistent s → ∃ t, exec .turnover s = .next t ∧
    t.comp.plan.slot = t.layouts.inUse ∧
    (∀ c, t.comp.plan.live.get c = decide ((s.port c).st = .live)) ∧
    (∀ c, t.comp.plan.gain.get c = (t.camBal c).gain) ∧
    (∀ c i, t.comp.plan.source.get c = some i ↔ (s.port c).st = .live ∧ ((t.port c).ring.get i).st = .reading) ∧
    (∀ c, (s.port c).st = .live → ∃ i, t.comp.plan.source.get c = some i) ∧
    (∀ c i, (s.port c).st = .live → ((s.port c).ring.get i).st = .ready →
      (t.port c).ring.get i = ⟨.reading, ((s.port c).ring.get i).frameNo⟩ ∧
      ∀ j, ((s.port c).ring.get j).st = .reading → (t.port c).ring.get j = ⟨.free, none⟩) ∧
    (∀ c i, (s.port c).st = .live → (∀ j, ((s.port c).ring.get j).st ≠ .ready) →
      ((s.port c).ring.get i).st = .reading → (t.port c).ring.get i = (s.port c).ring.get i) ∧
    (∀ c i, (s.port c).st ≠ .live → ((s.port c).ring.get i).st = .reading →
      (t.port c).ring.get i = ⟨.free, none⟩) ∧
    t.comp.seam = Seam.zero ∧ t.comp.incomplete = false ∧
    t.ovl.view = ⟨t.modes.mode, t.comp.plan.live, t.veh.roles, t.veh.state, t.veh.band, t.veh.sensors⟩ ∧
    t.ovl.drawList = buildDrawList t.ovl.view (bandTableOf t.ovl.bands) t.ovl.glyphs t.ovl.elements ∧
    t.comp.half0 = s.comp.half0 ∧ t.comp.half1 = s.comp.half1

/-- Each follower's gain steps toward its target by 4 at most, and a reference does not step; the target is computed
from the frame just ended where R63 allows and held otherwise (R63, R64). The runs count the turnovers with a computed
target at or past the limits (R68); the settle count falls by 1 while above 0 (R70; of a reference too by the model's
reading, log 16); and a follower that has settled, with exposure control and its cached exposure present, is nudged by
one step where a run has reached 30 and the value changes: the channel is handed the value, the settle count is 30, the
run 0 (R69, R140). -/
def Obligations.TurnoverStepsEachGain : Prop :=
  ∀ (s : State) (c : Cam), s.mgmt.queue = [] → (∀ d ∈ s.dueTables, d.table ≠ .balance) →
    ∃ t, exec .turnover s = .next t ∧ t.bal.table = s.bal.table ∧
      (balancePartner s.bal.table c = none →
        (t.camBal c).gain = (s.camBal c).gain ∧ (t.camBal c).target = (s.camBal c).target) ∧
      (∀ p, balancePartner s.bal.table c = some p →
        ((t.camBal c).gain : Int) = (s.camBal c).gain +
          max (-4) (min 4 (((t.camBal c).target : Int) - (s.camBal c).gain)) ∧
        (s.comp.incomplete = true ∨ (s.comp.seam.pair c p).2.2 < 1024 ∨ (s.comp.seam.pair c p).1 = 0 ∨
            s.comp.plan.live.get c = false ∨ s.comp.plan.live.get p = false →
          (t.camBal c).target = (s.camBal c).target) ∧
        (s.comp.incomplete = false → 1024 ≤ (s.comp.seam.pair c p).2.2 → (s.comp.seam.pair c p).1 ≠ 0 →
          s.comp.plan.live.get c = true → s.comp.plan.live.get p = true →
          (t.camBal c).target =
            max 128 (min 512 ((s.comp.plan.gain.get p * (s.comp.seam.pair c p).2.1 + (s.comp.seam.pair c p).1 / 2) /
              (s.comp.seam.pair c p).1)))) ∧
      ((∀ d ∈ s.dueTables, d.table ≠ .cameraProfile) →
        (balancePartner s.bal.table c = none →
          t.camBal c = { s.camBal c with settle := (s.camBal c).settle - 1 } ∧ t.chan c = s.chan c) ∧
        ∀ p, balancePartner s.bal.table c = some p → ∀ high low : Nat,
          high = (if s.targetComputed c p then
              (if 448 ≤ (t.camBal c).target then min 255 ((s.camBal c).high + 1) else 0) else (s.camBal c).high) →
          low = (if s.targetComputed c p then
              (if 448 ≤ (t.camBal c).target then 0
               else if (t.camBal c).target ≤ 160 then min 255 ((s.camBal c).low + 1) else 0) else (s.camBal c).low) →
          (∀ x e v, profileExposure (s.port c).profile = some x → (s.chan c).cached = some e →
            ((30 ≤ high ∧ v = min x.maximum (e + x.step)) ∨
              (high < 30 ∧ 30 ≤ low ∧ v = max x.minimum (e - x.step))) →
            v ≠ e → (s.camBal c).settle ≤ 1 →
            (t.camBal c).settle = 30 ∧ (t.camBal c).high = (if 30 ≤ high then 0 else high) ∧
            (t.camBal c).low = (if 30 ≤ high then low else 0) ∧
            (ChannelsConsistent s → (s.chan c).active = true ∨ (s.port c).lock = true →
              t.chan c = (s.chan c).handed (s.port c).profile x v) ∧
            (ChannelsConsistent s → (s.chan c).active = false → (s.port c).lock = false →
              t.chan c = { s.chan c with lastServed := .exposure } ∧ t.mgmt.status.getLsbD (8 + c.val) = true)) ∧
          (((1 < (s.camBal c).settle ∨ profileExposure (s.port c).profile = none ∨ (s.chan c).cached = none ∨
              (high < 30 ∧ low < 30) ∨
              ∃ x e, profileExposure (s.port c).profile = some x ∧ (s.chan c).cached = some e ∧
                ((30 ≤ high ∧ e = min x.maximum (e + x.step)) ∨
                  (high < 30 ∧ 30 ≤ low ∧ e = max x.minimum (e - x.step)))) →
            (t.camBal c).settle = (s.camBal c).settle - 1 ∧ (t.camBal c).high = high ∧ (t.camBal c).low = low ∧
            t.chan c = s.chan c)))

/-- The mode of the coming frame (R103, R104, R105, R107 to R110, R113, R114). With the reset hold set the mode is kept,
but for STANDBY in place of an unbound PANORAMA, and the hold cleared; while boot runs, and does not end at this
turnover with its due table (R174), the mode and the dwell count are kept. At every other turnover the choice is made:
the desired mode is that of the first reason that holds, with its fall-back and rank; from PANORAMA or STANDBY it is the
mode; a special mode is kept while it is desired or, against a lower-ranking reason, while the dwell count is below the
setting, and left for PANORAMA otherwise or when unbound. The KERB latch is brought up to date at all of them. A changed
mode sets MODE-CHANGE and the dwell count to 0 (R108, R112). -/
def Obligations.TurnoverChoosesTheMode : Prop :=
  ∀ s : State, s.mgmt.queue = [] → (∀ d ∈ s.dueTables, d.table ≠ .modeRules) → ∃ t, exec .turnover s = .next t ∧
    t.modes.bind = s.modes.bind ∧ t.modes.override = s.modes.override ∧ t.modes.rules = s.modes.rules ∧
    t.modes.hold = false ∧
    t.modes.kerb = (if s.veh.state = .fresh then
        (if s.veh.speed ≤ rulesKerbSpeed s.modes.rules then true
         else if rulesKerbRelease s.modes.rules < s.veh.speed then false else s.modes.kerb)
      else s.modes.kerb) ∧
    (t.modes.mode ≠ s.modes.mode → t.mgmt.status.getLsbD 23 = true ∧ t.modes.dwell = 0) ∧
    (t.modes.mode = s.modes.mode → t.mgmt.status.getLsbD 23 = s.mgmt.status.getLsbD 23) ∧
    (s.modes.hold = true →
      t.modes.mode = (if s.modes.mode = .panorama ∧ s.modes.bind.panorama = none then .standby else s.modes.mode) ∧
      (t.modes.mode = s.modes.mode → t.modes.dwell = s.modes.dwell)) ∧
    (s.modes.hold = false → s.store.boot.status = .running →
      (s.store.boot.due = none ∨ s.store.boot.offset < 12 + s.store.boot.length) →
      t.modes.mode = s.modes.mode ∧ t.modes.dwell = s.modes.dwell) ∧
    (s.modes.hold = false →
      (s.store.boot.status ≠ .running ∨
        (s.store.boot.due ≠ none ∧ 12 + s.store.boot.length ≤ s.store.boot.offset)) →
      ∀ turn : Bool, (turn = true ↔ s.veh.roleAsserted .nearsideIndicator = true ∧
          (s.veh.state ≠ .fresh ∨ s.veh.speed ≤ rulesTurnSpeed s.modes.rules)) →
      ∀ (reason desired : Mode) (rank₀ rank : Nat),
        ((s.veh.roleAsserted .liftActive = true ∧ reason = .lift ∧ rank₀ = 1) ∨
          (s.veh.roleAsserted .liftActive = false ∧ turn = true ∧ reason = .turn ∧ rank₀ = 2) ∨
          (s.veh.roleAsserted .liftActive = false ∧ turn = false ∧ t.modes.kerb = true ∧ reason = .kerb ∧ rank₀ = 3) ∨
          (s.veh.roleAsserted .liftActive = false ∧ turn = false ∧ t.modes.kerb = false ∧ s.modes.override = some reason ∧
            rank₀ = 4) ∨
          (s.veh.roleAsserted .liftActive = false ∧ turn = false ∧ t.modes.kerb = false ∧ s.modes.override = none ∧
            reason = .panorama ∧ rank₀ = 5)) →
        ((s.modes.bind.of reason ≠ none ∧ desired = reason ∧ rank = rank₀) ∨
          (s.modes.bind.of reason = none ∧ s.modes.bind.panorama ≠ none ∧ desired = .panorama ∧ rank = 5) ∨
          (s.modes.bind.of reason = none ∧ s.modes.bind.panorama = none ∧ desired = .standby ∧ rank = 5)) →
        (s.modes.mode = .panorama ∨ s.modes.mode = .standby → t.modes.mode = desired) ∧
        ∀ (own dwell : Nat),
          (s.modes.mode = .lift ∧ own = 1) ∨ (s.modes.mode = .turn ∧ own = 2) ∨ (s.modes.mode = .kerb ∧ own = 3) →
          dwell = (if (s.modes.mode = .lift ∧ s.veh.roleAsserted .liftActive = true) ∨ (s.modes.mode = .turn ∧ turn = true) ∨
              (s.modes.mode = .kerb ∧ t.modes.kerb = true) ∨ s.modes.override = some s.modes.mode then 0
            else min 255 (s.modes.dwell + 1)) →
          (s.modes.bind.of s.modes.mode ≠ none →
            (desired = s.modes.mode ∨ (own ≤ rank ∧ dwell < rulesDwell s.modes.rules)) →
            t.modes.mode = s.modes.mode ∧ t.modes.dwell = dwell) ∧
          (s.modes.bind.of s.modes.mode = none ∨ (desired ≠ s.modes.mode ∧ (rank < own ∨ rulesDwell s.modes.rules ≤ dwell)) →
            t.modes.mode = .panorama))

/-- A table that waits APPLYING takes effect at the turnover: it is the content in force after it, its LOAD-END is
answered DONE, and the context is IDLE (R164, R8, R6, R60, R93, R81, R89, R96, R103). With no table due, the pending
element list is applied in its order and every entry is answered DONE in that order (R96); a cleared record is kind NONE
with every other byte 0, of which those behind the common fields are the model's choice (log 30). Check Windows clear
the last signature and the repeat count (R6; the number of the set is the model's own, log 20); a Band Table has the
current band chosen afresh (R129); an OVERLAY table makes every pending entry SUPERSEDED, in list order and before the
LOAD-END's DONE (R96); Mode Rules are in force for the choice of this turnover (R103). Boot's due table is applied
likewise, and boot then asks for the next entry, or, after the last, ends (R174). -/
def Obligations.TurnoverAppliesTablesAndElements : Prop :=
  (∀ s : State, s.mgmt.queue = [] → s.mgmt.load.st = .applying → s.store.boot.due = none →
    s.mgmt.load.dest.table.isLayout = false →
    contentCheck s.mgmt.load.dest.table s.mgmt.load.dest.content = none →
    ∃ t, exec .turnover s = .next t ∧ t.tableContent s.mgmt.load.dest = some s.mgmt.load.dest.content ∧
      t.mgmt.load.st = .idle ∧
      ⟨s.mgmt.load.ticket.tag, s.mgmt.load.ticket.kind, .done, []⟩ ∈ t.tx.header.responses ++ t.mgmt.filled ∧
      (∀ d, (t.tableContent d ≠ s.tableContent d ∧ d.table ≠ .overlay) → d.table = s.mgmt.load.dest.table)) ∧
  (∀ s : State, s.mgmt.queue = [] → s.mgmt.load.st ≠ .applying → s.store.boot.due = none → ChannelsConsistent s →
    ∃ t, exec .turnover s = .next t ∧ t.ovl.edits = [] ∧
      t.ovl.elements = s.ovl.edits.foldl
        (fun els e => els.set e.index (e.change.getD (List.replicate 32 0))) s.ovl.elements ∧
      t.tx.header.responses ++ t.mgmt.filled =
        s.mgmt.filled ++ s.ovl.edits.map fun e => ⟨e.ticket.tag, e.ticket.kind, .done, []⟩) ∧
  ∀ (s : State) (d : TableLoad), s.mgmt.queue = [] → s.dueTables = [d] → ∃ t, exec .turnover s = .next t ∧
    (d.table = .checkWindows → t.port d.cam = { s.port d.cam with
      windows := d.content, windowSet := (s.port d.cam).windowSet + 1, lastSig := none, repeats := 0
      ring := (t.port d.cam).ring }) ∧
    (d.table = .bands → ∀ edges, edges = (bandTableOf d.content).edges →
      t.ovl.bands = d.content ∧ t.veh.band ≤ edges.length ∧ (∀ k < t.veh.band, edges.getD k 0 ≤ s.veh.angle) ∧
      (t.veh.band < edges.length → s.veh.angle < edges.getD t.veh.band 0)) ∧
    (d.table = .overlay → ChannelsConsistent s →
      t.ovl.edits = [] ∧ t.ovl.elements.length = 64 ∧
      (∀ i < 64, t.ovl.elements.getD i [] = (d.content.drop (32 * i)).take 32) ∧
      t.tx.header.responses ++ t.mgmt.filled =
        s.mgmt.filled ++ (s.ovl.edits.map fun e => ⟨e.ticket.tag, e.ticket.kind, .superseded, []⟩) ++
          if s.mgmt.load.st = .applying then [⟨s.mgmt.load.ticket.tag, s.mgmt.load.ticket.kind, .done, []⟩] else []) ∧
    (d.table = .modeRules → s.store.boot.due = none →
      ∀ u, exec .turnover { s with modes.rules := d.content, mgmt.load.st := .idle } = .next u → t.modes = u.modes) ∧
    (s.store.boot.due = some d → (contentCheck d.table d.content = none →
      t.tableContent d = (if d.table.isLayout then s.tableContent d else some d.content)) ∧
      (s.store.boot.offset < 12 + s.store.boot.length → t.store = { s.store with
        access := s.store.access ++ [.bootEntry], boot := { s.store.boot with due := none } }) ∧
      (12 + s.store.boot.length ≤ s.store.boot.offset → t.store = { s.store with
        boot := { s.store.boot with
          due := none, status := if s.store.boot.failed = none then .loaded else .contentFail } }))

/-- A Camera Profile applied at a turnover (R4, R8, R67, R72, R140, R141), after the ring's reader: by the Enabled field
the port leaves OFF for ACQUIRING or ABSENT, goes to OFF with its frame in flight ended, or stays; a change raises
CAM-STATE. The cached exposure takes the start value, a waiting exposure write is withdrawn, the mark of one in flight
cleared, a waiting attention read kept with a status register alone; a status register newly named has a recorded
attention flag read at once. Runs and settle count count on from 0. A Balance Table (R60) takes effect after the gain
work of that turnover, done by the table before it (the nudge test too, by the model's reading, log 29): a reference
takes its manual gain, a follower keeps what the work left, a changed partner sets the runs to 0. What entry to OFF
keeps of the counts and the line writes is the model's reading (logs 22 and 28). -/
def Obligations.ProfileAndBalanceTableTakeEffect : Prop :=
  (∀ (s : State) (d : TableLoad) (old : Port) (base : Channel), s.mgmt.queue = [] → s.dueTables = [d] →
    d.table = .cameraProfile → PortsConsistent s → ChannelsConsistent s → old = s.port d.cam →
    base = { s.chan d.cam with
      exposure := none
      cached := (profileExposure d.content).map fun x => x.start
      attnWaiting := (s.chan d.cam).attnWaiting && (profileStatus d.content).isSome
      flight := (s.chan d.cam).flight.map fun t => { t with current := false } } →
    ∃ t, exec .turnover s = .next t ∧
      (profileEnabled d.content = profileEnabled old.profile →
        t.port d.cam = { old with profile := d.content, ring := (t.port d.cam).ring }) ∧
      (profileEnabled old.profile = false → profileEnabled d.content = true →
        (old.lock = true → t.port d.cam = { old with
          profile := d.content, ring := (t.port d.cam).ring, st := .acquiring, acquire := 0, repeats := 0
          staleness := .running 100 }) ∧
        (old.lock = false → t.port d.cam = { old with
          profile := d.content, ring := (t.port d.cam).ring, st := .absent, staleness := .stopped })) ∧
      (profileEnabled old.profile = true → profileEnabled d.content = false →
        t.port d.cam = { old with
          profile := d.content, ring := (t.port d.cam).ring, st := .off, flight := none, staleness := .stopped
          bufs := (t.port d.cam).bufs } ∧
        (old.flight = none → (t.port d.cam).bufs = old.bufs) ∧
        (∀ f, old.flight = some f →
          (t.port d.cam).bufs = keptLines (decide (s.dram.granted = some (.write d.cam))) f.slot old.bufs) ∧
        (∀ i, ((t.port d.cam).ring.get i).st = .free ∨ ((t.port d.cam).ring.get i).st = .reading) ∧
        (old.st = .live → ∀ i, (old.ring.get i).st = .ready →
          (t.port d.cam).ring.get i = ⟨.reading, (old.ring.get i).frameNo⟩)) ∧
      t.mgmt.status.getLsbD d.cam.val =
        (s.mgmt.status.getLsbD d.cam.val || decide ((t.port d.cam).st ≠ old.st)) ∧
      ((old.attention = false ∨ profileStatus old.profile ≠ none ∨ profileStatus d.content = none) →
        t.chan d.cam = base) ∧
      (∀ r, old.attention = true → profileStatus old.profile = none → profileStatus d.content = some r →
        ((base.active = true ∨ old.lock = true) → t.chan d.cam = base.askedRead d.content r) ∧
        (base.active = false → old.lock = false →
          t.chan d.cam = base ∧ t.mgmt.status.getLsbD (8 + d.cam.val) = true)) ∧
      (t.camBal d.cam).settle = 0 ∧
      (balancePartner s.bal.table d.cam = none → (t.camBal d.cam).high = 0 ∧ (t.camBal d.cam).low = 0) ∧
      ∀ p, balancePartner s.bal.table d.cam = some p →
        (t.camBal d.cam).high = (if s.targetComputed d.cam p ∧ 448 ≤ (t.camBal d.cam).target then 1 else 0) ∧
        (t.camBal d.cam).low = (if s.targetComputed d.cam p ∧ (t.camBal d.cam).target ≤ 160 then 1 else 0)) ∧
  ∀ (s u : State) (d : TableLoad), s.mgmt.queue = [] → s.dueTables = [d] → d.table = .balance →
    exec .turnover { s with mgmt.load.st := .idle, store.boot.due := none } = .next u →
    ∃ t, exec .turnover s = .next t ∧ t.bal.table = d.content ∧ t.chans = u.chans ∧
      ∀ c, (t.camBal c).settle = (u.camBal c).settle ∧
        (balancePartner d.content c = none →
          (t.camBal c).gain = balanceManual d.content c ∧ (t.camBal c).target = balanceManual d.content c) ∧
        (balancePartner d.content c ≠ none →
          (t.camBal c).gain = (u.camBal c).gain ∧ (t.camBal c).target = (u.camBal c).target) ∧
        (balancePartner d.content c ≠ balancePartner s.bal.table c → (t.camBal c).high = 0 ∧ (t.camBal c).low = 0) ∧
        (balancePartner d.content c = balancePartner s.bal.table c →
          (t.camBal c).high = (u.camBal c).high ∧ (t.camBal c).low = (u.camBal c).low)

/-! ## Composition and overlay arithmetic -/

/-- What an output pixel is (R39 to R48). The secondary weight is that of the ramp (R39): 0 before it, the rounded share
inside it, 256 past it, in 0..256 and never falling. With layout slot NONE every pixel is black (R40). Otherwise, in the
order of R40: a contributing camera that is not live makes it hatch (R41); a primary camera NONE, or an INVALID corner
in a contributing camera's grid, makes it black (R42); and else it is the primary's part, the secondary's part or their
blend by the weight (R48), each part sampled through the camera's grid with its gain (R43 to R47). A contributing
camera's grid stands in a VALID slot (R24). The output stage holds each value to its range (R50). -/
def Obligations.PixelsAreComposedByTheirRules : Prop :=
  (∀ (o : Int) (d : Nat) (p q : Int), d ≤ 255 →
    rampWeight o d p ≤ 256 ∧ (p ≤ q → rampWeight o d p ≤ rampWeight o d q) ∧
    (p < o → rampWeight o d p = 0) ∧ (o + (d : Int) ≤ p → rampWeight o d p = 256) ∧
    (0 < d → rampWeight o d o = 0) ∧ (p < o + (d : Int) → rampWeight o d p < 256) ∧
    (o ≤ p → p < o + (d : Int) → (rampWeight o d p : Int) = ((p - o) * 256 + (d / 2 : Nat)) / d)) ∧
  (∀ (plan : Plan) (slots : Quad LayoutSlot) (palette : List Byte) (fetch : Cam → Nat → Nat) (x y : Nat),
    x < 1024 → y < 576 →
    (plan.slot = none → compositorPixel plan slots palette fetch x y = ⟨16, 128, 128⟩) ∧
    ∀ (i : Fin 4) (map rec : List Byte) (w : Nat) (contributes : Cam → Prop),
      plan.slot = some i → (slots.get i).tileMap = some map → rec = (map.drop (6 * (y / 32 * 32 + x / 32))).take 6 →
      TileGood rec →
      w = (if byteAt rec 1 = 0xFF then 0
        else rampWeight (s16At rec 4) (byteAt rec 3) ((if byteAt rec 2 = 1 then y % 32 else x % 32 : Nat) : Int)) →
      (∀ c, contributes c ↔ (byteAt rec 0 = c.val ∧ w < 256) ∨ (byteAt rec 1 = c.val ∧ 0 < w)) →
      ((∃ c, contributes c ∧ plan.live.get c = false) →
        compositorPixel plan slots palette fetch x y =
          if (x + y) / 8 % 2 = 0 then ⟨byteAt palette 0, byteAt palette 1, byteAt palette 2⟩ else ⟨16, 128, 128⟩) ∧
      (byteAt rec 0 = 0xFF → compositorPixel plan slots palette fetch x y = ⟨16, 128, 128⟩) ∧
      ∀ (grid : Cam → List Byte) (part : Cam → Pix),
        (∀ c, contributes c → plan.live.get c = true ∧ (slots.get i).grids.get c = some (grid c)) →
        (∀ c, part c = cameraPart (plan.gain.get c) (grid c) (fetch c) x y) →
        ((∃ c, contributes c ∧ CornerInvalid (grid c) x y) →
          compositorPixel plan slots palette fetch x y = ⟨16, 128, 128⟩) ∧
        ((∀ c, contributes c → ¬CornerInvalid (grid c) x y) → ∀ p : Cam, byteAt rec 0 = p.val →
          (w = 0 → compositorPixel plan slots palette fetch x y = part p) ∧
          ∀ q : Cam, byteAt rec 1 = q.val →
            (w = 256 → compositorPixel plan slots palette fetch x y = part q) ∧
            (0 < w → w < 256 → compositorPixel plan slots palette fetch x y =
              ⟨((part p).y * (256 - w) + (part q).y * w + 128) / 256,
                ((part p).cb * (256 - w) + (part q).cb * w + 128) / 256,
                ((part p).cr * (256 - w) + (part q).cr * w + 128) / 256⟩))) ∧
  ∀ u : Pix, holdPixel u =
    ⟨if u.y < 16 then 16 else if 235 < u.y then 235 else u.y,
      if u.cb < 16 then 16 else if 240 < u.cb then 240 else u.cb,
      if u.cr < 16 then 16 else if 240 < u.cr then 240 else u.cr⟩

/-- Which elements a frame shows, in what order, and what each draws. An element record that passes the element check is
shown exactly when its conditions hold (R79) and its kind's own test passes, with the appearance that the test gives
(R80, R83, R85, R86, R90, R91); the draw list holds the shown elements, each once, by layer and then by index (R80), and
the near indication says whether one is a ZONE in the near class (R87). A GUIDE covers the pixels of its drawn steps
(R84, R85); a ZONE its rectangle or the pixels within 2 of its edge (R87); an ICON the glyph pixels whose code is not 0,
each with that code (R90); a FRAME the pixels within Border of its edge, the whole of a rectangle whose width or height
is at most twice its Border (R91). The entries composite in list order, each by the alpha of its palette entry (R82). -/
def Obligations.ElementsAreShownOrderedAndDrawn : Prop :=
  (∀ (v : FrameView) (t : BandTable) (glyphs rec : List Byte) (index : Nat) (e : DrawEntry),
    ElementGood rec → contentCheck .glyphs glyphs = none →
    (shownEntry v t glyphs index rec = some e ↔
      ElementConditions v rec ∧ e.index = index ∧ e.record = rec ∧ ElementTakes v t glyphs rec e.look)) ∧
  (∀ (v : FrameView) (t : BandTable) (glyphs : List Byte) (elements : List (List Byte)) (entries : List DrawEntry),
    elements.length = 64 → (∀ rec ∈ elements, elementOk rec = true) →
    entries = buildDrawList v t glyphs elements →
    (∀ e, e ∈ entries ↔ e.index < 64 ∧ shownEntry v t glyphs e.index (elements.getD e.index []) = some e) ∧
    entries.Pairwise (fun a b => byteAt a.record 1 < byteAt b.record 1 ∨
      (byteAt a.record 1 = byteAt b.record 1 ∧ a.index < b.index)) ∧
    (nearOf entries = true ↔ ∃ e ∈ entries, ∃ colour rect filled, e.look = .zone .near colour rect filled)) ∧
  (∀ (colour width : Nat) (dashed : Bool) (points : List (Int × Int)) (x y : Int) (i : Nat),
    (Look.guide colour dashed width points).colourAt x y = some i ↔ i = colour ∧ GuidePixel dashed width points x y) ∧
  (∀ (cls : ZoneClass) (colour : Nat) (r : Rect) (filled : Bool) (x y : Int) (i : Nat),
    (Look.zone cls colour r filled).colourAt x y = some i ↔ i = colour ∧ InRect r x y ∧
      (filled = true ∨ x ≤ r.left + 1 ∨ r.left + r.width - 2 ≤ x ∨ y ≤ r.top + 1 ∨ r.top + r.height - 2 ≤ y)) ∧
  (∀ (px py x y : Int) (g : Glyph) (i : Nat),
    (Look.icon px py g).colourAt x y = some i ↔ ∃ u < g.width, ∃ v < g.height, x = px + (u : Nat) ∧ y = py + (v : Nat) ∧
      i = g.codes.getD (v * g.width + u) 0 ∧ i ≠ 0) ∧
  (∀ (colour : Nat) (r : Rect) (border : Nat) (x y : Int) (i : Nat),
    ((Look.frame colour r border).colourAt x y = some i ↔ i = colour ∧ InRect r x y ∧
      (x < r.left + border ∨ r.left + r.width - 1 - border < x ∨ y < r.top + border ∨
        r.top + r.height - 1 - border < y)) ∧
    (r.width ≤ 2 * border ∨ r.height ≤ 2 * border → InRect r x y →
      (Look.frame colour r border).colourAt x y = some colour)) ∧
  ∀ (palette : List Byte) (x y : Nat) (u : Pix), contentCheck .palette palette = none →
    drawList palette [] x y u = u ∧
    ∀ (e : DrawEntry) (entries : List DrawEntry),
      (e.look.colourAt x y = none → drawList palette (e :: entries) x y u = drawList palette entries x y u) ∧
      ∀ i a, e.look.colourAt x y = some i → a = byteAt palette (4 * i + 3) →
        drawList palette (e :: entries) x y u = drawList palette entries x y
          ⟨(u.y * (16 - a) + byteAt palette (4 * i) * a + 8) / 16,
            (u.cb * (16 - a) + byteAt palette (4 * i + 1) * a + 8) / 16,
            (u.cr * (16 - a) + byteAt palette (4 * i + 2) * a + 8) / 16⟩
end

