-- ==== Sys2Proof/Laws/State.lean ====
section
/-! SUPPORT. One lemma per field per update of the state, each true by unfolding the update, so that no later proof does. -/

namespace Sys2Proof.Machine

variable (s : State)

/-! ## State.raise -/

@[simp] theorem State.raise_ports (n : Nat) : (s.raise n).ports = s.ports := rfl
@[simp] theorem State.raise_dram (n : Nat) : (s.raise n).dram = s.dram := rfl
@[simp] theorem State.raise_layouts (n : Nat) : (s.raise n).layouts = s.layouts := rfl
@[simp] theorem State.raise_comp (n : Nat) : (s.raise n).comp = s.comp := rfl
@[simp] theorem State.raise_bal (n : Nat) : (s.raise n).bal = s.bal := rfl
@[simp] theorem State.raise_ovl (n : Nat) : (s.raise n).ovl = s.ovl := rfl
@[simp] theorem State.raise_modes (n : Nat) : (s.raise n).modes = s.modes := rfl
@[simp] theorem State.raise_veh (n : Nat) : (s.raise n).veh = s.veh := rfl
@[simp] theorem State.raise_chans (n : Nat) : (s.raise n).chans = s.chans := rfl
@[simp] theorem State.raise_tx (n : Nat) : (s.raise n).tx = s.tx := rfl
@[simp] theorem State.raise_store (n : Nat) : (s.raise n).store = s.store := rfl
@[simp] theorem State.raise_freeCount (n : Nat) : (s.raise n).freeCount = s.freeCount := rfl
@[simp] theorem State.raise_pending (n : Nat) : (s.raise n).pending = s.pending := rfl
@[simp] theorem State.raise_mgmt_queue (n : Nat) : (s.raise n).mgmt.queue = s.mgmt.queue := rfl
@[simp] theorem State.raise_mgmt_hold (n : Nat) : (s.raise n).mgmt.hold = s.mgmt.hold := rfl
@[simp] theorem State.raise_mgmt_lost (n : Nat) : (s.raise n).mgmt.lost = s.mgmt.lost := rfl
@[simp] theorem State.raise_mgmt_reserved (n : Nat) : (s.raise n).mgmt.reserved = s.mgmt.reserved := rfl
@[simp] theorem State.raise_mgmt_filled (n : Nat) : (s.raise n).mgmt.filled = s.mgmt.filled := rfl
@[simp] theorem State.raise_mgmt_load (n : Nat) : (s.raise n).mgmt.load = s.mgmt.load := rfl
@[simp] theorem State.raise_mgmt_enable (n : Nat) : (s.raise n).mgmt.enable = s.mgmt.enable := rfl

/-! ## State.setPort -/

@[simp] theorem State.setPort_dram (p : Cam) (v : Port) : (s.setPort p v).dram = s.dram := rfl
@[simp] theorem State.setPort_layouts (p : Cam) (v : Port) : (s.setPort p v).layouts = s.layouts := rfl
@[simp] theorem State.setPort_comp (p : Cam) (v : Port) : (s.setPort p v).comp = s.comp := rfl
@[simp] theorem State.setPort_bal (p : Cam) (v : Port) : (s.setPort p v).bal = s.bal := rfl
@[simp] theorem State.setPort_ovl (p : Cam) (v : Port) : (s.setPort p v).ovl = s.ovl := rfl
@[simp] theorem State.setPort_modes (p : Cam) (v : Port) : (s.setPort p v).modes = s.modes := rfl
@[simp] theorem State.setPort_veh (p : Cam) (v : Port) : (s.setPort p v).veh = s.veh := rfl
@[simp] theorem State.setPort_chans (p : Cam) (v : Port) : (s.setPort p v).chans = s.chans := rfl
@[simp] theorem State.setPort_tx (p : Cam) (v : Port) : (s.setPort p v).tx = s.tx := rfl
@[simp] theorem State.setPort_mgmt (p : Cam) (v : Port) : (s.setPort p v).mgmt = s.mgmt := rfl
@[simp] theorem State.setPort_store (p : Cam) (v : Port) : (s.setPort p v).store = s.store := rfl
@[simp] theorem State.setPort_freeCount (p : Cam) (v : Port) : (s.setPort p v).freeCount = s.freeCount := rfl
@[simp] theorem State.setPort_pending (p : Cam) (v : Port) : (s.setPort p v).pending = s.pending := rfl

/-! ## State.setChan -/

@[simp] theorem State.setChan_ports (p : Cam) (v : Channel) : (s.setChan p v).ports = s.ports := rfl
@[simp] theorem State.setChan_dram (p : Cam) (v : Channel) : (s.setChan p v).dram = s.dram := rfl
@[simp] theorem State.setChan_layouts (p : Cam) (v : Channel) : (s.setChan p v).layouts = s.layouts := rfl
@[simp] theorem State.setChan_comp (p : Cam) (v : Channel) : (s.setChan p v).comp = s.comp := rfl
@[simp] theorem State.setChan_bal (p : Cam) (v : Channel) : (s.setChan p v).bal = s.bal := rfl
@[simp] theorem State.setChan_ovl (p : Cam) (v : Channel) : (s.setChan p v).ovl = s.ovl := rfl
@[simp] theorem State.setChan_modes (p : Cam) (v : Channel) : (s.setChan p v).modes = s.modes := rfl
@[simp] theorem State.setChan_veh (p : Cam) (v : Channel) : (s.setChan p v).veh = s.veh := rfl
@[simp] theorem State.setChan_tx (p : Cam) (v : Channel) : (s.setChan p v).tx = s.tx := rfl
@[simp] theorem State.setChan_mgmt (p : Cam) (v : Channel) : (s.setChan p v).mgmt = s.mgmt := rfl
@[simp] theorem State.setChan_store (p : Cam) (v : Channel) : (s.setChan p v).store = s.store := rfl
@[simp] theorem State.setChan_freeCount (p : Cam) (v : Channel) : (s.setChan p v).freeCount = s.freeCount := rfl
@[simp] theorem State.setChan_pending (p : Cam) (v : Channel) : (s.setChan p v).pending = s.pending := rfl

/-! ## State.setBal -/

@[simp] theorem State.setBal_ports (c : Cam) (v : Balance) : (s.setBal c v).ports = s.ports := rfl
@[simp] theorem State.setBal_dram (c : Cam) (v : Balance) : (s.setBal c v).dram = s.dram := rfl
@[simp] theorem State.setBal_layouts (c : Cam) (v : Balance) : (s.setBal c v).layouts = s.layouts := rfl
@[simp] theorem State.setBal_comp (c : Cam) (v : Balance) : (s.setBal c v).comp = s.comp := rfl
@[simp] theorem State.setBal_ovl (c : Cam) (v : Balance) : (s.setBal c v).ovl = s.ovl := rfl
@[simp] theorem State.setBal_modes (c : Cam) (v : Balance) : (s.setBal c v).modes = s.modes := rfl
@[simp] theorem State.setBal_veh (c : Cam) (v : Balance) : (s.setBal c v).veh = s.veh := rfl
@[simp] theorem State.setBal_chans (c : Cam) (v : Balance) : (s.setBal c v).chans = s.chans := rfl
@[simp] theorem State.setBal_tx (c : Cam) (v : Balance) : (s.setBal c v).tx = s.tx := rfl
@[simp] theorem State.setBal_mgmt (c : Cam) (v : Balance) : (s.setBal c v).mgmt = s.mgmt := rfl
@[simp] theorem State.setBal_store (c : Cam) (v : Balance) : (s.setBal c v).store = s.store := rfl
@[simp] theorem State.setBal_freeCount (c : Cam) (v : Balance) : (s.setBal c v).freeCount = s.freeCount := rfl
@[simp] theorem State.setBal_pending (c : Cam) (v : Balance) : (s.setBal c v).pending = s.pending := rfl
@[simp] theorem State.setBal_bal_table (c : Cam) (v : Balance) : (s.setBal c v).bal.table = s.bal.table := rfl

/-! ## State.setLine -/

@[simp] theorem State.setLine_ports (l : Fin 8) (v : Line) : (s.setLine l v).ports = s.ports := rfl
@[simp] theorem State.setLine_dram (l : Fin 8) (v : Line) : (s.setLine l v).dram = s.dram := rfl
@[simp] theorem State.setLine_layouts (l : Fin 8) (v : Line) : (s.setLine l v).layouts = s.layouts := rfl
@[simp] theorem State.setLine_comp (l : Fin 8) (v : Line) : (s.setLine l v).comp = s.comp := rfl
@[simp] theorem State.setLine_bal (l : Fin 8) (v : Line) : (s.setLine l v).bal = s.bal := rfl
@[simp] theorem State.setLine_ovl (l : Fin 8) (v : Line) : (s.setLine l v).ovl = s.ovl := rfl
@[simp] theorem State.setLine_modes (l : Fin 8) (v : Line) : (s.setLine l v).modes = s.modes := rfl
@[simp] theorem State.setLine_chans (l : Fin 8) (v : Line) : (s.setLine l v).chans = s.chans := rfl
@[simp] theorem State.setLine_tx (l : Fin 8) (v : Line) : (s.setLine l v).tx = s.tx := rfl
@[simp] theorem State.setLine_mgmt (l : Fin 8) (v : Line) : (s.setLine l v).mgmt = s.mgmt := rfl
@[simp] theorem State.setLine_store (l : Fin 8) (v : Line) : (s.setLine l v).store = s.store := rfl
@[simp] theorem State.setLine_freeCount (l : Fin 8) (v : Line) : (s.setLine l v).freeCount = s.freeCount := rfl
@[simp] theorem State.setLine_pending (l : Fin 8) (v : Line) : (s.setLine l v).pending = s.pending := rfl
@[simp] theorem State.setLine_veh_state (l : Fin 8) (v : Line) : (s.setLine l v).veh.state = s.veh.state := rfl
@[simp] theorem State.setLine_veh_seq (l : Fin 8) (v : Line) : (s.setLine l v).veh.seq = s.veh.seq := rfl
@[simp] theorem State.setLine_veh_angle (l : Fin 8) (v : Line) : (s.setLine l v).veh.angle = s.veh.angle := rfl
@[simp] theorem State.setLine_veh_speed (l : Fin 8) (v : Line) : (s.setLine l v).veh.speed = s.veh.speed := rfl
@[simp] theorem State.setLine_veh_sensors (l : Fin 8) (v : Line) : (s.setLine l v).veh.sensors = s.veh.sensors := rfl
@[simp] theorem State.setLine_veh_band (l : Fin 8) (v : Line) : (s.setLine l v).veh.band = s.veh.band := rfl
@[simp] theorem State.setLine_veh_staleTimer (l : Fin 8) (v : Line) : (s.setLine l v).veh.staleTimer = s.veh.staleTimer := rfl
@[simp] theorem State.setLine_veh_lostTimer (l : Fin 8) (v : Line) : (s.setLine l v).veh.lostTimer = s.veh.lostTimer := rfl
@[simp] theorem State.setLine_veh_sentMode (l : Fin 8) (v : Line) : (s.setLine l v).veh.sentMode = s.veh.sentMode := rfl
@[simp] theorem State.setLine_veh_near (l : Fin 8) (v : Line) : (s.setLine l v).veh.near = s.veh.near := rfl

/-! ## State.answerWith -/

@[simp] theorem State.answerWith_ports (t : Ticket) (r : Result) (data : List Byte) : (s.answerWith t r data).ports = s.ports := rfl
@[simp] theorem State.answerWith_dram (t : Ticket) (r : Result) (data : List Byte) : (s.answerWith t r data).dram = s.dram := rfl
@[simp] theorem State.answerWith_layouts (t : Ticket) (r : Result) (data : List Byte) : (s.answerWith t r data).layouts = s.layouts := rfl
@[simp] theorem State.answerWith_comp (t : Ticket) (r : Result) (data : List Byte) : (s.answerWith t r data).comp = s.comp := rfl
@[simp] theorem State.answerWith_bal (t : Ticket) (r : Result) (data : List Byte) : (s.answerWith t r data).bal = s.bal := rfl
@[simp] theorem State.answerWith_ovl (t : Ticket) (r : Result) (data : List Byte) : (s.answerWith t r data).ovl = s.ovl := rfl
@[simp] theorem State.answerWith_modes (t : Ticket) (r : Result) (data : List Byte) : (s.answerWith t r data).modes = s.modes := rfl
@[simp] theorem State.answerWith_veh (t : Ticket) (r : Result) (data : List Byte) : (s.answerWith t r data).veh = s.veh := rfl
@[simp] theorem State.answerWith_chans (t : Ticket) (r : Result) (data : List Byte) : (s.answerWith t r data).chans = s.chans := rfl
@[simp] theorem State.answerWith_tx (t : Ticket) (r : Result) (data : List Byte) : (s.answerWith t r data).tx = s.tx := rfl
@[simp] theorem State.answerWith_store (t : Ticket) (r : Result) (data : List Byte) : (s.answerWith t r data).store = s.store := rfl
@[simp] theorem State.answerWith_freeCount (t : Ticket) (r : Result) (data : List Byte) : (s.answerWith t r data).freeCount = s.freeCount := rfl
@[simp] theorem State.answerWith_pending (t : Ticket) (r : Result) (data : List Byte) : (s.answerWith t r data).pending = s.pending := rfl
@[simp] theorem State.answerWith_mgmt_queue (t : Ticket) (r : Result) (data : List Byte) : (s.answerWith t r data).mgmt.queue = s.mgmt.queue := rfl
@[simp] theorem State.answerWith_mgmt_hold (t : Ticket) (r : Result) (data : List Byte) : (s.answerWith t r data).mgmt.hold = s.mgmt.hold := rfl
@[simp] theorem State.answerWith_mgmt_lost (t : Ticket) (r : Result) (data : List Byte) : (s.answerWith t r data).mgmt.lost = s.mgmt.lost := rfl
@[simp] theorem State.answerWith_mgmt_load (t : Ticket) (r : Result) (data : List Byte) : (s.answerWith t r data).mgmt.load = s.mgmt.load := rfl
@[simp] theorem State.answerWith_mgmt_status (t : Ticket) (r : Result) (data : List Byte) : (s.answerWith t r data).mgmt.status = s.mgmt.status := rfl
@[simp] theorem State.answerWith_mgmt_enable (t : Ticket) (r : Result) (data : List Byte) : (s.answerWith t r data).mgmt.enable = s.mgmt.enable := rfl

/-! ## State.responded -/

@[simp] theorem State.responded_ports (tag kind : Byte) (r : Result) (data : List Byte) : (s.responded tag kind r data).ports = s.ports := rfl
@[simp] theorem State.responded_dram (tag kind : Byte) (r : Result) (data : List Byte) : (s.responded tag kind r data).dram = s.dram := rfl
@[simp] theorem State.responded_layouts (tag kind : Byte) (r : Result) (data : List Byte) : (s.responded tag kind r data).layouts = s.layouts := rfl
@[simp] theorem State.responded_comp (tag kind : Byte) (r : Result) (data : List Byte) : (s.responded tag kind r data).comp = s.comp := rfl
@[simp] theorem State.responded_bal (tag kind : Byte) (r : Result) (data : List Byte) : (s.responded tag kind r data).bal = s.bal := rfl
@[simp] theorem State.responded_ovl (tag kind : Byte) (r : Result) (data : List Byte) : (s.responded tag kind r data).ovl = s.ovl := rfl
@[simp] theorem State.responded_modes (tag kind : Byte) (r : Result) (data : List Byte) : (s.responded tag kind r data).modes = s.modes := rfl
@[simp] theorem State.responded_veh (tag kind : Byte) (r : Result) (data : List Byte) : (s.responded tag kind r data).veh = s.veh := rfl
@[simp] theorem State.responded_chans (tag kind : Byte) (r : Result) (data : List Byte) : (s.responded tag kind r data).chans = s.chans := rfl
@[simp] theorem State.responded_tx (tag kind : Byte) (r : Result) (data : List Byte) : (s.responded tag kind r data).tx = s.tx := rfl
@[simp] theorem State.responded_store (tag kind : Byte) (r : Result) (data : List Byte) : (s.responded tag kind r data).store = s.store := rfl
@[simp] theorem State.responded_freeCount (tag kind : Byte) (r : Result) (data : List Byte) : (s.responded tag kind r data).freeCount = s.freeCount := rfl
@[simp] theorem State.responded_pending (tag kind : Byte) (r : Result) (data : List Byte) : (s.responded tag kind r data).pending = s.pending := rfl
@[simp] theorem State.responded_mgmt_queue (tag kind : Byte) (r : Result) (data : List Byte) : (s.responded tag kind r data).mgmt.queue = s.mgmt.queue := rfl
@[simp] theorem State.responded_mgmt_hold (tag kind : Byte) (r : Result) (data : List Byte) : (s.responded tag kind r data).mgmt.hold = s.mgmt.hold := rfl
@[simp] theorem State.responded_mgmt_lost (tag kind : Byte) (r : Result) (data : List Byte) : (s.responded tag kind r data).mgmt.lost = s.mgmt.lost := rfl
@[simp] theorem State.responded_mgmt_reserved (tag kind : Byte) (r : Result) (data : List Byte) : (s.responded tag kind r data).mgmt.reserved = s.mgmt.reserved := rfl
@[simp] theorem State.responded_mgmt_load (tag kind : Byte) (r : Result) (data : List Byte) : (s.responded tag kind r data).mgmt.load = s.mgmt.load := rfl
@[simp] theorem State.responded_mgmt_status (tag kind : Byte) (r : Result) (data : List Byte) : (s.responded tag kind r data).mgmt.status = s.mgmt.status := rfl
@[simp] theorem State.responded_mgmt_enable (tag kind : Byte) (r : Result) (data : List Byte) : (s.responded tag kind r data).mgmt.enable = s.mgmt.enable := rfl

/-! ## State.closeLoad -/

@[simp] theorem State.closeLoad_ports : (s.closeLoad).ports = s.ports := rfl
@[simp] theorem State.closeLoad_dram : (s.closeLoad).dram = s.dram := rfl
@[simp] theorem State.closeLoad_layouts : (s.closeLoad).layouts = s.layouts := rfl
@[simp] theorem State.closeLoad_comp : (s.closeLoad).comp = s.comp := rfl
@[simp] theorem State.closeLoad_bal : (s.closeLoad).bal = s.bal := rfl
@[simp] theorem State.closeLoad_ovl : (s.closeLoad).ovl = s.ovl := rfl
@[simp] theorem State.closeLoad_modes : (s.closeLoad).modes = s.modes := rfl
@[simp] theorem State.closeLoad_veh : (s.closeLoad).veh = s.veh := rfl
@[simp] theorem State.closeLoad_chans : (s.closeLoad).chans = s.chans := rfl
@[simp] theorem State.closeLoad_tx : (s.closeLoad).tx = s.tx := rfl
@[simp] theorem State.closeLoad_store : (s.closeLoad).store = s.store := rfl
@[simp] theorem State.closeLoad_freeCount : (s.closeLoad).freeCount = s.freeCount := rfl
@[simp] theorem State.closeLoad_pending : (s.closeLoad).pending = s.pending := rfl
@[simp] theorem State.closeLoad_mgmt_queue : (s.closeLoad).mgmt.queue = s.mgmt.queue := rfl
@[simp] theorem State.closeLoad_mgmt_hold : (s.closeLoad).mgmt.hold = s.mgmt.hold := rfl
@[simp] theorem State.closeLoad_mgmt_lost : (s.closeLoad).mgmt.lost = s.mgmt.lost := rfl
@[simp] theorem State.closeLoad_mgmt_reserved : (s.closeLoad).mgmt.reserved = s.mgmt.reserved := rfl
@[simp] theorem State.closeLoad_mgmt_filled : (s.closeLoad).mgmt.filled = s.mgmt.filled := rfl
@[simp] theorem State.closeLoad_mgmt_status : (s.closeLoad).mgmt.status = s.mgmt.status := rfl
@[simp] theorem State.closeLoad_mgmt_enable : (s.closeLoad).mgmt.enable = s.mgmt.enable := rfl

/-! ## State.setLayout -/

@[simp] theorem State.setLayout_ports (i : Fin 4) (l : LayoutSlot) : (s.setLayout i l).ports = s.ports := rfl
@[simp] theorem State.setLayout_dram (i : Fin 4) (l : LayoutSlot) : (s.setLayout i l).dram = s.dram := rfl
@[simp] theorem State.setLayout_comp (i : Fin 4) (l : LayoutSlot) : (s.setLayout i l).comp = s.comp := rfl
@[simp] theorem State.setLayout_bal (i : Fin 4) (l : LayoutSlot) : (s.setLayout i l).bal = s.bal := rfl
@[simp] theorem State.setLayout_ovl (i : Fin 4) (l : LayoutSlot) : (s.setLayout i l).ovl = s.ovl := rfl
@[simp] theorem State.setLayout_modes (i : Fin 4) (l : LayoutSlot) : (s.setLayout i l).modes = s.modes := rfl
@[simp] theorem State.setLayout_veh (i : Fin 4) (l : LayoutSlot) : (s.setLayout i l).veh = s.veh := rfl
@[simp] theorem State.setLayout_chans (i : Fin 4) (l : LayoutSlot) : (s.setLayout i l).chans = s.chans := rfl
@[simp] theorem State.setLayout_tx (i : Fin 4) (l : LayoutSlot) : (s.setLayout i l).tx = s.tx := rfl
@[simp] theorem State.setLayout_mgmt (i : Fin 4) (l : LayoutSlot) : (s.setLayout i l).mgmt = s.mgmt := rfl
@[simp] theorem State.setLayout_store (i : Fin 4) (l : LayoutSlot) : (s.setLayout i l).store = s.store := rfl
@[simp] theorem State.setLayout_freeCount (i : Fin 4) (l : LayoutSlot) : (s.setLayout i l).freeCount = s.freeCount := rfl
@[simp] theorem State.setLayout_pending (i : Fin 4) (l : LayoutSlot) : (s.setLayout i l).pending = s.pending := rfl
@[simp] theorem State.setLayout_layouts_inUse (i : Fin 4) (l : LayoutSlot) : (s.setLayout i l).layouts.inUse = s.layouts.inUse := rfl

/-! ## State.setBoot -/

@[simp] theorem State.setBoot_ports (b : Boot) : (s.setBoot b).ports = s.ports := rfl
@[simp] theorem State.setBoot_dram (b : Boot) : (s.setBoot b).dram = s.dram := rfl
@[simp] theorem State.setBoot_layouts (b : Boot) : (s.setBoot b).layouts = s.layouts := rfl
@[simp] theorem State.setBoot_comp (b : Boot) : (s.setBoot b).comp = s.comp := rfl
@[simp] theorem State.setBoot_bal (b : Boot) : (s.setBoot b).bal = s.bal := rfl
@[simp] theorem State.setBoot_ovl (b : Boot) : (s.setBoot b).ovl = s.ovl := rfl
@[simp] theorem State.setBoot_modes (b : Boot) : (s.setBoot b).modes = s.modes := rfl
@[simp] theorem State.setBoot_veh (b : Boot) : (s.setBoot b).veh = s.veh := rfl
@[simp] theorem State.setBoot_chans (b : Boot) : (s.setBoot b).chans = s.chans := rfl
@[simp] theorem State.setBoot_tx (b : Boot) : (s.setBoot b).tx = s.tx := rfl
@[simp] theorem State.setBoot_mgmt (b : Boot) : (s.setBoot b).mgmt = s.mgmt := rfl
@[simp] theorem State.setBoot_freeCount (b : Boot) : (s.setBoot b).freeCount = s.freeCount := rfl
@[simp] theorem State.setBoot_pending (b : Boot) : (s.setBoot b).pending = s.pending := rfl
@[simp] theorem State.setBoot_store_mem (b : Boot) : (s.setBoot b).store.mem = s.store.mem := rfl
@[simp] theorem State.setBoot_store_access (b : Boot) : (s.setBoot b).store.access = s.store.access := rfl
@[simp] theorem State.setBoot_store_writing (b : Boot) : (s.setBoot b).store.writing = s.store.writing := rfl
@[simp] theorem State.setBoot_store_writeTimer (b : Boot) : (s.setBoot b).store.writeTimer = s.store.writeTimer := rfl
@[simp] theorem State.setBoot_store_bootWait (b : Boot) : (s.setBoot b).store.bootWait = s.store.bootWait := rfl

/-! ## State.pushAccess -/

@[simp] theorem State.pushAccess_ports (a : Access) : (s.pushAccess a).ports = s.ports := rfl
@[simp] theorem State.pushAccess_dram (a : Access) : (s.pushAccess a).dram = s.dram := rfl
@[simp] theorem State.pushAccess_layouts (a : Access) : (s.pushAccess a).layouts = s.layouts := rfl
@[simp] theorem State.pushAccess_comp (a : Access) : (s.pushAccess a).comp = s.comp := rfl
@[simp] theorem State.pushAccess_bal (a : Access) : (s.pushAccess a).bal = s.bal := rfl
@[simp] theorem State.pushAccess_ovl (a : Access) : (s.pushAccess a).ovl = s.ovl := rfl
@[simp] theorem State.pushAccess_modes (a : Access) : (s.pushAccess a).modes = s.modes := rfl
@[simp] theorem State.pushAccess_veh (a : Access) : (s.pushAccess a).veh = s.veh := rfl
@[simp] theorem State.pushAccess_chans (a : Access) : (s.pushAccess a).chans = s.chans := rfl
@[simp] theorem State.pushAccess_tx (a : Access) : (s.pushAccess a).tx = s.tx := rfl
@[simp] theorem State.pushAccess_mgmt (a : Access) : (s.pushAccess a).mgmt = s.mgmt := rfl
@[simp] theorem State.pushAccess_freeCount (a : Access) : (s.pushAccess a).freeCount = s.freeCount := rfl
@[simp] theorem State.pushAccess_pending (a : Access) : (s.pushAccess a).pending = s.pending := rfl
@[simp] theorem State.pushAccess_store_mem (a : Access) : (s.pushAccess a).store.mem = s.store.mem := rfl
@[simp] theorem State.pushAccess_store_writing (a : Access) : (s.pushAccess a).store.writing = s.store.writing := rfl
@[simp] theorem State.pushAccess_store_writeTimer (a : Access) : (s.pushAccess a).store.writeTimer = s.store.writeTimer := rfl
@[simp] theorem State.pushAccess_store_bootWait (a : Access) : (s.pushAccess a).store.bootWait = s.store.bootWait := rfl
@[simp] theorem State.pushAccess_store_boot (a : Access) : (s.pushAccess a).store.boot = s.store.boot := rfl

/-! ## State.popRequest -/

@[simp] theorem State.popRequest_ports (rest : List Request) : (s.popRequest rest).ports = s.ports := rfl
@[simp] theorem State.popRequest_dram (rest : List Request) : (s.popRequest rest).dram = s.dram := rfl
@[simp] theorem State.popRequest_layouts (rest : List Request) : (s.popRequest rest).layouts = s.layouts := rfl
@[simp] theorem State.popRequest_comp (rest : List Request) : (s.popRequest rest).comp = s.comp := rfl
@[simp] theorem State.popRequest_bal (rest : List Request) : (s.popRequest rest).bal = s.bal := rfl
@[simp] theorem State.popRequest_ovl (rest : List Request) : (s.popRequest rest).ovl = s.ovl := rfl
@[simp] theorem State.popRequest_modes (rest : List Request) : (s.popRequest rest).modes = s.modes := rfl
@[simp] theorem State.popRequest_veh (rest : List Request) : (s.popRequest rest).veh = s.veh := rfl
@[simp] theorem State.popRequest_chans (rest : List Request) : (s.popRequest rest).chans = s.chans := rfl
@[simp] theorem State.popRequest_tx (rest : List Request) : (s.popRequest rest).tx = s.tx := rfl
@[simp] theorem State.popRequest_store (rest : List Request) : (s.popRequest rest).store = s.store := rfl
@[simp] theorem State.popRequest_freeCount (rest : List Request) : (s.popRequest rest).freeCount = s.freeCount := rfl
@[simp] theorem State.popRequest_pending (rest : List Request) : (s.popRequest rest).pending = s.pending := rfl
@[simp] theorem State.popRequest_mgmt_lost (rest : List Request) : (s.popRequest rest).mgmt.lost = s.mgmt.lost := rfl
@[simp] theorem State.popRequest_mgmt_filled (rest : List Request) : (s.popRequest rest).mgmt.filled = s.mgmt.filled := rfl
@[simp] theorem State.popRequest_mgmt_load (rest : List Request) : (s.popRequest rest).mgmt.load = s.mgmt.load := rfl
@[simp] theorem State.popRequest_mgmt_status (rest : List Request) : (s.popRequest rest).mgmt.status = s.mgmt.status := rfl
@[simp] theorem State.popRequest_mgmt_enable (rest : List Request) : (s.popRequest rest).mgmt.enable = s.mgmt.enable := rfl

/-! ## State.pushRequest -/

@[simp] theorem State.pushRequest_ports (r : Request) : (s.pushRequest r).ports = s.ports := rfl
@[simp] theorem State.pushRequest_dram (r : Request) : (s.pushRequest r).dram = s.dram := rfl
@[simp] theorem State.pushRequest_layouts (r : Request) : (s.pushRequest r).layouts = s.layouts := rfl
@[simp] theorem State.pushRequest_comp (r : Request) : (s.pushRequest r).comp = s.comp := rfl
@[simp] theorem State.pushRequest_bal (r : Request) : (s.pushRequest r).bal = s.bal := rfl
@[simp] theorem State.pushRequest_ovl (r : Request) : (s.pushRequest r).ovl = s.ovl := rfl
@[simp] theorem State.pushRequest_modes (r : Request) : (s.pushRequest r).modes = s.modes := rfl
@[simp] theorem State.pushRequest_veh (r : Request) : (s.pushRequest r).veh = s.veh := rfl
@[simp] theorem State.pushRequest_chans (r : Request) : (s.pushRequest r).chans = s.chans := rfl
@[simp] theorem State.pushRequest_tx (r : Request) : (s.pushRequest r).tx = s.tx := rfl
@[simp] theorem State.pushRequest_store (r : Request) : (s.pushRequest r).store = s.store := rfl
@[simp] theorem State.pushRequest_freeCount (r : Request) : (s.pushRequest r).freeCount = s.freeCount := rfl
@[simp] theorem State.pushRequest_pending (r : Request) : (s.pushRequest r).pending = s.pending := rfl
@[simp] theorem State.pushRequest_mgmt_lost (r : Request) : (s.pushRequest r).mgmt.lost = s.mgmt.lost := rfl
@[simp] theorem State.pushRequest_mgmt_reserved (r : Request) : (s.pushRequest r).mgmt.reserved = s.mgmt.reserved := rfl
@[simp] theorem State.pushRequest_mgmt_filled (r : Request) : (s.pushRequest r).mgmt.filled = s.mgmt.filled := rfl
@[simp] theorem State.pushRequest_mgmt_load (r : Request) : (s.pushRequest r).mgmt.load = s.mgmt.load := rfl
@[simp] theorem State.pushRequest_mgmt_status (r : Request) : (s.pushRequest r).mgmt.status = s.mgmt.status := rfl
@[simp] theorem State.pushRequest_mgmt_enable (r : Request) : (s.pushRequest r).mgmt.enable = s.mgmt.enable := rfl

/-! ## State.loseRequest -/

@[simp] theorem State.loseRequest_ports : (s.loseRequest).ports = s.ports := rfl
@[simp] theorem State.loseRequest_dram : (s.loseRequest).dram = s.dram := rfl
@[simp] theorem State.loseRequest_layouts : (s.loseRequest).layouts = s.layouts := rfl
@[simp] theorem State.loseRequest_comp : (s.loseRequest).comp = s.comp := rfl
@[simp] theorem State.loseRequest_bal : (s.loseRequest).bal = s.bal := rfl
@[simp] theorem State.loseRequest_ovl : (s.loseRequest).ovl = s.ovl := rfl
@[simp] theorem State.loseRequest_modes : (s.loseRequest).modes = s.modes := rfl
@[simp] theorem State.loseRequest_veh : (s.loseRequest).veh = s.veh := rfl
@[simp] theorem State.loseRequest_chans : (s.loseRequest).chans = s.chans := rfl
@[simp] theorem State.loseRequest_tx : (s.loseRequest).tx = s.tx := rfl
@[simp] theorem State.loseRequest_store : (s.loseRequest).store = s.store := rfl
@[simp] theorem State.loseRequest_freeCount : (s.loseRequest).freeCount = s.freeCount := rfl
@[simp] theorem State.loseRequest_pending : (s.loseRequest).pending = s.pending := rfl
@[simp] theorem State.loseRequest_mgmt_queue : (s.loseRequest).mgmt.queue = s.mgmt.queue := rfl
@[simp] theorem State.loseRequest_mgmt_hold : (s.loseRequest).mgmt.hold = s.mgmt.hold := rfl
@[simp] theorem State.loseRequest_mgmt_reserved : (s.loseRequest).mgmt.reserved = s.mgmt.reserved := rfl
@[simp] theorem State.loseRequest_mgmt_filled : (s.loseRequest).mgmt.filled = s.mgmt.filled := rfl
@[simp] theorem State.loseRequest_mgmt_load : (s.loseRequest).mgmt.load = s.mgmt.load := rfl
@[simp] theorem State.loseRequest_mgmt_status : (s.loseRequest).mgmt.status = s.mgmt.status := rfl
@[simp] theorem State.loseRequest_mgmt_enable : (s.loseRequest).mgmt.enable = s.mgmt.enable := rfl

/-! ## State.writePage -/

@[simp] theorem State.writePage_ports (w : PageWrite) : (s.writePage w).ports = s.ports := rfl
@[simp] theorem State.writePage_dram (w : PageWrite) : (s.writePage w).dram = s.dram := rfl
@[simp] theorem State.writePage_layouts (w : PageWrite) : (s.writePage w).layouts = s.layouts := rfl
@[simp] theorem State.writePage_comp (w : PageWrite) : (s.writePage w).comp = s.comp := rfl
@[simp] theorem State.writePage_bal (w : PageWrite) : (s.writePage w).bal = s.bal := rfl
@[simp] theorem State.writePage_ovl (w : PageWrite) : (s.writePage w).ovl = s.ovl := rfl
@[simp] theorem State.writePage_modes (w : PageWrite) : (s.writePage w).modes = s.modes := rfl
@[simp] theorem State.writePage_veh (w : PageWrite) : (s.writePage w).veh = s.veh := rfl
@[simp] theorem State.writePage_chans (w : PageWrite) : (s.writePage w).chans = s.chans := rfl
@[simp] theorem State.writePage_tx (w : PageWrite) : (s.writePage w).tx = s.tx := rfl
@[simp] theorem State.writePage_mgmt (w : PageWrite) : (s.writePage w).mgmt = s.mgmt := rfl
@[simp] theorem State.writePage_freeCount (w : PageWrite) : (s.writePage w).freeCount = s.freeCount := rfl
@[simp] theorem State.writePage_pending (w : PageWrite) : (s.writePage w).pending = s.pending := rfl
@[simp] theorem State.writePage_store_access (w : PageWrite) : (s.writePage w).store.access = s.store.access := rfl
@[simp] theorem State.writePage_store_writing (w : PageWrite) : (s.writePage w).store.writing = s.store.writing := rfl
@[simp] theorem State.writePage_store_writeTimer (w : PageWrite) : (s.writePage w).store.writeTimer = s.store.writeTimer := rfl
@[simp] theorem State.writePage_store_bootWait (w : PageWrite) : (s.writePage w).store.bootWait = s.store.bootWait := rfl
@[simp] theorem State.writePage_store_boot (w : PageWrite) : (s.writePage w).store.boot = s.store.boot := rfl

/-! ## What an update writes -/

@[simp] theorem State.raise_mgmt_status (n : Nat) : (s.raise n).mgmt.status = s.mgmt.status ||| BitVec.twoPow 24 n := rfl
@[simp] theorem State.answerWith_mgmt_reserved (t : Ticket) (r : Result) (data : List Byte) :
    (s.answerWith t r data).mgmt.reserved = s.mgmt.reserved - 1 := rfl
@[simp] theorem State.answerWith_mgmt_filled (t : Ticket) (r : Result) (data : List Byte) :
    (s.answerWith t r data).mgmt.filled = s.mgmt.filled ++ [⟨t.tag, t.kind, r, data⟩] := rfl
@[simp] theorem State.responded_mgmt_filled (tag kind : Byte) (r : Result) (data : List Byte) :
    (s.responded tag kind r data).mgmt.filled = s.mgmt.filled ++ [⟨tag, kind, r, data⟩] := rfl
@[simp] theorem State.closeLoad_mgmt_load : s.closeLoad.mgmt.load = LoadContext.idle := rfl
@[simp] theorem State.setBoot_store_boot (b : Boot) : (s.setBoot b).store.boot = b := rfl
@[simp] theorem State.pushAccess_store_access (a : Access) :
    (s.pushAccess a).store.access = s.store.access ++ [a] := rfl
@[simp] theorem State.popRequest_mgmt_queue (rest : List Request) : (s.popRequest rest).mgmt.queue = rest := rfl
@[simp] theorem State.popRequest_mgmt_reserved (rest : List Request) :
    (s.popRequest rest).mgmt.reserved = s.mgmt.reserved + 1 := rfl
@[simp] theorem State.pushRequest_mgmt_queue (r : Request) :
    (s.pushRequest r).mgmt.queue = s.mgmt.queue ++ [r] := rfl
@[simp] theorem State.loseRequest_mgmt_lost : s.loseRequest.mgmt.lost = min 255 (s.mgmt.lost + 1) := rfl

/-! ## One of four, one of eight -/

@[simp] theorem Quad.get_set_self {α : Type} (q : Quad α) (i : Fin 4) (a : α) : (q.set i a).get i = a := by
  match i with
  | 0 => rfl
  | 1 => rfl
  | 2 => rfl
  | 3 => rfl

theorem Quad.get_set_ne {α : Type} (q : Quad α) (i j : Fin 4) (a : α) (h : j ≠ i) : (q.set i a).get j = q.get j := by
  revert h; revert i j; intro i j h
  match i, j with
  | 0, 0 => exact absurd rfl h
  | 0, 1 => rfl
  | 0, 2 => rfl
  | 0, 3 => rfl
  | 1, 0 => rfl
  | 1, 1 => exact absurd rfl h
  | 1, 2 => rfl
  | 1, 3 => rfl
  | 2, 0 => rfl
  | 2, 1 => rfl
  | 2, 2 => exact absurd rfl h
  | 2, 3 => rfl
  | 3, 0 => rfl
  | 3, 1 => rfl
  | 3, 2 => rfl
  | 3, 3 => exact absurd rfl h

@[simp] theorem Quad.get_build {α : Type} (f : Fin 4 → α) (i : Fin 4) : (Quad.build f).get i = f i := by
  match i with
  | 0 => rfl
  | 1 => rfl
  | 2 => rfl
  | 3 => rfl

@[simp] theorem Quad.get_fill {α : Type} (a : α) (i : Fin 4) : (Quad.fill a).get i = a := by
  match i with
  | 0 => rfl
  | 1 => rfl
  | 2 => rfl
  | 3 => rfl

/-- Two collections of four with the same members are the same. -/
theorem Quad.ext_get {α : Type} (q r : Quad α) (h : ∀ i, q.get i = r.get i) : q = r := by
  have h0 := h 0; have h1 := h 1; have h2 := h 2; have h3 := h 3
  cases q; cases r
  simp only [Quad.get] at h0 h1 h2 h3
  subst h0 h1 h2 h3; rfl

/-- Writing back what a place holds changes nothing. -/
@[simp] theorem Quad.set_get_self {α : Type} (q : Quad α) (i : Fin 4) : q.set i (q.get i) = q := by
  match i with
  | 0 => rfl
  | 1 => rfl
  | 2 => rfl
  | 3 => rfl

@[simp] theorem Quad.set_set {α : Type} (q : Quad α) (i : Fin 4) (a b : α) : (q.set i a).set i b = q.set i b := by
  match i with
  | 0 => rfl
  | 1 => rfl
  | 2 => rfl
  | 3 => rfl

@[simp] theorem Oct.get_set_self {α : Type} (q : Oct α) (i : Fin 8) (a : α) : (q.set i a).get i = a := by
  match i with
  | 0 => rfl
  | 1 => rfl
  | 2 => rfl
  | 3 => rfl
  | 4 => rfl
  | 5 => rfl
  | 6 => rfl
  | 7 => rfl

@[simp] theorem Oct.set_set {α : Type} (q : Oct α) (i : Fin 8) (a b : α) : (q.set i a).set i b = q.set i b := by
  match i with
  | 0 => rfl
  | 1 => rfl
  | 2 => rfl
  | 3 => rfl
  | 4 => rfl
  | 5 => rfl
  | 6 => rfl
  | 7 => rfl

@[simp] theorem Oct.get_build {α : Type} (f : Fin 8 → α) (i : Fin 8) : (Oct.build f).get i = f i := by
  match i with
  | 0 => rfl
  | 1 => rfl
  | 2 => rfl
  | 3 => rfl
  | 4 => rfl
  | 5 => rfl
  | 6 => rfl
  | 7 => rfl

theorem Oct.get_set_ne {α : Type} (q : Oct α) (i j : Fin 8) (a : α) (h : j ≠ i) : (q.set i a).get j = q.get j := by
  fin_cases i <;> fin_cases j <;> first | rfl | exact absurd rfl h

@[simp] theorem Tri.get_set_self {α : Type} (q : Tri α) (i : Fin 3) (a : α) : (q.set i a).get i = a := by
  match i with
  | 0 => rfl
  | 1 => rfl
  | 2 => rfl

theorem Tri.get_set_ne {α : Type} (q : Tri α) (i j : Fin 3) (a : α) (h : j ≠ i) : (q.set i a).get j = q.get j := by
  fin_cases i <;> fin_cases j <;> first | rfl | exact absurd rfl h

@[simp] theorem Tri.get_map {α β : Type} (f : α → β) (q : Tri α) (i : Fin 3) : (q.map f).get i = f (q.get i) := by
  match i with
  | 0 => rfl
  | 1 => rfl
  | 2 => rfl

@[simp] theorem Tri.get_fill {α : Type} (a : α) (i : Fin 3) : (Tri.fill a).get i = a := by
  match i with
  | 0 => rfl
  | 1 => rfl
  | 2 => rfl

/-! ## Reading a port, a channel, a line, a camera's records after an update -/

@[simp] theorem State.port_setPort_self (p : Cam) (v : Port) : (s.setPort p v).port p = v := by
  simp [State.port, State.setPort]
theorem State.port_setPort_ne (p q : Cam) (v : Port) (h : q ≠ p) : (s.setPort p v).port q = s.port q :=
  Quad.get_set_ne _ _ _ _ h
@[simp] theorem State.port_setChan (p q : Cam) (v : Channel) : (s.setChan p v).port q = s.port q := rfl
@[simp] theorem State.port_setBal (p q : Cam) (v : Balance) : (s.setBal p v).port q = s.port q := rfl
@[simp] theorem State.port_setLine (l : Fin 8) (q : Cam) (v : Line) : (s.setLine l v).port q = s.port q := rfl
@[simp] theorem State.port_raise (n : Nat) (q : Cam) : (s.raise n).port q = s.port q := rfl
@[simp] theorem State.port_answerWith (t : Ticket) (r : Result) (data : List Byte) (q : Cam) :
    (s.answerWith t r data).port q = s.port q := rfl

@[simp] theorem State.chan_setChan_self (p : Cam) (v : Channel) : (s.setChan p v).chan p = v := by
  simp [State.chan, State.setChan]
theorem State.chan_setChan_ne (p q : Cam) (v : Channel) (h : q ≠ p) : (s.setChan p v).chan q = s.chan q :=
  Quad.get_set_ne _ _ _ _ h
@[simp] theorem State.chan_setPort (p q : Cam) (v : Port) : (s.setPort p v).chan q = s.chan q := rfl
@[simp] theorem State.chan_setBal (p q : Cam) (v : Balance) : (s.setBal p v).chan q = s.chan q := rfl
@[simp] theorem State.chan_raise (n : Nat) (q : Cam) : (s.raise n).chan q = s.chan q := rfl
@[simp] theorem State.chan_answerWith (t : Ticket) (r : Result) (data : List Byte) (q : Cam) :
    (s.answerWith t r data).chan q = s.chan q := rfl

@[simp] theorem State.camBal_setBal_self (c : Cam) (v : Balance) : (s.setBal c v).camBal c = v := by
  simp [State.camBal, State.setBal]
theorem State.camBal_setBal_ne (c d : Cam) (v : Balance) (h : d ≠ c) : (s.setBal c v).camBal d = s.camBal d :=
  Quad.get_set_ne _ _ _ _ h
@[simp] theorem State.camBal_setPort (p c : Cam) (v : Port) : (s.setPort p v).camBal c = s.camBal c := rfl
@[simp] theorem State.camBal_setChan (p c : Cam) (v : Channel) : (s.setChan p v).camBal c = s.camBal c := rfl
@[simp] theorem State.camBal_raise (n : Nat) (c : Cam) : (s.raise n).camBal c = s.camBal c := rfl

@[simp] theorem State.line_setLine_self (l : Fin 8) (v : Line) : (s.setLine l v).line l = v := by
  simp [State.line, State.setLine]
theorem State.line_setLine_ne (l m : Fin 8) (v : Line) (h : m ≠ l) : (s.setLine l v).line m = s.line m :=
  Oct.get_set_ne _ _ _ _ h

@[simp] theorem State.setPort_port_self (p : Cam) : s.setPort p (s.port p) = s := by
  simp [State.setPort, State.port]
@[simp] theorem State.setChan_chan_self (p : Cam) : s.setChan p (s.chan p) = s := by
  simp [State.setChan, State.chan]
@[simp] theorem State.setPort_setPort (p : Cam) (v w : Port) : (s.setPort p v).setPort p w = s.setPort p w := by
  simp [State.setPort]
@[simp] theorem State.setChan_setChan (p : Cam) (v w : Channel) : (s.setChan p v).setChan p w = s.setChan p w := by
  simp [State.setChan]
@[simp] theorem State.setLine_setLine (l : Fin 8) (v w : Line) : (s.setLine l v).setLine l w = s.setLine l w := by
  simp [State.setLine]

end Sys2Proof.Machine
end

