-- ==== Sys2Proof/Laws/Blocks.lean ====
section
/-! SUPPORT. What each shared operation can do, said once: the provers cite these and need not unfold the operation. Each
`_frame` lemma gives the whole state after as an update of the state before. -/

namespace Sys2Proof.Machine

variable (s : State)

/-! ## Events, ports, free values, answers -/

/-- An event raised under a condition changes the status word at most. -/
theorem State.raiseIf_eq (c : Bool) (n : Nat) :
    s.raiseIf c n = { s with mgmt.status := if c then s.mgmt.status ||| eventBit n else s.mgmt.status } := by
  cases c <;> rfl

/-- A port's new state and its CAM-STATE (R14). -/
theorem State.putPort_eq (p : Cam) (q : Port) :
    s.putPort p q = { s with
      ports := s.ports.set p q
      mgmt.status := if q.st ≠ (s.port p).st then s.mgmt.status ||| eventBit (evCamState p) else s.mgmt.status } := by
  by_cases h : q.st = (s.port p).st <;> simp [State.putPort, State.raiseIf, State.raise, State.setPort, h]

/-- A page abandoned holds its old or its new content, and nothing else changes but the free-value counter (R172). -/
theorem State.settlePage_frame (w : PageWrite) :
    ∃ mem, s.settlePage w = { s with store.mem := mem, freeCount := s.freeCount + 1 } ∧
      (mem = s.store.mem ∨ mem = Memory.writeBytes storeDefault s.store.mem w.offset w.data) := by
  refine ⟨_, rfl, ?_⟩
  by_cases h : Config.pageTakesNew s.freeCount = true
  · exact Or.inr (by simp only [h, if_true])
  · exact Or.inl (by simp only [h]; rfl)

/-- Page writes that end one after another: each page holds its old or its new content, and nothing else changes but the
free-value counter. -/
theorem State.settlePages_frame (ws : List PageWrite) :
    ∃ mem, s.settlePages ws = { s with store.mem := mem, freeCount := s.freeCount + ws.length } ∧
      MaySettle ws s.store.mem mem := by
  induction ws generalizing s with
  | nil => exact ⟨_, rfl, rfl⟩
  | cons w ws ih =>
    obtain ⟨m1, h1, hm⟩ := s.settlePage_frame w
    obtain ⟨mem, h2, h3⟩ := ih (s.settlePage w)
    refine ⟨mem, ?_, ?_⟩
    · show (s.settlePage w).settlePages ws = _
      rw [h2, h1]
      simp [Nat.add_assoc, Nat.add_comm 1]
    · rw [h1] at h3
      rcases hm with rfl | rfl
      · exact Or.inl h3
      · exact Or.inr h3

/-- A list of accesses is its late writes in front and the rest, which begins with none. -/
theorem splitLate_eq (as : List Access) : as = (splitLate as).1.map .lateWrite ++ (splitLate as).2 ∧
    ∀ w rest, (splitLate as).2 ≠ .lateWrite w :: rest := by
  induction as with
  | nil => exact ⟨rfl, by simp [splitLate]⟩
  | cons a as ih =>
    cases a with
    | lateWrite w => exact ⟨by simp [splitLate, ← ih.1], ih.2⟩
    | bootHeader => exact ⟨rfl, by simp [splitLate]⟩
    | bootEntry => exact ⟨rfl, by simp [splitLate]⟩
    | storeRead k o => exact ⟨rfl, by simp [splitLate]⟩
    | pageWrite => exact ⟨rfl, by simp [splitLate]⟩

/-- With no late write in front there is none to end. -/
theorem splitLate_of_not_late (as : List Access) (h : ∀ w rest, as ≠ .lateWrite w :: rest) : splitLate as = ([], as) := by
  cases as with
  | nil => rfl
  | cons a as =>
    cases a with
    | lateWrite w => exact absurd rfl (h w as)
    | bootHeader => rfl
    | bootEntry => rfl
    | storeRead k o => rfl
    | pageWrite => rfl

/-- The late writes in front end: their pages settle and the accesses behind them stand. -/
theorem State.endLateWrites_frame : ∃ mem,
    s.endLateWrites = { s with
      store := { s.store with mem := mem, access := (splitLate s.store.access).2 }
      freeCount := s.freeCount + (splitLate s.store.access).1.length } ∧
    MaySettle (splitLate s.store.access).1 s.store.mem mem := by
  obtain ⟨mem, h, hm⟩ := s.settlePages_frame (splitLate s.store.access).1
  exact ⟨mem, by rw [State.endLateWrites, h], hm⟩

/-- With no late write in front nothing changes. -/
theorem State.endLateWrites_of_not_late (h : ∀ w rest, s.store.access ≠ .lateWrite w :: rest) : s.endLateWrites = s := by
  rw [State.endLateWrites, splitLate_of_not_late _ h]
  rfl

/-- The entries of the pending element list are answered in their order (R96). -/
theorem State.answerEdits_eq (edits : List Edit) (r : Result) :
    s.answerEdits edits r = { s with
      mgmt.reserved := s.mgmt.reserved - edits.length
      mgmt.filled := s.mgmt.filled ++ edits.map fun e => ⟨e.ticket.tag, e.ticket.kind, r, []⟩ } := by
  induction edits generalizing s with
  | nil => simp [State.answerEdits]
  | cons e es ih =>
    have := ih (s.answer e.ticket r)
    simp only [State.answerEdits, List.foldl_cons] at this ⊢
    rw [this]
    simp [State.answer, State.answerWith, Nat.sub_sub, Nat.add_comm]

/-- The pending element list at a turnover (R96). -/
theorem State.applyEdits_eq (table : Option (List Byte)) :
    s.applyEdits table = { s with
      ovl.elements := match table with
        | none => s.ovl.edits.foldl applyEdit s.ovl.elements
        | some bs => elementsOf bs
      ovl.edits := []
      mgmt.reserved := s.mgmt.reserved - s.ovl.edits.length
      mgmt.filled := s.mgmt.filled ++ s.ovl.edits.map fun e =>
        ⟨e.ticket.tag, e.ticket.kind, (match table with | none => .done | some _ => .superseded), []⟩ } := by
  cases table <;> simp only [State.applyEdits, State.answerEdits_eq]

/-! ## The arbiter of DRAM (R20) -/

/-- What a grant can do. -/
theorem State.grant_cases :
    (s.dram.granted ≠ none ∧ s.grant = s) ∨
    (s.dram.granted = none ∧ ∃ p, s.nextWriter = some p ∧
      s.grant = { s with dram := { s.dram with granted := some (.write p), lastPort := p } }) ∨
    (s.dram.granted = none ∧ s.nextWriter = none ∧ ∃ w r rest, s.comp.work = some w ∧ w.reads = r :: rest ∧
      s.grant = { s with dram.granted := some (.read r true), comp.work := some { w with reads := rest } }) ∨
    (s.dram.granted = none ∧ s.nextWriter = none ∧
      (s.comp.work = none ∨ ∃ w, s.comp.work = some w ∧ w.reads = []) ∧ s.grant = s) := by
  cases hg : s.dram.granted with
  | some g => exact Or.inl ⟨by simp, by simp [State.grant, hg]⟩
  | none =>
    right
    cases hn : s.nextWriter with
    | some p => exact Or.inl ⟨rfl, p, rfl, by simp [State.grant, hg, hn]⟩
    | none =>
      right
      cases hw : s.comp.work with
      | none => exact Or.inr ⟨rfl, rfl, Or.inl rfl, by simp [State.grant, hg, hn, hw]⟩
      | some w =>
        cases hr : w.reads with
        | nil => exact Or.inr ⟨rfl, rfl, Or.inr ⟨w, rfl, hr⟩, by simp [State.grant, hg, hn, hw, hr]⟩
        | cons r rest => exact Or.inl ⟨rfl, rfl, w, r, rest, rfl, hr, by simp [State.grant, hg, hn, hw, hr]⟩

/-- A grant changes the arbiter's own fields and the reads that still wait, and nothing else. -/
theorem State.grant_frame : ∃ g lp work,
    s.grant = { s with dram := { s.dram with granted := g, lastPort := lp }, comp := { s.comp with work := work } } ∧
    (s.comp.work = none → work = none) ∧
    (∀ w, s.comp.work = some w → ∃ rest, work = some { w with reads := rest } ∧ (w.reads = [] → rest = [])) := by
  obtain ⟨-, h⟩ | ⟨-, p, -, h⟩ | ⟨-, -, w, r, rest, hw, hr, h⟩ | ⟨-, -, -, h⟩ := s.grant_cases
  · exact ⟨_, _, _, h, id, fun w hw => ⟨_, hw, id⟩⟩
  · exact ⟨_, _, s.comp.work, h, id, fun w hw => ⟨_, hw, id⟩⟩
  · refine ⟨some (.read r true), s.dram.lastPort, _, h, fun h0 => by simp [h0] at hw, fun w' h' => ⟨rest, ?_, ?_⟩⟩
    · rw [h'] at hw; cases hw; rfl
    · rw [h'] at hw; cases hw; simp [hr]
  · exact ⟨_, _, _, h, id, fun w hw => ⟨_, hw, id⟩⟩

/-! ## Halves and bands (R53, R54) -/

/-- The half of another parity stands. -/
theorem Compositor.half_setHalf (c : Compositor) (a b : Nat) (h : Half) :
    (c.setHalf b h).half a = if a % 2 = b % 2 then h else c.half a := by
  by_cases ha : a % 2 = 0 <;> by_cases hb : b % 2 = 0 <;> simp [Compositor.half, Compositor.setHalf, ha, hb] <;> omega

/-- A half put in place changes the halves alone. -/
theorem Compositor.setHalf_frame (c : Compositor) (b : Nat) (h : Half) :
    c.setHalf b h = { c with half0 := (c.setHalf b h).half0, half1 := (c.setHalf b h).half1 } := by
  by_cases hb : b % 2 = 0 <;> simp [Compositor.setHalf, hb]

/-- The band given up: its work and its waiting reads are gone, and a read in progress runs on unwanted. -/
theorem State.dropWork_eq : s.dropWork = { s with
    comp.work := none
    dram := if s.comp.work.isSome then s.dram.unwantRead else s.dram } := by
  cases h : s.comp.work with
  | none =>
    have hc : ({ s.comp with work := none } : Compositor) = s.comp := by rw [← h]
    simp only [State.dropWork, h, hc]; rfl
  | some w => simp [State.dropWork, h]

/-- A read no longer wanted changes the grant alone. -/
theorem Dram.unwantRead_frame (d : Dram) : d.unwantRead = { d with granted := d.unwantRead.granted } := by
  unfold Dram.unwantRead; split <;> rfl

/-- A band that starts: its half is WRITING, its work is its own, and the arbiter may grant its first read. -/
theorem State.startBand_frame (b : Nat) : ∃ g lp rest,
    s.startBand b = { s with
      dram := { s.dram with granted := g, lastPort := lp }
      comp := { s.comp.setHalf b ⟨.writing, b, []⟩ with
        work := some ⟨b, rest, Quad.fill [], (bandReads s.comp.plan s.layouts.slots b).isEmpty⟩, next := b + 1 } } ∧
    (bandReads s.comp.plan s.layouts.slots b = [] → rest = []) := by
  unfold State.startBand
  obtain ⟨g, lp, work, h, -, h2⟩ := State.grant_frame
    ({ s with comp := { s.comp.setHalf b ⟨.writing, b, []⟩ with
      work := some ⟨b, bandReads s.comp.plan s.layouts.slots b, Quad.fill [],
        (bandReads s.comp.plan s.layouts.slots b).isEmpty⟩
      next := b + 1 } } : State)
  obtain ⟨rest, hr, h3⟩ := h2 _ rfl
  exact ⟨g, lp, rest, by simp only [h, hr], h3⟩

/-- The compositor's next band starts, or nothing changes (R53). -/
theorem State.tryStartBand_cases :
    ((s.comp.work ≠ none ∨ 18 ≤ s.comp.next ∨ (s.comp.half s.comp.next).st ≠ .free) ∧ s.tryStartBand = s) ∨
    (s.comp.work = none ∧ s.comp.next < 18 ∧ (s.comp.half s.comp.next).st = .free ∧
      s.tryStartBand = s.startBand s.comp.next) := by
  unfold State.tryStartBand
  split
  · rename_i h; exact Or.inr ⟨h.1, h.2.1, h.2.2, rfl⟩
  · rename_i h
    refine Or.inl ⟨?_, rfl⟩
    by_cases h1 : s.comp.work = none
    · by_cases h2 : s.comp.next < 18
      · exact Or.inr (Or.inr fun h3 => h ⟨h1, h2, h3⟩)
      · exact Or.inr (Or.inl (by omega))
    · exact Or.inl h1

/-- Starting the next band changes the compositor's work, next band and halves and the arbiter's fields alone. -/
theorem State.tryStartBand_frame : ∃ g lp work next h0 h1,
    s.tryStartBand = { s with
      dram := { s.dram with granted := g, lastPort := lp }
      comp := { s.comp with work := work, next := next, half0 := h0, half1 := h1 } } := by
  obtain ⟨-, h⟩ | ⟨-, -, -, h⟩ := s.tryStartBand_cases
  · exact ⟨_, _, _, _, _, _, h⟩
  · obtain ⟨g, lp, rest, h2, -⟩ := s.startBand_frame s.comp.next
    rw [h, h2, Compositor.setHalf_frame]
    exact ⟨g, lp, _, _, _, _, rfl⟩

/-! ## Channels (R137, R143) -/

/-- A result handed over reaches one channel's cached exposure or attention value, the status word, and the response
queue. -/
theorem State.handResult_frame (p : Cam) (t : Transaction) (r : Result) (data : List Byte) :
    ∃ c st res fil, s.handResult p t r data = { s with
      chans := s.chans.set p c
      mgmt := { s.mgmt with status := st, reserved := res, filled := fil } } ∧
    c = { s.chan p with cached := c.cached, attnValue := c.attnValue } := by
  have hs : s.chans.set p (s.chan p) = s.chans := by simp [State.chan]
  unfold State.handResult
  split
  · exact ⟨s.chan p, _, _, _, by rw [hs]; rfl, rfl⟩
  · split
    · split
      · exact ⟨_, _, _, _, rfl, rfl⟩
      · exact ⟨s.chan p, _, _, _, by rw [hs], rfl⟩
    · exact ⟨s.chan p, _, _, _, by rw [hs]; rfl, rfl⟩
  · split
    · exact ⟨_, _, _, _, rfl, rfl⟩
    · exact ⟨s.chan p, _, _, _, by rw [hs]; rfl, rfl⟩

/-- An ACTIVE channel's arbiter makes no choice. -/
theorem State.arbitrate_active (p : Cam) (h : (s.chan p).active = true) : s.arbitrate p = s := by
  simp [State.arbitrate, State.arbitrateN, h]

/-- With nothing waiting the arbiter makes no choice. -/
theorem State.arbitrate_nothing (p : Cam) (h : (s.chan p).nothingWaits) : s.arbitrate p = s := by
  obtain ⟨h1, h2, h3⟩ := h
  have : (s.chan p).choose = none := by simp [Channel.choose, h1, h2, h3]
  unfold State.arbitrate State.arbitrateN
  simp [this]

/-- On a locked link an IDLE channel's arbiter starts the transaction it selects. -/
theorem State.arbitrate_starts (p : Cam) (ch : Choice) (ha : (s.chan p).active = false)
    (hc : (s.chan p).choose = some ch) (hl : (s.port p).lock = true) :
    s.arbitrate p = s.setChan p (((s.chan p).take ch).start (transactionFor (s.port p).profile ch)) := by
  simp [State.arbitrate, State.arbitrateN, ha, hc, hl]

/-- The arbiter of a channel changes that channel, the status word and the response queue alone. -/
theorem State.arbitrateN_frame (p : Cam) (n : Nat) : ∃ c st res fil,
    State.arbitrateN p n s = { s with
      chans := s.chans.set p c
      mgmt := { s.mgmt with status := st, reserved := res, filled := fil } } := by
  have hs : s.chans.set p (s.chan p) = s.chans := by simp [State.chan]
  induction n generalizing s with
  | zero => exact ⟨s.chan p, _, _, _, by rw [hs]; rfl⟩
  | succ n ih =>
    unfold State.arbitrateN
    split
    · exact ⟨s.chan p, _, _, _, by rw [hs]⟩
    · split
      · exact ⟨s.chan p, _, _, _, by rw [hs]⟩
      · rename_i ch _
        split
        · exact ⟨_, _, _, _, rfl⟩
        · obtain ⟨c1, st1, res1, fil1, h1, -⟩ := State.handResult_frame (s.setChan p ((s.chan p).take ch)) p
            (transactionFor (s.port p).profile ch) .noLink []
          rw [h1]
          obtain ⟨c2, st2, res2, fil2, h2⟩ := ih _ (by simp [State.chan])
          exact ⟨c2, st2, res2, fil2, by rw [h2]; simp [State.setChan]⟩

theorem State.arbitrate_frame (p : Cam) : ∃ c st res fil,
    s.arbitrate p = { s with
      chans := s.chans.set p c
      mgmt := { s.mgmt with status := st, reserved := res, filled := fil } } :=
  s.arbitrateN_frame p _

end Sys2Proof.Machine
end

