-- ==== Sys2Proof/Laws/Memory.lean ====
section
/-! SUPPORT. The two memories: a read after a write, the bytes a write leaves alone, and that every operation keeps the
canonical form. -/

namespace Sys2Proof.Machine

theorem Memory.read_of_lt (d : Byte) : ∀ (m : List Host.Cell) (a : Nat), (∀ c ∈ m, a < c.1) → Memory.read d m a = d
  | [], _, _ => rfl
  | (b, w) :: m, a, h => by
    have hb : a < b := h (b, w) (by simp)
    rw [Memory.read, if_neg (by omega)]
    exact Memory.read_of_lt d m a fun c hc => h c (by simp [hc])

/-- In a canonical memory the cells behind the first lie above it. -/
theorem Memory.wf_cons {d : Byte} {c : Host.Cell} {m : List Host.Cell} (h : Memory.wf d (c :: m)) :
    Memory.wf d m ∧ (∀ x ∈ m, c.1 < x.1) ∧ c.2 ≠ d := by
  obtain ⟨hp, hd⟩ := h
  rw [List.pairwise_cons] at hp
  exact ⟨⟨hp.2, fun x hx => hd x (by simp [hx])⟩, hp.1, hd c (by simp)⟩

/-- A read of a canonical memory after a write: the value at the address written, the old value elsewhere. -/
theorem Memory.read_write (d : Byte) : ∀ (m : List Host.Cell) (a : Nat) (v : Byte) (x : Nat), Memory.wf d m →
    Memory.read d (Memory.write d m a v) x = if x = a then v else Memory.read d m x
  | [], a, v, x, _ => by
    by_cases hv : v = d
    · subst hv; by_cases hx : x = a <;> simp [Memory.write, Memory.read, hx]
    · by_cases hx : x = a
      · subst hx; simp [Memory.write, Memory.read, hv]
      · simp [Memory.write, Memory.read, hv, hx, Ne.symm hx]
  | (b, w) :: m, a, v, x, h => by
    obtain ⟨hm, hlt, _⟩ := Memory.wf_cons h
    unfold Memory.write
    by_cases h1 : b < a
    · simp only [h1, if_true, Memory.read]
      rw [Memory.read_write d m a v x hm]
      by_cases hx : x = a
      · subst hx; simp [Nat.ne_of_lt h1]
      · simp [hx]
    · simp only [h1, if_false]
      by_cases h2 : b = a
      · subst h2
        by_cases hv : v = d
        · simp only [if_true, hv, Memory.read]
          by_cases hx : x = b
          · subst hx; simp only [if_true]; exact Memory.read_of_lt d m x hlt
          · simp [hx, Ne.symm hx]
        · simp only [if_true, hv, if_false, Memory.read]
          by_cases hx : x = b
          · simp [hx]
          · simp [hx, Ne.symm hx]
      · simp only [h2, if_false]
        by_cases hv : v = d
        · simp only [hv, if_true, Memory.read]
          by_cases hx : x = a
          · subst hx
            have hbx : ¬ b = x := h2
            simp only [hbx, if_false, if_true]
            exact Memory.read_of_lt d m x fun c hc => by have := hlt c hc; simp at this; omega
          · simp [hx]
        · simp only [hv, if_false, Memory.read]
          by_cases hx : x = a
          · simp [hx]
          · simp [hx, Ne.symm hx]

/-- What a write can leave in the list: cells it held, or the one written. -/
theorem Memory.mem_write (d : Byte) : ∀ (m : List Host.Cell) (a : Nat) (v : Byte) (c : Host.Cell),
    c ∈ Memory.write d m a v → c ∈ m ∨ c.1 = a ∧ c.2 = v ∧ v ≠ d
  | [], a, v, c, h => by
    by_cases hv : v = d <;> simp [Memory.write, hv] at h
    exact .inr ⟨by simp [h], by simp [h], hv⟩
  | (b, w) :: m, a, v, c, h => by
    unfold Memory.write at h
    split at h
    · rcases List.mem_cons.mp h with rfl | h
      · exact .inl (by simp)
      · rcases Memory.mem_write d m a v c h with h | h
        · exact .inl (by simp [h])
        · exact .inr h
    · split at h
      · split at h
        · exact .inl (by simp [h])
        · rename_i hv
          rcases List.mem_cons.mp h with rfl | h
          · exact .inr ⟨rfl, rfl, hv⟩
          · exact .inl (by simp [h])
      · split at h
        · exact .inl h
        · rename_i hv
          rcases List.mem_cons.mp h with rfl | h
          · exact .inr ⟨rfl, rfl, hv⟩
          · exact .inl h

/-- A write keeps the canonical form. -/
theorem Memory.write_wf (d : Byte) : ∀ (m : List Host.Cell) (a : Nat) (v : Byte), Memory.wf d m →
    Memory.wf d (Memory.write d m a v)
  | [], a, v, _ => by by_cases hv : v = d <;> simp [Memory.write, Memory.wf, hv]
  | (b, w) :: m, a, v, h => by
    obtain ⟨hm, hlt, hw⟩ := Memory.wf_cons h
    unfold Memory.write
    split
    · rename_i hba
      obtain ⟨ih1, ih2⟩ := Memory.write_wf d m a v hm
      refine ⟨List.pairwise_cons.mpr ⟨fun c hc => ?_, ih1⟩, ?_⟩
      · rcases Memory.mem_write d m a v c hc with h' | h'
        · exact hlt c h'
        · show b < c.1; omega
      · intro c hc
        rcases List.mem_cons.mp hc with rfl | hc
        · exact hw
        · exact ih2 c hc
    · split
      · split
        · exact hm
        · rename_i hv
          subst_vars
          refine ⟨List.pairwise_cons.mpr ⟨hlt, hm.1⟩, fun c hc => ?_⟩
          rcases List.mem_cons.mp hc with rfl | hc
          · exact hv
          · exact hm.2 c hc
      · split
        · exact h
        · rename_i hv
          refine ⟨List.pairwise_cons.mpr ⟨fun c hc => ?_, h.1⟩, fun c hc => ?_⟩
          · rcases List.mem_cons.mp hc with rfl | hc
            · show a < b; omega
            · have := hlt c hc; simp at this; show a < c.1; omega
          · rcases List.mem_cons.mp hc with rfl | hc
            · exact hv
            · exact h.2 c hc

/-- Writing a run of bytes keeps the canonical form. -/
theorem Memory.writeBytes_wf (d : Byte) : ∀ (vs : List Byte) (m : List Host.Cell) (a : Nat), Memory.wf d m →
    Memory.wf d (Memory.writeBytes d m a vs)
  | [], _, _, h => h
  | v :: vs, m, a, h => Memory.writeBytes_wf d vs _ _ (Memory.write_wf d m a v h)

/-- A run of bytes leaves every address outside it alone, and puts its bytes at those inside it. -/
theorem Memory.read_writeBytes (d : Byte) : ∀ (vs : List Byte) (m : List Host.Cell) (a x : Nat), Memory.wf d m →
    Memory.read d (Memory.writeBytes d m a vs) x =
      if a ≤ x ∧ x < a + vs.length then vs.getD (x - a) d else Memory.read d m x
  | [], m, a, x, _ => by
    have : ¬(a ≤ x ∧ x < a + ([] : List Byte).length) := by simp
    rw [if_neg this]; rfl
  | v :: vs, m, a, x, h => by
    rw [Memory.writeBytes, Memory.read_writeBytes d vs _ (a + 1) x (Memory.write_wf d m a v h),
      Memory.read_write d m a v x h]
    by_cases hx : x = a
    · subst hx; simp
    · by_cases hr : a + 1 ≤ x ∧ x < a + 1 + vs.length
      · have hr' : a ≤ x ∧ x < a + (v :: vs).length := by simp only [List.length_cons]; omega
        rw [if_pos hr, if_pos hr']
        obtain ⟨k, rfl⟩ : ∃ k, x = a + 1 + k := ⟨x - (a + 1), by omega⟩
        have e1 : a + 1 + k - (a + 1) = k := by omega
        have e2 : a + 1 + k - a = k + 1 := by omega
        rw [e1, e2]; simp
      · have hr' : ¬(a ≤ x ∧ x < a + (v :: vs).length) := by simp only [List.length_cons]; omega
        rw [if_neg hr, if_neg hr', if_neg hx]

/-- A run of bytes below a bound leaves nothing above it. -/
theorem Memory.writeBytes_below (d : Byte) (n : Nat) : ∀ (vs : List Byte) (m : List Host.Cell) (a : Nat),
    (∀ c ∈ m, c.1 < n) → a + vs.length ≤ n → ∀ c ∈ Memory.writeBytes d m a vs, c.1 < n
  | [], _, _, h, _ => h
  | v :: vs, m, a, h, ha => by
    simp only [List.length_cons] at ha
    refine Memory.writeBytes_below d n vs _ _ (fun c hc => ?_) (by omega)
    rcases Memory.mem_write d m a v c hc with h' | h'
    · exact h c h'
    · omega

@[simp] theorem Memory.readBytes_length (d : Byte) (m : List Host.Cell) : ∀ (n a : Nat),
    (Memory.readBytes d m a n).length = n
  | 0, _ => rfl
  | n + 1, a => by simp [Memory.readBytes, Memory.readBytes_length d m n]

theorem Memory.readBytes_getD (d e : Byte) (m : List Host.Cell) : ∀ (n a i : Nat), i < n →
    (Memory.readBytes d m a n).getD i e = Memory.read d m (a + i)
  | 0, _, _, h => absurd h (by omega)
  | n + 1, a, 0, _ => rfl
  | n + 1, a, i + 1, h => by
    have := Memory.readBytes_getD d e m n (a + 1) i (by omega)
    have e1 : a + 1 + i = a + (i + 1) := by omega
    rw [e1] at this
    simpa [Memory.readBytes] using this

end Sys2Proof.Machine
end

