-- ==== Sys2Proof/Laws/Requests.lean ====
section
/-! SUPPORT. What arrival and take-up can do (R157 to R160), said once: a request that is taken at once reaches its owner
with a place reserved for it, and an induction over take-up. -/

namespace Sys2Proof.Machine

/-- Take-up on an empty queue does nothing. -/
@[simp] theorem State.takeUp_nil (s : State) (h : s.mgmt.queue = []) : s.takeUp = s := by
  simp [State.takeUp, h, State.takeUpN]

/-- Take-up with no place free does nothing. -/
theorem State.takeUp_full (s : State) (h : s.placeFree = false) : s.takeUp = s := by
  unfold State.takeUp
  cases hq : s.mgmt.queue with
  | nil => rfl
  | cons r rest => simp [State.takeUpN, hq, h]

/-- A request that arrives while none waits and a place is free is served at once, with a place reserved for it. -/
theorem State.submit_takesAtOnce (s : State) (r : Request) (h : s.takesAtOnce) (hl : r.payload.length ≤ 56) :
    s.submit r = ({ s with mgmt.reserved := s.mgmt.reserved + 1 } : State).serve r := by
  obtain ⟨hq, hp⟩ := h
  have h1 : ¬ Config.maxPayload < r.payload.length := by simp only [Config.maxPayload]; omega
  have h2 : ¬ Config.requestPlaces ≤ s.mgmt.queue.length := by simp [hq, Config.requestPlaces]
  have h3 : (s.pushRequest r).placeFree = true := decide_eq_true hp
  have h4 : (s.pushRequest r).mgmt.queue = [r] := by simp [hq]
  have h5 : (s.pushRequest r).popRequest [] = { s with mgmt.reserved := s.mgmt.reserved + 1 } := by
    simp [State.pushRequest, State.popRequest, hq, Config.holdSet, Config.holdClear]
  rw [State.submit, if_neg h1, if_neg h2, State.takeUp, h4]
  show State.takeUpN 1 _ = _
  rw [State.takeUpN, h4]
  simp only [h3, if_true, h5]
  rw [State.takeUpN]

/-- A request whose kind and payload read as `q` is handed to its owner. -/
theorem State.serve_of_parse (s : State) (r : Request) (q : Req) (h : parseRequest r.kind r.payload = .ok q) :
    s.serve r = s.serveReq ⟨r.tag, r.kind⟩ q := by
  simp [State.serve, h]

/-- An answer at take-up uses the place just reserved: the response is filled and nothing else has changed. -/
theorem State.answerWith_reserved (s : State) (t : Ticket) (r : Result) (data : List Byte) :
    ({ s with mgmt.reserved := s.mgmt.reserved + 1 } : State).answerWith t r data =
      s.responded t.tag t.kind r data := by
  simp [State.answerWith, State.responded]

/-- What holds before take-up and is kept by taking one request holds after it. -/
theorem State.takeUpN_induction {P : State → Prop}
    (step : ∀ (s : State) (r : Request) (rest : List Request), P s → s.mgmt.queue = r :: rest → s.placeFree = true →
      P ((s.popRequest rest).serve r)) : ∀ (n : Nat) (s : State), P s → P (State.takeUpN n s)
  | 0, _, h => h
  | n + 1, s, h => by
    unfold State.takeUpN
    cases hq : s.mgmt.queue with
    | nil => exact h
    | cons r rest =>
      by_cases hp : s.placeFree = true
      · simp only [hp, if_true]; exact State.takeUpN_induction step n _ (step s r rest h hq hp)
      · simp only [hp]; exact h

theorem State.takeUp_induction {P : State → Prop} (s : State) (h : P s)
    (step : ∀ (s : State) (r : Request) (rest : List Request), P s → s.mgmt.queue = r :: rest → s.placeFree = true →
      P ((s.popRequest rest).serve r)) : P s.takeUp :=
  State.takeUpN_induction step _ s h

/-- What is kept by losing a request, by queueing one and by taking one is kept by an arrival. -/
theorem State.submit_induction {P : State → Prop} (s : State) (r : Request) (h : P s)
    (lose : P s → P s.loseRequest)
    (push : P s → r.payload.length ≤ 56 → s.mgmt.queue.length < 16 → P (s.pushRequest r))
    (step : ∀ (s : State) (r : Request) (rest : List Request), P s → s.mgmt.queue = r :: rest → s.placeFree = true →
      P ((s.popRequest rest).serve r)) : P (s.submit r) := by
  unfold State.submit
  refine State.takeUp_induction _ ?_ step
  split
  · exact lose h
  · rename_i h1
    split
    · exact lose h
    · rename_i h2
      simp only [Config.maxPayload, Config.requestPlaces] at h1 h2
      exact push h (by omega) (by omega)

end Sys2Proof.Machine
end

