-- ==== Sys2Proof/Laws/Resets.lean ====
section
/-! SUPPORT. What a power-on and the parts of a reset can do, said once. -/

namespace Sys2Proof.Machine

variable (s : State)

/-- Power-on anew (R154). -/
theorem State.powerOnAgain_frame : ∃ mem,
    s.powerOnAgain = State.powerOn (Quad.build fun p => (s.port p).lock) (Oct.build fun l => (s.line l).raw) mem
      (s.freeCount + (writesAhead s.store.writing s.store.access).length) s.pending ∧
    MaySettle (writesAhead s.store.writing s.store.access) s.store.mem mem := by
  obtain ⟨mem, h, hm⟩ := s.settlePages_frame (writesAhead s.store.writing s.store.access)
  exact ⟨mem, by simp only [State.powerOnAgain, h], hm⟩

/-- No line of a port is granted anew where each port's lines are gone or one of its writes is in progress. -/
theorem State.grant_lastPort (h : ∀ p, (s.port p).bufs = [] ∨ s.dram.granted ≠ none) :
    s.grant.dram.lastPort = s.dram.lastPort := by
  obtain ⟨-, e⟩ | ⟨hg, p, hp, e⟩ | ⟨-, -, w, r, rest, -, -, e⟩ | ⟨-, -, -, e⟩ := s.grant_cases
  · rw [e]
  · exfalso
    have h1 := List.find?_some hp
    have h2 := h p
    simp_all
  · rw [e]
  · rw [e]

/-- The band that a reset lets the compositor start takes no camera write before port 0. -/
theorem State.tryStartBand_lastPort (h : ∀ p, (s.port p).bufs = [] ∨ s.dram.granted ≠ none) :
    s.tryStartBand.dram.lastPort = s.dram.lastPort := by
  obtain ⟨-, e⟩ | ⟨-, -, -, e⟩ := s.tryStartBand_cases
  · rw [e]
  · rw [e]; exact State.grant_lastPort _ h

/-- The compositor at a FULL reset (R57): the power-on plan, no statistics, and the arbiter's fields and the halves
alone may move besides. -/
theorem State.resetCompositor_frame : ∃ g lp work next h0 h1,
    s.resetCompositor = { s with
      dram := { s.dram with granted := g, lastPort := lp }
      comp := ⟨Plan.powerOn, work, next, Seam.zero, true, h0, h1⟩ } ∧
    ((∀ p, (s.port p).bufs = [] ∨ s.dram.granted ≠ none) → lp = s.dram.lastPort) := by
  have hd : ∃ g, s.dropWork = { s with comp.work := none, dram.granted := g } ∧
      (s.dram.granted ≠ none → g ≠ none) := by
    rw [State.dropWork_eq]
    cases s.comp.work.isSome with
    | false => exact ⟨_, rfl, id⟩
    | true =>
      refine ⟨s.dram.unwantRead.granted, by simp only [if_true, ← Dram.unwantRead_frame], fun h => ?_⟩
      unfold Dram.unwantRead
      split <;> simp_all
  obtain ⟨g0, h0, hg0⟩ := hd
  unfold State.resetCompositor
  rw [h0]
  generalize hs : ({ s with
    comp := { plan := Plan.powerOn, work := none, next := s.tx.phase.nextBand, seam := Seam.zero, incomplete := true,
              half0 := s.comp.half0.fullReset, half1 := s.comp.half1.fullReset }
    dram.granted := g0 } : State) = s1
  obtain ⟨g, lp, work, next, k0, k1, h1⟩ := s1.tryStartBand_frame
  refine ⟨g, lp, work, next, k0, k1, ?_, fun h => ?_⟩
  · simp only [hs]
    rw [h1, ← hs]
  · have h2 : s1.tryStartBand.dram.lastPort = s1.dram.lastPort := by
      refine State.tryStartBand_lastPort _ fun p => ?_
      rw [← hs]
      exact (h p).imp id hg0
    rw [h1] at h2
    rw [← hs] at h2
    exact h2

end Sys2Proof.Machine
end

