-- ==== Sys2Proof/Tests/Slice0.lean ====
section
/-! SUPPORT. Tests: the well-formedness checks, the spec's worked figures, one or two single steps per command on small
states, and a witness for every statement with hypotheses. Each expected value comes from the rule or the worked case
its comment names. -/

namespace Sys2Proof.Tests

open Sys2Proof.Machine

/-- The state after a command. -/
def after (i : Instr) (s : State) : State :=
  match exec i s with
  | .next t => t
  | .fault _ => s
  | .refused _ => s

/-! ## Well-formedness: one ill-formed command for each check -/

theorem test_wf_refuses_listed_kind : (Instr.unknownKind 0 0x10 []).wf = false := by decide
theorem test_wf_refuses_long_payload : (Instr.unknownKind 0 0x99 (List.replicate 57 0)).wf = false := by decide
theorem test_wf_refuses_long_segment : (Instr.loadData 0 0 (List.replicate 49 0)).wf = false := by decide
theorem test_wf_refuses_short_element : (Instr.elementWrite 0 0 (List.replicate 31 0)).wf = false := by decide
theorem test_wf_refuses_long_transfer : (Instr.camXfer 0 0 0 0 0 1 (List.replicate 17 0)).wf = false := by decide
theorem test_wf_refuses_short_page : (Instr.storeWrite 0 0 (List.replicate 31 0)).wf = false := by decide
theorem test_wf_accepts_boundaries : (Instr.unknownKind 0 0x99 (List.replicate 56 0)).wf = true ∧
    (Instr.loadData 0 0 (List.replicate 48 0)).wf = true ∧ (Instr.camXfer 0 0 0 0 0 16 (List.replicate 16 0)).wf = true := by
  decide

/-- No row of the table gives its command bits. -/
theorem test_no_word_spells_a_command : decodeTableWord 8 0 = none ∧ decodeTableWord 32 0xFFFFFFFF = none := by decide

/-! ## The two CRCs (R170), on the digits 1 to 9: the figures these parameters are known by -/

def digits : List Byte := [0x31, 0x32, 0x33, 0x34, 0x35, 0x36, 0x37, 0x38, 0x39]
theorem test_crc16_check_value : crc16 digits = 0x29B1 := by decide +kernel
theorem test_crc32_check_value : crc32 digits = 0xCBF43926 := by decide +kernel

/-! ## The worked case of section 3.8 -/

theorem test_seam_weight : rampWeight 0 32 8 = 64 ∧ rampWeight 0 32 0 = 0 ∧ rampWeight 0 32 32 = 256 := by decide
theorem test_tile_of_pixel : tileIndex 328 176 = 170 := by decide
theorem test_source_position :
    interpolate 8 16 1600 2112 1616 2128 = 1736 ∧ interpolate 8 16 4800 4800 5312 5312 = 5056 := by decide
theorem test_luma_offset : lumaOffset 108 316 = 809176 ∧ lumaOffset 109 316 = 809178 := by decide
theorem test_chroma_offsets : cbOffset 54 316 = 809177 ∧ crOffset 54 316 = 809179 ∧ cbOffset 55 316 = 809181 ∧
    crOffset 55 316 = 809183 := by decide
/-- Camera 0's samples at (1736, 5056) from the bytes the worked case gives. -/
def workedFetch (offset : Nat) : Nat :=
  if offset = 809176 then 100 else if offset = 809178 then 120 else if offset = 809177 then 120
  else if offset = 809181 then 124 else if offset = 809179 then 136 else if offset = 809183 then 132 else 0
theorem test_worked_samples : lumaSample workedFetch (1736, 5056) = 110 ∧ cbSample workedFetch (1736, 5056) = 121 ∧
    crSample workedFetch (1736, 5056) = 135 := by decide
theorem test_worked_gain_and_blend : gainedLuma 110 300 = 129 ∧ gainedLuma 140 256 = 140 ∧ blend 64 129 140 = 132 ∧
    blend 64 121 126 = 122 ∧ blend 64 135 130 = 134 := by decide
theorem test_worked_hatch : hatchPixel palettePowerOn 328 176 = Pix.black ∧
    hatchPixel palettePowerOn 336 176 = ⟨128, 128, 128⟩ := by decide

/-! ## Section 4.3, section 5.12 -/

theorem test_worked_targets : targetFigure 256 1200000 1000000 = 307 ∧ targetFigure 300 150000000 50000000 = 512 := by
  decide
theorem test_worked_steps : stepGain 256 307 = 260 ∧ stepGain 304 307 = 307 ∧ stepGain 400 512 = 404 := by decide
theorem test_worked_alpha : alphaMix 132 235 12 = 209 ∧ alphaMix 122 128 12 = 127 ∧ alphaMix 134 128 12 = 130 ∧
    alphaMix 209 16 16 = 16 := by decide
theorem test_worked_guide_centres : segmentCentre (600, 575) (640, 400) 7 = (602, 568) ∧
    segmentCentre (600, 575) (640, 400) 96 = (622, 479) ∧ segmentCentre (600, 575) (640, 400) 175 = (640, 400) := by
  decide
theorem test_worked_dashes : stepDrawn true 7 = true ∧ stepDrawn true 8 = false ∧ stepDrawn true 96 = true ∧
    stepDrawn false 8 = true := by decide

/-! ## Small states -/

/-- A Camera Profile with Enabled yes, freeze limit 2, initial gain 300, device 0x21, no exposure control, status register
0x0010. -/
def profile : List Byte := [1, 2, 0x01, 0x2C, 0x21, 0, 0, 0, 0, 0, 0, 0, 0, 0, 0, 0, 1, 0x00, 0x10]

/-- The Camera Profile of section 4.7: exposure register 0x0200, minimum 100, maximum 800, step 40, start 400. -/
def exposing : List Byte := [1, 2, 0x01, 0x2C, 0x21, 1, 0x02, 0x00, 0, 100, 0x03, 0x20, 0, 40, 0x01, 0x90, 1, 0x00, 0x10]
theorem test_exposure_control : profileExposure exposing = some ⟨0x0200, 100, 800, 40, 400⟩ := by decide

/-- A port in service: LIVE, frame 7 being read and frame 8 ready. -/
def livePort : Port :=
  { Port.powerOn true with
    st := .live, profile := profile, validFrames := 8, staleness := .running 40,
    ring := ⟨⟨.reading, some 7⟩, ⟨.ready, some 8⟩, Slot.empty⟩ }

/-- A frame in flight in slot 2, with `n` lines so far. -/
def flightAt (n : Nat) : Flight := ⟨2, n, false, false, [], 0, []⟩

/-- The port in service with that frame in flight. -/
def flyingPort (n : Nat) : Port :=
  { livePort with flight := some (flightAt n), ring := ⟨⟨.reading, some 7⟩, ⟨.ready, some 8⟩, ⟨.filling, none⟩⟩ }

/-- An IDLE channel with nothing waiting. -/
def idleChannel : Channel := Channel.powerOn false

/-- A channel with a transaction in flight. -/
def busyChannel (t : Transaction) : Channel := { idleChannel with active := true, flight := some t, timer := .running 25 }

/-- A transaction of a pass-through, at a step. -/
def passAt (read : Bool) (count : Nat) (step : XferStep) (got : List Byte) : Transaction :=
  ⟨.pass ⟨9, 0x30⟩, 0x21, read, 0x0104, count, [0xAA, 0xBB], step, got, false⟩

/-- A layout slot that is VALID and cheap to evaluate: bytes past the end of a content read 0, so every tile names camera
0, which has a grid. -/
def validSlot : LayoutSlot := ⟨some [], ⟨some [], some [], some [], some []⟩⟩

/-- Boot over without an image, port 0 in service on a locked link, links 1 to 3 unlocked, slot 1 VALID. -/
def running : State :=
  { State.reset with
    ports := ⟨livePort, Port.powerOn false, Port.powerOn false, Port.powerOn false⟩
    layouts.slots := ⟨⟨none, Quad.fill none⟩, validSlot, ⟨none, Quad.fill none⟩, ⟨none, Quad.fill none⟩⟩
    store := { Store.powerOn [] with access := [], boot := { Boot.begin with status := .none } } }

/-- The last moment at which a request is taken at once: 31 places taken. -/
def edge (s : State) : State := { s with mgmt.reserved := 31 }

def withPort (p : Port) : State := { running with ports.c0 := p }
def withChan (c : Channel) : State := { running with chans.c0 := c }
def withLoad (l : LoadContext) : State := { running with mgmt.load := l }
def withBind (b : Bindings) : State := { running with modes.bind := b }
def withLine (l : Line) : State := { running with veh.lines.l3 := l }
def withBoot (access : List Access) (b : Boot) : State :=
  { running with store := { running.store with access := access, boot := b } }

/-! ## The step -/

theorem test_step_takes_the_front : step { running with pending := [.lockGained 1, .turnover] } =
    exec (.lockGained 1) { running with pending := [.turnover] } := rfl

/-- R126: an age rises by 1, to 65535 at most, and a sensor without a reading stays at 0. -/
theorem test_ages : (Sensor.tick ⟨.noEcho, 65534⟩).age = 65535 ∧ (Sensor.tick ⟨.range 5, 65535⟩).age = 65535 ∧
    (Sensor.tick ⟨.none, 0⟩).age = 0 := by decide

theorem witness_idle_step : State.reset.pending = [] ∧ (running.port 0).staleness = .running 40 ∧
    ((withChan (busyChannel (passAt true 2 .device []))).chan 0).timer = .running 25 := by decide

/-! ## Power-on and resets (R154, R168, R169) -/

/-- A page write in flight behind the accesses in front of it. -/
def pageOne : PageWrite := ⟨⟨5, 0x60⟩, 32, List.replicate 32 1⟩
def pageBehind (front : List Access) : State :=
  { running with store := { running.store with
      access := front ++ [.pageWrite], writing := some pageOne, writeTimer := .running 20 } }
def pageInFlight : State := pageBehind []
/-- The same behind a read of the page's first 24 bytes. -/
def readAhead : State := pageBehind [.storeRead ⟨6, 0x61⟩ 32]

theorem test_power_on_starts_boot : (after .powerOn running).store.access = [.bootHeader] ∧
    (after .powerOn running).tx.frameNo = 0 := by decide
theorem test_full_reset_in_blanking :
    (after (.resetFull 9) { running with tx := { running.tx with frameNo := 41, phase := .blanking } }).tx.header.frameNo = 42 ∧
    (after (.resetFull 9) { running with tx := { running.tx with frameNo := 41, phase := .blanking } }).tx.header.responses =
      [⟨9, 0x70, .done, []⟩] := by decide
/-- R172: the write goes on and the first boot read waits for it, 20 ms at most or to its report; a read is dropped. -/
theorem test_full_reset_waits_for_a_page : (after (.resetFull 9) readAhead).store.bootWait = .running 20 ∧
    (after (.resetFull 9) readAhead).store.access = [.lateWrite pageOne, .bootHeader] ∧
    (after .pageWriteComplete (after (.resetFull 9) readAhead)).store.bootWait = .stopped := by decide
theorem test_view_reset_restarts_a_port : ((after (.resetView 3) running).port 0).st = .acquiring ∧
    ((after (.resetView 3) running).port 0).staleness = .running 100 ∧
    ((after (.resetView 3) running).camBal 0).gain = 256 := by decide
/-- A write with a read before it has not begun at a power-on (R172). -/
theorem witness_power_on : writesAhead pageInFlight.store.writing pageInFlight.store.access = [pageOne] ∧
    writesAhead readAhead.store.writing readAhead.store.access = [] := by decide
theorem witness_full_reset : (edge running).takesAtOnce ∧ running.tx.phase ≠ .blanking ∧ pageInFlight.takesAtOnce ∧
    running.store.writes = [] ∧ pageInFlight.store.writes = [pageOne] ∧
    ({ running with tx.phase := .blanking } : State).takesAtOnce := by decide
theorem witness_view_reset : (edge running).takesAtOnce ∧ profileEnabled (running.port 0).profile = true ∧
    (running.port 0).lock = true ∧ profileEnabled (running.port 1).profile = false := by decide

/-! ## Invariants -/

/-- A state that the invariants' witnesses share: a frame in flight, a request waiting for a pass-through. -/
def busy : State :=
  { withPort (flyingPort 3) with
    chans.c0 := busyChannel (passAt true 2 .device [])
    mgmt.reserved := 1
    pending := [.turnover] }

theorem witness_ports_consistent : PortsConsistent busy ∧ ∃ t, step busy = .next t := by
  refine ⟨?_, _, rfl⟩
  intro p
  fin_cases p <;> simp only [PortConsistent]
  · refine ⟨fun i => ?_, by decide, by decide, by decide, by decide⟩
    fin_cases i
    · exact ⟨by decide, by rintro ⟨f, h, e⟩; cases h; exact absurd e (by decide)⟩
    · exact ⟨by decide, by rintro ⟨f, h, e⟩; cases h; exact absurd e (by decide)⟩
    · exact ⟨fun _ => ⟨_, rfl, rfl⟩, fun _ => rfl⟩
  all_goals
    refine ⟨fun i => ⟨?_, by rintro ⟨f, h, -⟩; cases h⟩, by decide, by decide, by decide, by decide⟩
    fin_cases i <;> decide

theorem witness_channels_and_responses : ChannelsConsistent busy ∧ ResponsesAccounted busy ∧ ∃ t, step busy = .next t := by
  unfold ChannelsConsistent ResponsesAccounted
  exact ⟨by decide, by decide, _, rfl⟩

theorem witness_memories_sound : MemoriesSound busy ∧ ∃ t, step busy = .next t := by
  refine ⟨⟨by decide, by decide, ?_, ?_, by decide, by decide, ?_⟩, _, rfl⟩
  · intro p; fin_cases p <;> decide
  · intro w hw; cases hw; intro c; fin_cases c <;> decide
  · intro w hw; rcases hw with h | h <;> cases h

theorem witness_tables_checked_gains : TablesChecked State.reset ∧ GainsInRange State.reset ∧
    ∃ t, step State.reset = .next t := by
  refine ⟨?_, by unfold GainsInRange; decide, _, rfl⟩
  refine ⟨by decide, by decide, by decide, by decide, by decide, by decide, by decide, by decide, by decide, ?_, ?_, ?_,
    by decide, ?_⟩
  · intro e he; cases he
  · intro i m h; fin_cases i <;> cases h
  · intro i c m h; fin_cases i <;> fin_cases c <;> cases h
  · intro d hd; cases hd

theorem witness_modes_consistent : ModesConsistent (withBind ⟨some 1, none, none, none⟩) ∧
    ∃ t, step (withBind ⟨some 1, none, none, none⟩) = .next t := by
  refine ⟨⟨?_, ?_, rfl, by decide⟩, _, rfl⟩
  · intro m i h
    cases m <;> cases h
    decide +kernel
  · intro i h; cases h

/-- A half that is being sent, one line with one sample. -/
def sendingHalf : State := { running with comp.half0 := ⟨.sending, 0, [[⟨235, 240⟩]]⟩ }
theorem witness_halves_in_range : HalvesInRange sendingHalf ∧ ∃ t, step sendingHalf = .next t := by
  refine ⟨⟨?_, ?_⟩, _, rfl⟩
  · unfold Sample.inRange; decide
  · intro l h; cases h
/-- Line 4 is the first of band 0, line 36 the first of band 1; lines 580 to 599 are blanking (R147, R148). -/
theorem test_line_samples : sendingHalf.lineSample 4 0 = ⟨235, 240⟩ ∧ sendingHalf.lineSample 36 0 = ⟨16, 128⟩ ∧
    sendingHalf.lineSample 580 0 = ⟨16, 128⟩ ∧ sendingHalf.lineSample 599 1023 = ⟨16, 128⟩ := by decide
/-- A half being sent with its 32 lines of 1024 samples. -/
def fullHalf : Half := ⟨.sending, 0, List.replicate 32 (List.replicate 1024 ⟨16, 128⟩)⟩
theorem witness_sent_line : (({ running with comp.half0 := fullHalf } : State).comp.half 0) = fullHalf ∧
    fullHalf.lines.length = 32 ∧ (∀ l ∈ fullHalf.lines, l.length = 1024) ∧ 579 = 4 + 32 * 17 + 31 := by
  refine ⟨rfl, List.length_replicate, ?_, rfl⟩
  intro l h
  rw [List.eq_of_mem_replicate h, List.length_replicate]
theorem test_active_sample : sendingHalf.activeSample 0 0 0 = ⟨235, 240⟩ ∧ sendingHalf.activeSample 1 0 0 = ⟨16, 128⟩ := by
  decide

/-! ## Whole-part rules -/

/-- A frame composed through slot 1. -/
def composing : State :=
  { withBind ⟨some 1, none, none, none⟩ with
    layouts.inUse := some 1
    comp.plan := ⟨some 1, Quad.fill false, Quad.fill none, Quad.fill 256⟩ }
theorem witness_plan_held : ModesConsistent composing ∧ composing.comp.plan.slot = some 1 ∧
    ∃ t, exec .staleExpiry composing = .next t ∧ t.comp.plan.slot = some 1 := by
  refine ⟨⟨?_, ?_, rfl, by decide⟩, rfl, _, rfl, rfl⟩
  · intro m i h
    cases m <;> cases h
    decide +kernel
  · intro i h; cases h; decide +kernel
theorem witness_frame_number : (∃ t, exec .powerOn running = .next t) ∧ (∃ t, exec .frameStart running = .next t) ∧
    ∃ t, exec .turnover running = .next t := ⟨⟨_, rfl⟩, ⟨_, rfl⟩, ⟨_, rfl⟩⟩
theorem test_frame_number_wraps :
    (after .frameStart { running with tx.frameNo := 0xFFFFFFFF }).tx.frameNo = 0 := by decide
/-- R168: a RESET FULL that waited is taken at a turnover and puts the plan back to its power-on value. -/
theorem test_queued_reset_clears_the_plan :
    (after .turnover { composing with mgmt.queue := [⟨3, 0x70, [0]⟩] }).comp.plan = Plan.powerOn ∧
    (after .turnover { composing with mgmt.queue := [⟨3, 0x70, [0]⟩] }).tx.header.responses = [⟨3, 0x70, .done, []⟩] := by
  decide +kernel
/-- R171: 0xC3, the first byte of the marker, as luma 16 + 12 * 12 and 16 + 12 * 3. -/
theorem test_header_samples : running.headerSample 0 0 = ⟨160, 128⟩ ∧ running.headerSample 0 1 = ⟨52, 128⟩ ∧
    running.headerSample 3 1023 = ⟨16, 128⟩ := by decide +kernel
theorem witness_header_lines : 2 * running.tx.header.block.length ≤ 1024 * 3 + 1023 ∧
    0 < running.tx.header.block.length ∧ running.tx.header.responses.length ≤ 8 := by decide +kernel

/-! ## Records, the request queue (R157 to R160) -/

/-- A RELEASE-VIEW record as the formats section lays it out: type, tag, kind, length 0, CRC-16. -/
def releaseRecord : List Byte := withCrc16 [0x01, 7, 0x12, 0]
theorem test_request_record_is_its_command :
    (after (.requestRecord releaseRecord) running).mgmt.filled = [⟨7, 0x12, .done, []⟩] := by decide +kernel
theorem test_bad_crc_is_lost : (after (.requestRecord [0x01, 7, 0x12, 0, 0, 0]) running).mgmt.lost = 1 := by
  decide +kernel
/-- Field order of the request payloads, one request of each family, read from bytes written out by the formats section. -/
theorem test_payloads_read :
    parseRequest 0x01 [3, 0, 2, 0x00, 0x13, 0x11, 0x22, 0x33, 0x44] = .ok (.loadBegin 3 0 2 0x0013 0x11223344) ∧
    parseRequest 0x05 [9, 0, 0, 0x07, 0xE8, 24] = .ok (.tableRead 9 0 0 2024 24) ∧
    parseRequest 0x10 [2, 0xFF] = .ok (.bindMode 2 0xFF) ∧
    parseRequest 0x30 [3, 0x21, 1, 0x01, 0x04, 2] = .ok (.camXfer 3 0x21 1 0x0104 2 []) ∧
    parseRequest 0x50 [0x01, 0x00, 0x80] = .ok (.eventEnable 0x800001) ∧
    parseRequest 0x61 [0xFF, 0xE8] = .ok (.storeRead 0xFFE8) ∧ parseRequest 0x12 [0] = .badLength ∧
    parseRequest 0x99 [] = .unknownKind := by decide

/-- A state with `n` requests waiting behind a full response queue. -/
def waiting (n : Nat) : State :=
  { running with mgmt := { running.mgmt with reserved := 30, filled := [⟨0, 0, .done, []⟩, ⟨1, 0, .done, []⟩],
                                             queue := List.replicate n ⟨0, 0x12, []⟩ } }
theorem test_hold_at_twelve : (after (.releaseView 1) (waiting 11)).mgmt.hold = true ∧
    (after (.releaseView 1) (waiting 10)).mgmt.hold = false := by decide
theorem test_seventeenth_is_lost : (after (.releaseView 1) (waiting 16)).mgmt.lost = 1 ∧
    (after (.releaseView 1) (waiting 16)).mgmt.queue.length = 16 := by decide
theorem test_unknown_kind : (after (.unknownKind 4 0x99 []) running).mgmt.filled = [⟨4, 0xFF, .unknownKind, []⟩] := by
  decide

theorem witness_round_trip : (Req.loadData 0 (List.replicate 48 0)).fits = true ∧
    (Req.reset 1).command 3 = some (.resetView 3) ∧ (Req.storeWrite 0 (List.replicate 32 0)).fits = true := by decide
theorem witness_bad_records : ([0x03] : List Byte).head? ≠ some 0x02 ∧ ([0x03] : List Byte).head? ≠ some 0x01 ∧
    56 < byteAt [0x01, 0, 0, 57] 3 ∧ ([0x01, 0, 0, 1] : List Byte).length ≠ 6 + byteAt [0x01, 0, 0, 1] 3 ∧
    u16At [0x01, 7, 0x12, 0, 0, 0] 4 ≠ (crc16 [0x01, 7, 0x12, 0]).toNat := by decide +kernel
theorem witness_request_queue : Req.releaseView.fits = true ∧ Req.releaseView.command 1 = some (.releaseView 1) ∧
    32 ≤ (waiting 16).mgmt.reserved + (waiting 16).mgmt.filled.length ∧ 16 ≤ (waiting 16).mgmt.queue.length ∧
    32 ≤ (waiting 15).mgmt.reserved + (waiting 15).mgmt.filled.length ∧ (waiting 15).mgmt.queue.length < 16 := by decide
/-- The turnover takes both responses into its header, and the two oldest of five requests then leave the queue: the first
leaves 4 behind it and clears HOLD (R158, R159). -/
theorem test_turnover_takes_requests_up : (after .turnover { waiting 5 with mgmt.hold := true }).mgmt.queue.length = 3 ∧
    (after .turnover { waiting 5 with mgmt.hold := true }).mgmt.hold = false := by decide
theorem witness_take_up : (waiting 5).mgmt.queue = Req.releaseView.toRequest 0 :: List.replicate 4 ⟨0, 0x12, []⟩ ∧
    (List.replicate 4 (⟨0, 0x12, []⟩ : Request)).length = 4 ∧ Req.releaseView.command 0 = some (.releaseView 0) ∧
    ({ waiting 5 with mgmt.filled := [⟨0, 0, .done, []⟩] } : State).mgmt.reserved + 1 < 32 ∧
    (Req.reset 0).fits = true ∧ (Req.reset 0).command 3 = some (.resetFull 3) ∧
    (Req.reset 0).toRequest 3 = ⟨3, 0x70, [0]⟩ ∧ (waiting 0).mgmt.queue = [] ∧
    32 ≤ (waiting 5).mgmt.reserved + (waiting 5).mgmt.filled.length := by decide
/-- R160, R168: a BIND-MODE of one byte, and a RESET of 2, as a command and as a record. -/
theorem test_bad_payloads : (after (.unknownKind 4 0x10 [1]) running).mgmt.filled = [⟨4, 0x10, .badArgument, []⟩] ∧
    (after (.unknownKind 4 0x70 [2]) running).mgmt.filled = [⟨4, 0x70, .badArgument, []⟩] ∧
    (after (.requestRecord (withCrc16 [0x01, 4, 0x70, 1, 2])) running).mgmt.filled = [⟨4, 0x70, .badArgument, []⟩] := by
  decide +kernel
theorem witness_bad_payloads : ([1] : List Byte).length < 2 ∧ 50 < (List.replicate 51 (0 : Byte)).length ∧
    (2 : Byte) ≠ 0 ∧ (2 : Byte) ≠ 1 ∧ (0x10 : Byte).toNat = 0x10 := by decide
theorem witness_unknown_kind : (edge running).takesAtOnce ∧ (0x71 : Byte).toNat ∉ listedKinds ∧
    (List.replicate 56 (0 : Byte)).length ≤ 56 := by decide

/-! ## Loads (R162 to R165), TABLE-READ (R161), events (R167) -/

/-- An OPEN load of `d` with `total` bytes announced, and the CRC-32 of its content. -/
def opened (d : TableLoad) (total : Nat) : LoadContext :=
  ⟨.opened, d, total, crc32 d.content, 0, .running 500, ⟨0, 0⟩⟩

/-- MODE-RULES with turn speed 200, kerb speed 40, kerb release 60, dwell 10. -/
def rulesLoad : TableLoad := ⟨.modeRules, 0, 0, [0, 200, 0, 40, 0, 60, 10]⟩

theorem test_load_end_waits : (after (.loadEnd 6) (withLoad (opened rulesLoad 7))).mgmt.load.st = .applying ∧
    (after (.loadEnd 6) (withLoad (opened rulesLoad 7))).mgmt.reserved = 1 := by decide +kernel
theorem test_load_end_bad_content :
    (after (.loadEnd 6) (withLoad (opened { rulesLoad with content := [0, 200, 0, 60, 0, 60, 10] } 7))).mgmt.filled =
      [⟨6, 0x03, .badContent, [0, 0]⟩] := by decide +kernel
theorem test_load_data_out_of_order : (after (.loadData 2 1 []) (withLoad (opened rulesLoad 7))).mgmt.filled =
    [⟨2, 0x02, .sequence, []⟩] := by decide
theorem test_load_begin : (after (.loadBegin 1 10 0 0 7 0) running).mgmt.load.st = .opened ∧
    (after (.loadBegin 1 10 0 0 8 0) running).mgmt.filled = [⟨1, 0x01, .badArgument, []⟩] := by decide
theorem test_load_abort : (after (.loadAbort 1) running).mgmt.filled = [⟨1, 0x04, .noLoad, []⟩] := by decide
theorem test_load_timer : (after .loadTimerExpiry (withLoad (opened rulesLoad 7))).mgmt.status = 0x100000 := by decide
/-- R103's power-on dwell of 30 is the last of the table's seven bytes. -/
theorem test_table_read : (after (.tableRead 5 10 0 0 6 1) running).mgmt.filled = [⟨5, 0x05, .done, [30]⟩] ∧
    (after (.tableRead 5 1 0 0 0 1) running).mgmt.filled = [⟨5, 0x05, .notReady, []⟩] := by decide
theorem test_event_enable_sets_attention :
    (after (.eventEnable 1 2) { running with mgmt.status := 2 }).attentionFlag = true := by decide
theorem test_event_ack : (after (.eventAck 1 1) { running with mgmt.status := 3 }).mgmt.status = 2 := by decide

theorem witness_loads : (edge running).takesAtOnce ∧ running.mgmt.load.st = .idle ∧
    running.store.boot.status ≠ .running ∧ destOf 1 3 0 = some ⟨.tileMap, 3, 0, []⟩ ∧ (3456 : BitVec 16).toNat ≤ 3456 ∧
    running.isBound 3 = false ∧ running.layouts.inUse ≠ some 3 ∧ (edge (withLoad (opened rulesLoad 55))).takesAtOnce ∧
    (List.replicate 48 (0 : Byte)).length ≤ 48 ∧ (0 : BitVec 16).toNat = (opened rulesLoad 55).nextSeg ∧
    rulesLoad.content.length + 48 ≤ (opened rulesLoad 55).total ∧ (opened rulesLoad 55).timer = .running 500 := by decide
theorem witness_load_end : (edge (withLoad (opened rulesLoad 7))).takesAtOnce ∧
    (opened rulesLoad 7).total ≤ rulesLoad.content.length ∧ contentCheck .modeRules rulesLoad.content = none ∧
    Table.modeRules.isLayout = false ∧ Table.warpGrid.isLayout = true := by decide
/-- A warp grid of 627 INVALID vertices passes its check. -/
def gridLoad : TableLoad := ⟨.warpGrid, 3, 2, List.replicate 2508 0xFF⟩
theorem grid_passes : contentCheck .warpGrid gridLoad.content = none := by
  have h : (List.range 627).find? (fun i => decide ((List.replicate 2508 (0xFF : Byte)).length < 4 * (i + 1)) ||
      !vertexOk (sliceOf (List.replicate 2508 0xFF) (4 * i) 4)) = none := by
    rw [List.find?_eq_none]
    intro i hi
    have hi' : i < 627 := List.mem_range.mp hi
    have h4 : sliceOf (List.replicate 2508 (0xFF : Byte)) (4 * i) 4 = List.replicate 4 0xFF := by
      rw [sliceOf, List.drop_replicate, List.take_replicate]
      congr 1
      omega
    rw [h4, List.length_replicate]
    have h5 : vertexOk (List.replicate 4 0xFF) = true := by decide
    simp only [h5, Bool.not_true, Bool.or_false, decide_eq_true_eq]
    omega
  show recordsCheck 627 4 vertexOk (List.replicate 2508 0xFF) = none
  rw [recordsCheck, firstBad, h]
  dsimp only
  rw [List.length_replicate, if_neg (by omega)]
theorem witness_load_end_of_a_grid : contentCheck .warpGrid gridLoad.content = none ∧
    (withLoad (opened gridLoad 2508)).isBound 3 = false := ⟨grid_passes, by decide⟩
theorem witness_load_refusals : (edge (withLoad (opened rulesLoad 7))).takesAtOnce ∧ destOf 11 0 0 = none ∧
    destOf 1 4 0 = none ∧ destOf 2 3 3 = some ⟨.warpGrid, 3, 3, []⟩ ∧ Table.warpGrid.limit < (2509 : BitVec 16).toNat ∧
    (withBind ⟨some 1, none, none, none⟩).isBound 1 = true ∧ (opened rulesLoad 8).total = rulesLoad.content.length + 1 ∧
    contentCheck .modeRules [0, 200, 0, 60, 0, 60, 10] = some 0 ∧ running.mgmt.load.st ≠ .opened := by decide
theorem witness_load_bad_crc : (edge (withLoad { opened rulesLoad 7 with crc := 0 })).takesAtOnce ∧
    crc32 rulesLoad.content ≠ 0 := by decide +kernel
theorem witness_load_in_use : contentCheck .warpGrid gridLoad.content = none ∧
    ({ withLoad (opened gridLoad 2508) with layouts.inUse := some 3 } : State).layouts.inUse = some gridLoad.slot :=
  ⟨grid_passes, rfl⟩
theorem witness_table_read : (edge running).takesAtOnce ∧ destOf 0 0 0 = none ∧
    destOf 10 0 0 = some ⟨.modeRules, 0, 0, []⟩ ∧ running.tableContent ⟨.modeRules, 0, 0, []⟩ = some modeRulesPowerOn ∧
    (0 : BitVec 16).toNat + (7 : Byte).toNat ≤ modeRulesPowerOn.length ∧
    modeRulesPowerOn.length < (0 : BitVec 16).toNat + (8 : Byte).toNat ∧ 24 < (25 : Byte).toNat ∧
    running.tableContent ⟨.tileMap, 0, 0, []⟩ = none ∧ (3432 : BitVec 16).toNat + (24 : Byte).toNat ≤ Table.tileMap.limit := by
  decide
theorem witness_events : (edge running).takesAtOnce ∧ (0x800000 : BitVec 24).getLsbD 23 = true := by decide

/-! ## View requests (R102, R106) -/

theorem test_set_view : (after (.setView 1 2) (withBind ⟨some 1, some 1, none, none⟩)).modes.override = some .turn ∧
    (after (.setView 1 3) (withBind ⟨some 1, some 1, none, none⟩)).mgmt.filled = [⟨1, 0x11, .notReady, []⟩] := by decide
theorem test_bind_mode : (after (.bindMode 1 1 1) running).modes.bind.panorama = some 1 ∧
    (after (.bindMode 1 2 1) running).mgmt.filled = [⟨1, 0x10, .notReady, []⟩] := by decide +kernel
theorem test_release_view : (after (.releaseView 1) { running with modes.override := some .lift }).modes.override = none := by
  decide
theorem witness_view_requests : (edge running).takesAtOnce ∧ modeOf (1 : Byte).toNat = some .panorama ∧
    modeOf (4 : Byte).toNat = some .kerb ∧ 4 < (5 : Byte).toNat ∧ running.modes.bind.of .kerb = none ∧
    (withBind ⟨some 1, none, none, some 1⟩).modes.bind.of .kerb ≠ none ∧
    (withBind ⟨some 1, none, none, some 1⟩).modes.bind.anySpecial = true ∧ 3 < (4 : Byte).toNat ∧ (4 : Byte) ≠ 0xFF ∧
    (3 : Byte).toNat = ((3 : Fin 4) : Nat) ∧ (running.layouts.slots.get 3).condition ≠ .valid := by decide
theorem witness_bind_valid : (running.layouts.slots.get 1).condition = .valid := by decide +kernel

/-! ## Elements (R94, R95) -/

/-- A FRAME element in every mode, colour 4, border 2, at (10, 20), 100 by 50. -/
def frameRecord : List Byte :=
  [4, 0, 31, 0, 0, 0, 15, 4, 0, 10, 0, 20, 0, 100, 0, 50, 2] ++ List.replicate 15 0
def withEdits (edits : List Edit) : State := { running with ovl.edits := edits }
/-- Sixteen entries, for indices 0 to 15. -/
def sixteen : List Edit := (List.range 16).map fun i => ⟨i, none, ⟨0, 0x21⟩⟩

theorem test_element_write_waits : (after (.elementWrite 8 63 frameRecord) running).ovl.edits =
    [⟨63, some frameRecord, ⟨8, 0x20⟩⟩] ∧ (after (.elementWrite 8 63 frameRecord) running).mgmt.filled = [] := by decide
theorem test_element_supersedes :
    (after (.elementClear 9 5) (withEdits [⟨5, some frameRecord, ⟨8, 0x20⟩⟩])).ovl.edits = [⟨5, none, ⟨9, 0x21⟩⟩] ∧
    (after (.elementClear 9 5) (withEdits [⟨5, some frameRecord, ⟨8, 0x20⟩⟩])).mgmt.filled =
      [⟨8, 0x20, .superseded, []⟩] := by decide
theorem witness_elements : (edge (withEdits sixteen)).takesAtOnce ∧ frameRecord.length = 32 ∧ elementOk frameRecord = true ∧
    elementOk (List.replicate 32 9) = false ∧ 63 < (64 : Byte).toNat ∧ (63 : Byte).toNat ≤ 63 ∧
    (∀ e ∈ (withEdits sixteen).ovl.edits, e.index ≠ 16) ∧ 16 ≤ (withEdits sixteen).ovl.edits.length ∧
    sixteen = [⟨0, none, ⟨0, 0x21⟩⟩] ++ ⟨1, none, ⟨0, 0x21⟩⟩ :: sixteen.drop 2 ∧
    (∀ e ∈ [(⟨0, none, ⟨0, 0x21⟩⟩ : Edit)] ++ sixteen.drop 2, e.index ≠ 1) ∧ running.ovl.edits.length < 16 := by decide

/-! ## Camera control channels: the READ of section 8.11 and its like -/

theorem test_read_starts : ((after (.camXfer 9 0 0x21 1 0x0104 2 []) running).chan 0).out =
    [.startMark, .device 0x21 false] := by decide
theorem test_read_restarts : ((after (.cameraAnswer 0 true) (withChan (busyChannel (passAt true 2 .regLow [])))).chan 0).out =
    [.restartMark, .device 0x21 true] := by decide
theorem test_register_rejected :
    (after (.cameraAnswer 0 false) (withChan (busyChannel (passAt true 2 .regLow [])))).mgmt.filled =
      [⟨9, 0x30, .refusedAddress, []⟩] := by decide
theorem test_read_ends : (after (.readByte 0 0x03) (withChan (busyChannel (passAt true 2 .readByte [0x5A])))).mgmt.filled =
    [⟨9, 0x30, .done, [0x5A, 0x03]⟩] ∧
    ((after (.readByte 0 0x03) (withChan (busyChannel (passAt true 2 .readByte [0x5A])))).chan 0).out =
      [.reject, .stopMark] := by decide
/-- R135, R143: at the expiry the pass-through ends TIMEOUT, and the next one in the queue starts in the same step. -/
theorem test_step_timeout :
    (after (.stepTimerExpiry 0) (withChan { busyChannel (passAt true 2 .readByte [0x5A]) with
      queue := [⟨⟨10, 0x30⟩, 0x22, true, 0, 1, []⟩] })).mgmt.filled = [⟨9, 0x30, .timeout, []⟩] ∧
    ((after (.stepTimerExpiry 0) (withChan { busyChannel (passAt true 2 .readByte [0x5A]) with
      queue := [⟨⟨10, 0x30⟩, 0x22, true, 0, 1, []⟩] })).chan 0).out = [.stopMark, .startMark, .device 0x22 false] := by
  decide
theorem test_stop_mark_sent : ((after (.stopMarkSent 0) (withChan { idleChannel with active := true })).chan 0).active = false := by
  decide

/-- The boundaries of test 1 of R138: camera 3 and 4, device 127 and 128, direction 1 and 2, count 1, 16 and 17. -/
theorem witness_cam_xfer : (edge running).takesAtOnce ∧ (List.replicate 16 (0 : Byte)).length = (16 : Byte).toNat ∧
    3 < (4 : Byte).toNat ∧ 127 < (128 : Byte).toNat ∧ 1 < (2 : Byte).toNat ∧ 16 < (17 : Byte).toNat ∧
    (3 : Byte).toNat = ((3 : Cam) : Nat) ∧ (127 : Byte).toNat ≤ 127 ∧ (1 : Byte).toNat ≤ 1 ∧ 1 ≤ (1 : Byte).toNat ∧
    ([0] : List Byte).length ≠ (2 : Byte).toNat ∧ ([0] : List Byte) ≠ [] ∧
    (running.chan 0).active = false ∧ (running.chan 0).nothingWaits ∧ (running.port 0).lock = true ∧
    (running.port 3).lock = false ∧ (running.chan 3).nothingWaits := by decide
/-- R138: a device above 127, a WRITE with too few bytes and a READ with bytes are out of range. -/
theorem test_cam_xfer_out_of_range :
    (after (.camXfer 9 0 128 1 0 1 []) running).mgmt.filled = [⟨9, 0x30, .badArgument, []⟩] ∧
    (after (.camXfer 9 0 1 0 0 2 [0]) running).mgmt.filled = [⟨9, 0x30, .badArgument, []⟩] := by decide
theorem witness_cam_xfer_queue :
    ((withChan { busyChannel (passAt true 2 .device []) with
      queue := List.replicate 3 ⟨⟨0, 0x30⟩, 0, true, 0, 1, []⟩ }).chan 0).queue.length < 4 ∧
    ((withChan { busyChannel (passAt true 2 .device []) with
      queue := List.replicate 4 ⟨⟨0, 0x30⟩, 0, true, 0, 1, []⟩ }).chan 0).queue.length = 4 ∧
    (busyChannel (passAt true 2 .device [])).active = true := by decide
theorem witness_accepted_bytes :
    ((withChan (busyChannel (passAt false 2 (.dataByte 0) []))).chan 0).flight = some (passAt false 2 (.dataByte 0) []) ∧
    0 + 1 < (passAt false 2 (.dataByte 0) []).count ∧ (passAt false 2 .regLow []).read = false ∧
    (passAt true 2 .regLow []).read = true ∧ (passAt true 2 .deviceRead []).step = .deviceRead ∧
    (passAt true 2 .regHigh []).step = .regHigh ∧ (passAt true 2 .device []).step = .device := by decide
/-- The exposure write and the attention read of a channel, at a step. -/
def exposureAt (step : XferStep) : Transaction := ⟨.exposure 440, 0x21, false, 0x0200, 2, [0x01, 0xB8], step, [], true⟩
def attentionAt (step : XferStep) : Transaction := ⟨.attention, 0x21, true, 0x0010, 1, [], step, [], false⟩
theorem witness_camera_answers :
    ((withChan (busyChannel (passAt false 2 (.dataByte 1) []))).chan 0).flight = some (passAt false 2 (.dataByte 1) []) ∧
    ((withChan (busyChannel (passAt false 2 (.dataByte 1) []))).chan 0).nothingWaits ∧
    (passAt false 2 (.dataByte 1) []).count ≤ 1 + 1 ∧ (passAt true 2 .deviceRead []).who = .pass ⟨9, 0x30⟩ ∧
    (exposureAt (.dataByte 1)).who = .exposure 440 ∧ (exposureAt (.dataByte 1)).count ≤ 1 + 1 ∧
    (attentionAt .regHigh).who = .attention ∧ Result.noDevice ≠ .done := by decide
/-- Section 4.7: the nudge of 440 completes, and the cached exposure is 440. -/
theorem test_exposure_write_done :
    ((after (.cameraAnswer 0 true) (withChan (busyChannel (exposureAt (.dataByte 1))))).chan 0).cached = some 440 := by decide
theorem witness_read_bytes :
    ((withChan (busyChannel (passAt true 2 .readByte []))).chan 0).flight = some (passAt true 2 .readByte []) ∧
    (passAt true 2 .readByte []).got.length + 1 < (passAt true 2 .readByte []).count ∧
    (passAt true 2 .readByte [0x5A]).count ≤ (passAt true 2 .readByte [0x5A]).got.length + 1 ∧
    (attentionAt .readByte).count ≤ (attentionAt .readByte).got.length + 1 ∧ (attentionAt .readByte).got = [] ∧
    ((withChan (busyChannel (attentionAt .readByte))).chan 0).nothingWaits := by decide
theorem witness_timeout :
    ((withChan (busyChannel (exposureAt .device))).chan 0).timer = .running 25 ∧
    ((withChan (busyChannel (exposureAt .device))).chan 0).nothingWaits ∧
    (∀ k, (exposureAt .device).who ≠ .pass k) ∧ (passAt true 2 .device []).who = .pass ⟨9, 0x30⟩ ∧
    ((withChan { idleChannel with active := true }).chan 0).flight = none ∧
    ((withChan { idleChannel with active := true }).chan 0).active = true ∧
    ((withChan { idleChannel with active := true }).chan 0).nothingWaits := by
  refine ⟨by decide, by decide, fun k h => ?_, by decide, by decide, by decide, by decide⟩
  cases h
/-- A channel where a pass-through and an exposure write wait, the camera's profile being that of section 4.7. -/
def contended (c : Channel) (attention : Bool) (served : Served) : State :=
  { withPort { livePort with profile := exposing } with
    chans.c0 := { c with
      queue := [⟨⟨10, 0x30⟩, 0x22, true, 0, 1, []⟩], exposure := some 440, attnWaiting := attention, lastServed := served } }
/-- R143: the attention read first; then the one of the two not served last. -/
theorem test_arbiter_order :
    ((after (.stopMarkSent 0) (contended { idleChannel with active := true } true .exposure)).chan 0).flight =
      some (attentionRead exposing 0x0010) ∧
    ((after (.stopMarkSent 0) (contended { idleChannel with active := true } false .passThrough)).chan 0).flight =
      some (exposureWrite exposing ⟨0x0200, 100, 800, 40, 400⟩ 440) ∧
    ((after (.stopMarkSent 0) (contended { idleChannel with active := true } false .exposure)).chan 0).queue = [] := by
  decide
theorem witness_arbiter :
    ((contended (busyChannel (passAt true 2 .device [])) true .exposure).port 0).lock = true ∧
    profileStatus ((contended (busyChannel (passAt true 2 .device [])) true .exposure).port 0).profile = some 0x0010 ∧
    profileExposure ((contended idleChannel true .exposure).port 0).profile = some ⟨0x0200, 100, 800, 40, 400⟩ ∧
    ((contended (busyChannel (passAt true 2 .device [])) true .exposure).chan 0).attnWaiting = true ∧
    ((contended (busyChannel (passAt true 2 .device [])) false .exposure).chan 0).attnWaiting = false ∧
    ((contended (busyChannel (passAt true 2 .device [])) false .exposure).chan 0).lastServed = .exposure ∧
    ((contended (busyChannel (passAt true 2 .device [])) false .passThrough).chan 0).exposure = some 440 := by decide

/-! ## Vehicle lines: the bouncing indicator of section 7.4 -/

/-- Line 3 of section 7.4, with its raw level, debounced level and timer. -/
def indicator (raw debounced : Bool) (timer : Timer) : Line :=
  { Line.powerOn raw with
    cfg := ⟨.input, .activeLow, 20, some .nearsideIndicator, .both, .manual⟩, debounced := some debounced, timer := timer }

theorem test_bounce_stops_the_timer :
    ((after (.rawChange 3 true) (withLine (indicator false true (.running 14)))).line 3).timer = .stopped := by decide
theorem test_steady_level_is_an_edge :
    ((after (.debounceTimerExpiry 3) (withLine (indicator false true (.running 0)))).line 3).debounced = some false ∧
    (after (.debounceTimerExpiry 3) (withLine (indicator false true (.running 0)))).mgmt.status = 0x8000 ∧
    (after (.debounceTimerExpiry 3) (withLine (indicator false true (.running 0)))).veh.roleAsserted .nearsideIndicator =
      true := by decide
theorem test_line_config : ((after (.lineConfig 1 3 2 1 0 0 0 0) running).driven 3) = some true ∧
    (after (.lineConfig 1 8 2 1 0 0 0 0) running).mgmt.filled = [⟨1, 0x40, .badArgument, []⟩] := by decide
theorem test_lines_set_and_clear : ((after (.linesSet 1 0x88) running).line 7).manual = true ∧
    ((after (.linesSet 1 0x88) running).line 6).manual = false ∧
    ((after (.linesClear 1 0x08) (withLine { Line.powerOn false with manual := true })).line 3).manual = false := by decide

theorem witness_lines_set : (edge running).takesAtOnce ∧
    ((withLine { Line.powerOn false with cfg := ⟨.output, .activeLow, 0, none, .none, .manual⟩ }).line 3).cfg.function =
      .output ∧ (0x88 : Byte).getLsbD ((3 : Fin 8) : Nat) = true ∧ (running.line 3).cfg.function ≠ .output ∧
    (withLine { Line.powerOn false with cfg := ⟨.output, .activeHigh, 0, none, .none, .attention⟩ }).veh.lines.get 3 =
      { Line.powerOn false with cfg := ⟨.output, .activeHigh, 0, none, .none, .attention⟩ } := by decide
/-- Line 3 as an OUTPUT of a source, active high. -/
def outputOf (src : OutputSource) : State :=
  withLine { Line.powerOn false with cfg := ⟨.output, .activeHigh, 0, none, .none, src⟩ }
/-- R121: each source's value at an active-high output, asserted and not. -/
theorem test_driven_sources :
    ({ outputOf .attention with mgmt.status := 6, mgmt.enable := 4 } : State).driven 3 = some true ∧
    ({ outputOf .attention with mgmt.status := 6, mgmt.enable := 1 } : State).driven 3 = some false ∧
    (outputOf .cameraFault).driven 3 = some false ∧
    ({ outputOf .cameraFault with ports.c0 := { livePort with st := .frozen } } : State).driven 3 = some true ∧
    ({ outputOf .specialView with veh.sentMode := .kerb } : State).driven 3 = some true ∧
    ({ outputOf .specialView with veh.sentMode := .panorama } : State).driven 3 = some false ∧
    ({ outputOf .zoneNear with veh.near := true } : State).driven 3 = some true ∧
    (outputOf .zoneNear).driven 3 = some false := by decide
theorem witness_driven : ((outputOf .zoneNear).line 3).cfg.source = .zoneNear ∧
    ((outputOf .cameraFault).line 3).cfg.source = .cameraFault ∧
    ((outputOf .specialView).line 3).cfg.source = .specialView ∧ ((outputOf .attention).line 3).cfg.source = .attention ∧
    ((outputOf .manual).line 3).cfg.source = .manual ∧ ((outputOf .manual).line 3).cfg.function = .output := by decide
theorem witness_line_config : (edge running).takesAtOnce ∧ 7 < (8 : Byte).toNat ∧ 2 < (3 : Byte).toNat ∧
    6 < (7 : Byte).toNat ∧ 4 < (5 : Byte).toNat ∧ (7 : Byte).toNat = ((7 : Fin 8) : Nat) ∧
    functionOf (1 : Byte).toNat = some .input ∧ polarityOf (1 : Byte).toNat = some .activeLow ∧
    roleOf (6 : Byte).toNat = some (some .spareB) ∧ edgeOf (3 : Byte).toNat = some .both ∧
    sourceOf (4 : Byte).toNat = some .zoneNear ∧ functionOf (2 : Byte).toNat = some .output ∧
    (running.line 7).cfg.function ≠ .input ∧ (edge (withLine (indicator false true (.running 1)))).takesAtOnce ∧
    ((withLine (indicator false true (.running 1))).line 3).cfg.function = .input := by decide
theorem witness_debounce : (running.line 3).cfg.function ≠ .input ∧ (running.line 3).raw ≠ true ∧
    ((withLine (indicator false true (.running 1))).line 3).cfg.function = .input ∧
    ((withLine (indicator false true (.running 1))).line 3).raw ≠ true ∧
    ((withLine (indicator false true (.running 1))).line 3).debounced = some true ∧
    ((withLine (indicator false true (.running 1))).line 3).timer = .running 1 ∧
    ({ (indicator false false .stopped) with cfg := ⟨.input, .activeLow, 0, none, .none, .manual⟩ } : Line).debounced ≠
      some true := by decide

/-! ## Vehicle data: section 7.9 -/

/-- Five bands with edges -300, -100, 100 and 300, hysteresis 20, no polylines. -/
def fiveBands : List Byte :=
  [5, 20, 0, 0xFE, 0xD4, 0xFF, 0x9C, 0x00, 0x64, 0x01, 0x2C, 0, 0, 0, 0, 0]
def bandsNow : BandTable := bandTableOf fiveBands
theorem test_five_bands : bandsNow.edges = [-300, -100, 100, 300] ∧ bandsNow.hysteresis = 20 ∧
    contentCheck .bands fiveBands = none := by decide
theorem test_bands_of_section_7_9 : nextBand bandsNow .fresh 2 60 = 2 ∧ nextBand bandsNow .fresh 2 110 = 2 ∧
    nextBand bandsNow .fresh 2 125 = 3 ∧ nextBand bandsNow .fresh 3 90 = 3 ∧ nextBand bandsNow .lost 3 70 = 2 := by decide
/-- Sequence 45, angle 70, speed 0, one reading: sensor 4 at 600. -/
def record45 : List Byte := withCrc16 [0x02, 45, 0, 70, 0, 0, 1, 4, 0x02, 0x58]
def atLost : State :=
  { running with veh := { running.veh with state := .lost, band := 3 }, ovl.bands := fiveBands }
theorem test_record_after_lost : (after (.vehicleDataRecord record45) atLost).veh.band = 2 ∧
    ((after (.vehicleDataRecord record45) atLost).veh.sensors.get 4) = ⟨.range 500, 0⟩ ∧
    (after (.vehicleDataRecord record45) atLost).mgmt.status = 0x400000 := by decide +kernel
theorem test_expiries :
    (after .staleExpiry { running with veh := { running.veh with state := .fresh, staleTimer := .running 0 } }).veh.state =
      .stale ∧
    (after .lostExpiry { running with veh := { running.veh with state := .stale, lostTimer := .running 0 } }).veh.state =
      .lost := by decide

theorem witness_vehicle_record : record45.head? = some 0x02 ∧ vehicleRecordOk record45 = true ∧ 0 < byteAt record45 6 ∧
    byteAt record45 7 = ((4 : Fin 8) : Nat) := by decide +kernel
theorem witness_malformed_record : ([0x02, 0, 0, 0, 0, 0, 0, 0, 0] : List Byte).head? = some 0x02 ∧
    u16At [0x02, 0, 0, 0, 0, 0, 0, 0, 0] 7 ≠ (crc16 [0x02, 0, 0, 0, 0, 0, 0]).toNat ∧
    8 < byteAt [0x02, 0, 0, 0, 0, 0, 9] 6 ∧ 7 < byteAt [0x02, 0, 0, 0, 0, 0, 1, 8] (7 + 3 * 0) ∧
    byteAt [0x02, 0, 0, 0, 0, 0, 2, 7, 0, 0, 7] (7 + 3 * 0) = byteAt [0x02, 0, 0, 0, 0, 0, 2, 7, 0, 0, 7] (7 + 3 * 1) := by
  decide +kernel
theorem witness_accepted_record : u16At record45 (record45.length - 2) = (crc16 (record45.take (record45.length - 2))).toNat ∧
    byteAt record45 6 ≤ 8 ∧ record45.length = 9 + 3 * byteAt record45 6 ∧
    (∀ i < byteAt record45 6, byteAt record45 (7 + 3 * i) ≤ 7) ∧
    (∀ j < byteAt record45 6, ∀ i < j, byteAt record45 (7 + 3 * i) ≠ byteAt record45 (7 + 3 * j)) := by decide +kernel
theorem witness_expiries :
    ({ running with veh := { running.veh with state := .fresh, staleTimer := .running 0 } } : State).veh.state = .fresh ∧
    ({ running with veh := { running.veh with state := .stale, lostTimer := .running 0 } } : State).veh.lostTimer =
      .running 0 := by decide

/-! ## Configuration memory and boot (R172 to R175) -/

theorem test_store_write : (after (.storeWrite 1 0xFFE0 (List.replicate 32 7)) running).store.access = [.pageWrite] ∧
    (after (.storeWrite 1 1 (List.replicate 32 7)) running).mgmt.filled = [⟨1, 0x60, .badArgument, []⟩] := by decide
theorem test_store_read : (after (.storeRead 1 0xFFE8) running).store.access = [.storeRead ⟨1, 0x61⟩ 0xFFE8] ∧
    (after (.storeRead 1 0xFFE9) running).mgmt.filled = [⟨1, 0x61, .badArgument, []⟩] := by decide
theorem test_page_write_complete : Memory.read storeDefault (after .pageWriteComplete pageInFlight).store.mem 63 = 1 ∧
    Memory.read storeDefault (after .pageWriteComplete pageInFlight).store.mem 64 = 0xFF ∧
    (after .pageWriteComplete pageInFlight).mgmt.filled = [⟨5, 0x60, .done, []⟩] := by decide
theorem test_write_timeout : (after .writeTimerExpiry pageInFlight).mgmt.filled = [⟨5, 0x60, .timeout, []⟩] ∧
    (after .pageWriteComplete (after .writeTimerExpiry pageInFlight)).mgmt.filled = [⟨5, 0x60, .timeout, []⟩] ∧
    (after .pageWriteComplete (after .writeTimerExpiry pageInFlight)).store.access = [] := by decide
/-- R172: a read made before a page write that expires runs to its end before it, and returns the page's old bytes. -/
theorem test_expired_write_keeps_its_place :
    (after .writeTimerExpiry readAhead).store.access = [.storeRead ⟨6, 0x61⟩ 32, .lateWrite pageOne] ∧
    (after (.storeReadComplete true) (after .writeTimerExpiry readAhead)).mgmt.filled =
      [⟨5, 0x60, .timeout, []⟩, ⟨6, 0x61, .done, List.replicate 24 0xFF⟩] := by decide
/-- A STORE-READ of the first 24 bytes at the interface. -/
def readInFlight : State := { running with store.access := [.storeRead ⟨6, 0x61⟩ 0] }
theorem test_store_read_unanswered : (after (.storeReadComplete false) readInFlight).mgmt.filled =
    [⟨6, 0x61, .done, List.replicate 24 0xFF⟩] := by decide
theorem test_boot_without_memory : (after (.bootHeaderRead false) State.reset).store.boot.status = .none := by decide
/-- An image with no entries: marker, length 0, and the CRC-32 of no bytes, 0. -/
def emptyImage : List Host.Cell :=
  Memory.writeBytes storeDefault [] 0 [0xB0, 0x07, 0x4E, 0x16, 0, 0, 0, 0, 0, 0, 0, 0]
theorem test_boot_of_an_empty_image :
    (after (.bootHeaderRead true) { State.reset with store := Store.powerOn emptyImage }).store.boot.status = .loaded := by
  decide
/-- A boot entry of MODE-RULES at offset 12, the first of an image of `n` entry bytes. -/
def entryAt (n : Nat) : State :=
  { State.reset with store := { Store.powerOn (Memory.writeBytes storeDefault [] 12
      [10, 0, 0, 0, 7, 0, 200, 0, 40, 0, 60, 10]) with access := [.bootEntry], boot := { Boot.begin with length := n } } }
theorem test_boot_entry_is_due : (after (.bootEntryRead true) (entryAt 30)).store.boot.due = some rulesLoad := by decide
theorem test_boot_entry_past_the_image : (after (.bootEntryRead true) (entryAt 11)).store.boot.status = .contentFail := by
  decide
theorem test_boot_wait : (after .bootWaitExpiry { running with store.bootWait := .running 0 }).store.bootWait = .stopped := by
  decide

theorem witness_store_requests : (edge running).takesAtOnce ∧ (List.replicate 32 (0 : Byte)).length = 32 ∧
    (33 : BitVec 16).toNat % 32 ≠ 0 ∧ (0xFFE0 : BitVec 16).toNat % 32 = 0 ∧ State.reset.store.boot.status = .running ∧
    pageInFlight.store.writing ≠ none ∧ running.store.boot.status ≠ .running ∧ running.store.writing = none ∧
    65536 < (0xFFE9 : BitVec 16).toNat + 24 ∧ (0xFFE8 : BitVec 16).toNat + 24 ≤ 65536 := by decide
theorem witness_store_accesses : pageInFlight.store.writing = some ⟨⟨5, 0x60⟩, 32, List.replicate 32 1⟩ ∧
    pageInFlight.store.access = .pageWrite :: [] ∧ pageInFlight.store.writeTimer = .running 20 ∧
    readInFlight.store.access = .storeRead ⟨6, 0x61⟩ 0 :: [] ∧
    (after .writeTimerExpiry pageInFlight).store.access = .lateWrite pageOne :: [] := by decide
/-- A late write in front of each kind of access whose end ends it. -/
def behindLate (a : Access) : State := { running with store.access := [.lateWrite pageOne, a] }
theorem witness_late_writes : (behindLate .bootEntry).store.access = [pageOne].map .lateWrite ++ .bootEntry :: [] ∧
    (behindLate (.storeRead ⟨6, 0x61⟩ 0)).store.access = [pageOne].map .lateWrite ++ .storeRead ⟨6, 0x61⟩ 0 :: [] ∧
    (behindLate .bootHeader).store.access = [pageOne].map .lateWrite ++ .bootHeader :: [] ∧
    (behindLate .bootHeader).store.bootWait = .stopped := by decide
theorem witness_boot_header : State.reset.store.access = .bootHeader :: [] ∧ State.reset.store.bootWait = .stopped ∧
    (Memory.readBytes storeDefault State.reset.store.mem 0 12).take 4 ≠ [0xB0, 0x07, 0x4E, 0x16] ∧
    (Memory.readBytes storeDefault emptyImage 0 12).take 4 = [0xB0, 0x07, 0x4E, 0x16] ∧
    u32At (Memory.readBytes storeDefault emptyImage 0 12) 4 ≤ 65524 ∧
    (crc32 (Memory.readBytes storeDefault emptyImage 12 0)).toNat = u32At (Memory.readBytes storeDefault emptyImage 0 12) 8 ∧
    65524 < u32At [0xB0, 0x07, 0x4E, 0x16, 0x00, 0x00, 0xFF, 0xF5] 4 ∧
    ({ running with store.bootWait := .running 0 } : State).store.bootWait = .running 0 := by decide
theorem witness_boot_entries : (entryAt 13).store.access = .bootEntry :: [] ∧
    Memory.readBytes storeDefault (entryAt 13).store.mem (entryAt 13).store.boot.offset 5 = [10, 0, 0, 0, 7] ∧
    (entryAt 13).store.boot.offset + 5 + 7 < 12 + (entryAt 13).store.boot.length ∧
    destOf 10 0 0 = some ⟨.modeRules, 0, 0, []⟩ ∧
    contentCheck .modeRules (Memory.readBytes storeDefault (entryAt 13).store.mem 17 7) = none ∧
    (entryAt 11).store.boot.offset < 12 + (entryAt 11).store.boot.length ∧
    12 + (entryAt 11).store.boot.length < (entryAt 11).store.boot.offset + 5 + 7 := by decide
/-- An entry for an unknown table, and one for a slot that is bound. -/
theorem witness_boot_skips : destOf 12 0 0 = none ∧ destOf 1 1 0 = some ⟨.tileMap, 1, 0, []⟩ ∧
    (withBind ⟨some 1, none, none, none⟩).isBound 1 = true ∧ Table.modeRules.limit < 8 := by decide
/-- A BINDINGS entry at offset 12, the last of its image: PANORAMA and TURN to slot 1, LIFT and KERB to NONE. -/
def bindingsAt (data : List Byte) : State :=
  { running with store := { Store.powerOn (Memory.writeBytes storeDefault [] 12 ([11, 0, 0, 0, 4] ++ data)) with
      access := [.bootEntry], boot := { Boot.begin with length := 9 } } }
theorem test_boot_bindings : (after (.bootEntryRead true) (bindingsAt [1, 1, 0xFF, 0xFF])).modes.bind =
      ⟨some 1, some 1, none, none⟩ ∧
    (after (.bootEntryRead true) (bindingsAt [1, 1, 0xFF, 0xFF])).store.boot.status = .loaded ∧
    (after (.bootEntryRead true) (bindingsAt [1, 4, 0xFF, 0xFF])).modes.bind.panorama = some 1 ∧
    (after (.bootEntryRead true) (bindingsAt [1, 4, 0xFF, 0xFF])).store.boot.status = .contentFail := by decide +kernel
theorem witness_boot_bindings : (bindingsAt [1, 1, 0xFF, 0xFF]).store.access = .bootEntry :: [] ∧
    Memory.readBytes storeDefault (bindingsAt [1, 1, 0xFF, 0xFF]).store.mem 12 5 = [11, 0, 0, 0, 4] ∧
    (bindingsAt [1, 1, 0xFF, 0xFF]).store.boot.offset + 5 + 4 = 12 + (bindingsAt [1, 1, 0xFF, 0xFF]).store.boot.length ∧
    (∃ t, exec (.bindMode 0 1 1) (bindingsAt [1, 1, 0xFF, 0xFF]) = .next t) ∧
    12 ≤ (bindingsAt []).store.boot.offset ∧ (bindingsAt []).store.boot.length ≤ 65524 :=
  ⟨by decide, by decide, by decide, ⟨_, rfl⟩, by decide, by decide⟩
/-- A boot entry of a whole warp grid for slot 3 and camera 2, with room behind it. -/
theorem witness_boot_grid : destOf 2 3 2 = some ⟨.warpGrid, 3, 2, []⟩ ∧ contentCheck .warpGrid gridLoad.content = none ∧
    State.reset.isBound 3 = false ∧ State.reset.layouts.inUse ≠ some 3 := ⟨by decide, grid_passes, by decide, by decide⟩

/-! ## Camera links (R1 to R18) -/

theorem test_lock_gained : ((after (.lockGained 0) (withPort { livePort with lock := false, st := .absent })).port 0).st =
    .acquiring ∧ (after (.lockGained 0) (withPort { livePort with lock := false, st := .absent })).mgmt.status = 1 := by decide
theorem test_lock_lost : ((after (.lockLost 0) (withPort (flyingPort 3))).port 0).ring =
    ⟨⟨.reading, some 7⟩, ⟨.ready, some 8⟩, ⟨.free, none⟩⟩ ∧
    ((after (.lockLost 0) (withPort (flyingPort 3))).port 0).st = .absent := by decide
theorem test_frame_start_mark : ((after (.frameStartMark 0) running).port 0).flight = some (flightAt 0) := by decide
theorem test_line_received : ((after (.lineReceived 0 [(1, 2)]) (withPort (flyingPort 3))).port 0).bufs =
    [⟨2, 3, [1, 2]⟩] ∧
    (after (.lineReceived 0 [(1, 2)]) (withPort (flyingPort 3))).dram.granted = some (.write 0) := by decide
theorem test_valid_frame : ((after (.frameEndMark 0 800 false) (withPort (flyingPort 800))).port 0).ring =
    ⟨⟨.reading, some 7⟩, ⟨.free, none⟩, ⟨.ready, some 9⟩⟩ ∧
    ((after (.frameEndMark 0 800 false) (withPort (flyingPort 800))).port 0).drops = 1 := by decide
theorem test_discarded_frame : ((after (.frameEndMark 0 799 false) (withPort (flyingPort 800))).port 0).validFrames = 8 ∧
    ((after (.frameEndMark 0 799 false) (withPort { flyingPort 800 with st := .acquiring, acquire := 2 })).port 0).acquire =
      0 := by decide
theorem test_staleness : ((after (.stalenessTimerExpiry 0) running).port 0).st = .stale ∧
    (after (.stalenessTimerExpiry 0) running).mgmt.status = 1 := by decide
/-- R141: the attention flag of a valid frame has the attention read started, register 0x0010 of device 0x21. -/
theorem test_attention_flag_is_read :
    ((after (.frameEndMark 0 800 true) (withPort (flyingPort 800))).chan 0).flight.map (fun t => (t.register, t.device)) =
      some (0x0010, 0x21) := by decide

/-- R20: the waiting line writes of a frame that ends are withdrawn, and one that is granted runs to its end. -/
def twoLines (granted : Option Grant) : State :=
  { withPort { flyingPort 3 with bufs := [⟨2, 1, [7]⟩, ⟨2, 2, [8]⟩] } with dram.granted := granted }
theorem test_discarded_lines_are_withdrawn :
    ((after (.lockLost 0) (twoLines (some (.write 0)))).port 0).bufs = [⟨2, 1, [7]⟩] ∧
    ((after (.lockLost 0) (twoLines none)).port 0).bufs = [] ∧
    ((after (.frameEndMark 0 799 false) (twoLines (some (.write 0)))).port 0).bufs = [⟨2, 1, [7]⟩] ∧
    ((after (.frameStartMark 0) (twoLines (some (.write 0)))).port 0).bufs = [⟨2, 1, [7]⟩] := by decide
theorem witness_lock_and_staleness : ((withPort { livePort with lock := false, st := .absent }).port 0).st = .absent ∧
    (running.port 1).st ≠ .absent ∧ (running.port 0).staleness = .running 40 ∧ (running.port 0).st = .live ∧
    ((withPort { livePort with st := .acquiring }).port 0).st = .acquiring := by decide
/-- R136: the pass-through in flight and the one that waits end NO-LINK, and the exposure write sets CHANNEL-FAULT. -/
theorem test_lock_lost_at_the_channel :
    (after (.lockLost 0) (contended (busyChannel (passAt true 2 .device [])) false .exposure)).mgmt.filled =
      [⟨9, 0x30, .noLink, []⟩, ⟨10, 0x30, .noLink, []⟩] ∧
    (after (.lockLost 0) (contended (busyChannel (passAt true 2 .device [])) false .exposure)).mgmt.status = 0x101 := by
  decide
theorem witness_lock_lost : ((withPort (flyingPort 3)).port 0).st ≠ .off ∧ ((withPort (flyingPort 3)).port 0).st ≠ .absent ∧
    ((withPort (flyingPort 3)).port 0).flight = some (flightAt 3) ∧ (running.port 1).st = .off ∧
    (running.port 0).flight = none ∧ ((withPort (flyingPort 3)).chan 0).flight = none ∧
    (busyChannel (passAt true 2 .device [])).flight = some (passAt true 2 .device []) ∧
    (passAt true 2 .device []).who = .pass ⟨9, 0x30⟩ ∧ (attentionAt .device).who = .attention := by decide
theorem witness_frame_start_mark : (running.port 0).lock = true ∧ (running.port 0).st ≠ .off ∧
    (running.port 0).flight = none ∧ ((running.port 0).ring.get 2).st = .free ∧
    (∀ j < (2 : Fin 3), ((running.port 0).ring.get j).st ≠ .free) ∧
    ((withPort (flyingPort 3)).port 0).flight = some (flightAt 3) ∧
    ((((withPort (flyingPort 3)).port 0).ring.set 2 ⟨.free, none⟩).get 2).st = .free := by decide
theorem witness_line_received : ((withPort (flyingPort 799)).port 0).flight = some (flightAt 799) ∧
    (flightAt 799).overrun = false ∧ (flightAt 799).lines < 800 ∧ ((withPort (flyingPort 799)).port 0).bufs.length < 2 ∧
    800 ≤ (flightAt 800).lines ∧ (withPort (flyingPort 799)).dram.granted = none ∧
    (∀ q, q ≠ 0 → ((withPort (flyingPort 799)).port q).bufs = []) ∧
    2 ≤ ({ flyingPort 3 with bufs := [⟨2, 1, []⟩, ⟨2, 2, []⟩] } : Port).bufs.length := by decide
/-- A port that a third valid frame takes from ACQUIRING to LIVE, and its cached exposure (R71). -/
def restoring : State :=
  { withPort { flyingPort 800 with st := .acquiring, acquire := 2, profile := exposing } with
    chans.c0 := { idleChannel with cached := some 440 } }
theorem test_restore_is_handed : ((after (.frameEndMark 0 800 false) restoring).chan 0).flight =
    some (exposureWrite exposing ⟨0x0200, 100, 800, 40, 400⟩ 440) := by decide
theorem witness_valid_frame : ChannelsConsistent (withPort (flyingPort 800)) ∧
    ((withPort (flyingPort 800)).port 0).lock = true ∧ ((withPort (flyingPort 800)).port 0).st = .live ∧
    ((withPort (flyingPort 800)).port 0).flight = some (flightAt 800) ∧ (flightAt 800).lines = 800 ∧
    (flightAt 800).badLine = false ∧ (flightAt 800).overrun = false ∧ (flightAt 800).windows = [] ∧
    profileStatus ((withPort (flyingPort 800)).port 0).profile = some 0x0010 ∧
    ((withPort { flyingPort 800 with st := .acquiring, acquire := 2 }).port 0).st = .acquiring ∧
    ((withPort { flyingPort 800 with st := .frozen }).port 0).st = .frozen ∧
    ((withPort { flyingPort 800 with st := .stale }).port 0).st = .stale := by
  unfold ChannelsConsistent
  decide
theorem witness_restore : ChannelsConsistent restoring ∧ (restoring.port 0).st = .acquiring ∧
    ((after (.frameEndMark 0 800 true) restoring).port 0).st = .live ∧ (restoring.chan 0).cached = some 440 ∧
    profileExposure (restoring.port 0).profile = some ⟨0x0200, 100, 800, 40, 400⟩ := by
  unfold ChannelsConsistent
  decide
/-- A frame whose signature repeats the last one. -/
def repeating : Flight := { flightAt 800 with windows := [⟨0, 0, 8, 8⟩], luma := [[1]] }
theorem witness_repeated_signature : repeating.windows ≠ [] ∧
    some ⟨crc16 repeating.luma.flatten, repeating.windowSet⟩ =
      ({ flyingPort 800 with lastSig := some ⟨crc16 [1], 0⟩ } : Port).lastSig := by decide +kernel
theorem witness_discarded_frame : ((withPort (flyingPort 799)).port 0).flight = some (flightAt 799) ∧
    (flightAt 799).lines ≠ 800 ∧ ((withPort (flyingPort 799)).port 0).lock = true ∧
    ((withPort (flyingPort 799)).port 0).st ≠ .off := by decide

/-! ## DRAM, bands and frames (R15, R20, R53 to R56, R147) -/

/-- The last line of the last slot of port 3 waits and its write is granted. -/
def writing : State :=
  { running with
    ports.c3 := { Port.powerOn true with bufs := [⟨2, 799, [7, 8]⟩] }
    dram.granted := some (.write 3) }
/-- R15: port 3, slot 2, line 799 begins at 11 * 2,048,000 + 799 * 2560. -/
theorem test_dram_write : Memory.read dramDefault (after .dramWriteComplete writing).dram.mem 24573441 = 8 ∧
    ((after .dramWriteComplete writing).port 3).bufs = [] := by decide
theorem memories_of_writing : MemoriesSound writing := by
  refine ⟨by decide, by decide, ?_, ?_, by decide, by decide, ?_⟩
  · intro p; fin_cases p <;> decide
  · intro w hw; cases hw; intro c; fin_cases c <;> decide
  · intro w hw; rcases hw with h | h <;> cases h
theorem witness_dram_write : MemoriesSound writing ∧ writing.dram.granted = some (.write 3) ∧
    (writing.port 3).bufs = ⟨2, 799, [7, 8]⟩ :: [] ∧ portsAfter 3 = [] ++ (0 : Cam) :: [1, 2, 3] :=
  ⟨memories_of_writing, rfl, rfl, rfl⟩

/-- A read of one byte of line 0 of slot 0 of camera 0 is granted, wanted by band 0 or not. -/
def aRead : SourceRead := ⟨0, 0, 0, 4, 1⟩
def reading (wanted : Bool) : State := { running with
  dram := { mem := [(4, 9)], granted := some (.read aRead wanted), lastPort := 3 }
  comp.work := if wanted then some ⟨0, [], Quad.fill [], false⟩ else none }
theorem test_source_read : (after .sourceReadComplete (reading true)).comp.work =
    some ⟨0, [], ⟨[(4, 9)], [], [], []⟩, true⟩ := by decide +kernel
theorem test_unwanted_read : (after .sourceReadComplete (reading false)).comp.work = none ∧
    (after .sourceReadComplete (reading false)).dram.granted = none := by decide
theorem memories_of_reading (wanted : Bool) : MemoriesSound (reading wanted) := by
  refine ⟨by cases wanted <;> decide, by cases wanted <;> decide, ?_, ?_, by cases wanted <;> decide,
    by cases wanted <;> decide, ?_⟩
  · intro p; cases wanted <;> fin_cases p <;> decide
  · intro w hw
    cases wanted <;> cases hw
    intro c; fin_cases c <;> decide
  · intro w hw; rcases hw with h | h <;> cases wanted <;> cases h
theorem witness_source_read : MemoriesSound (reading true) ∧ (reading true).dram.granted = some (.read aRead true) ∧
    (reading true).comp.work = some ⟨0, [], Quad.fill [], false⟩ ∧ MemoriesSound (reading false) ∧
    (reading false).dram.granted = some (.read aRead false) :=
  ⟨memories_of_reading true, rfl, rfl, memories_of_reading false, rfl⟩

/-- The same read, with another behind it. -/
def readingOn : State := { reading true with comp.work := some ⟨0, [aRead], Quad.fill [], false⟩ }
theorem witness_source_read_goes_on : MemoriesSound readingOn ∧ readingOn.dram.granted = some (.read aRead true) ∧
    readingOn.comp.work = some ⟨0, [aRead], Quad.fill [], false⟩ := by
  have h := memories_of_reading true
  refine ⟨⟨h.1, h.2.1, h.2.2.1, ?_, h.2.2.2.2⟩, rfl, rfl⟩
  intro w hw
  cases hw
  intro c; fin_cases c <;> decide

/-- Band `b` is composed and its half is WRITING for it. -/
def composed (b : Nat) : State :=
  { running with comp := { running.comp.setHalf b ⟨.writing, b, []⟩ with
      work := some ⟨b, [], Quad.fill [], true⟩, next := b + 1 } }
/-- The half of band `b` is in a state, and the compositor works on nothing. -/
def halfOf (b : Nat) (st : HalfState) : State :=
  { running with comp := { running.comp.setHalf b ⟨st, b, []⟩ with work := none, next := b + 2 } }

theorem test_band_completion : ((after (.bandCompletion 17) (composed 17)).comp.half 17).st = .complete ∧
    (after (.bandCompletion 17) (composed 17)).comp.work = none := by decide
theorem test_underrun : ((after (.bandStart 17) (composed 17)).comp.half 17).st = .fill ∧
    (after (.bandStart 17) (composed 17)).tx.underrun = ⟨some 17, 1⟩ ∧
    (after (.bandStart 17) (composed 17)).mgmt.status = 0x200000 := by decide
theorem test_band_start : ((after (.bandStart 5) (halfOf 5 .complete)).comp.half 5).st = .sending := by decide
theorem test_band_end : ((after (.bandEnd 5) (halfOf 5 .sending)).comp.half 7).st = .writing ∧
    (after (.bandEnd 17) (halfOf 17 .fill)).comp.half 17 = Half.empty := by decide
theorem test_frame_start : (after .frameStart running).comp.half0.st = .writing ∧
    (after .frameStart running).tx.underrun = ⟨none, 0⟩ := by decide

theorem witness_band_completion : (composed 17).comp.work = some ⟨17, [], Quad.fill [], true⟩ ∧
    (composed 17).comp.next = ((17 : Fin 18) : Nat) + 1 ∧ ((composed 17).comp.half 17).st = .writing ∧
    ((composed 17).comp.half 17).band = 17 ∧ ((composed 4).comp.half 5).st = .free ∧
    (composed 4).comp.work = some ⟨4, [], Quad.fill [], true⟩ := by decide
theorem witness_band_start_and_end : ((halfOf 0 .complete).comp.half 0).st = .complete ∧
    ((composed 17).comp.half 17).st = .writing ∧ ((halfOf 5 .sending).comp.half 5).st = .sending ∧
    ((halfOf 5 .fill).comp.half 5).st = .fill ∧ (halfOf 5 .sending).comp.work = none ∧ (halfOf 5 .sending).comp.next < 18 ∧
    (halfOf 5 .sending).comp.next % 2 = 5 % 2 ∧ 18 ≤ (halfOf 17 .sending).comp.next := by decide

/-! ## The turnover -/

/-- Section 4.3: camera 1 follows camera 0, and the frame just ended gave 1,200,000 and 1,000,000 over 9,600 samples. -/
def balancing : State :=
  { running with
    bal.table := [0xFF, 1, 0, 0, 1, 0, 0xFF, 1, 0, 0xFF, 1, 0]
    comp := { running.comp with
      plan := ⟨some 1, ⟨true, true, false, false⟩, Quad.fill none, Quad.fill 256⟩
      seam.p01 := ⟨1200000, 1000000, 9600⟩ } }
theorem test_turnover_steps_the_gain : ((after .turnover balancing).camBal 1).target = 307 ∧
    ((after .turnover balancing).camBal 1).gain = 260 ∧ ((after .turnover balancing).camBal 0).gain = 256 := by decide
theorem test_turnover_reads_the_ready_slot : ((after .turnover running).port 0).ring =
    ⟨⟨.free, none⟩, ⟨.reading, some 8⟩, ⟨.free, none⟩⟩ ∧
    (after .turnover running).comp.plan.source = ⟨some 1, none, none, none⟩ := by decide

/-- PANORAMA and TURN bound, the indicator's line asserted, no vehicle data: the TURN cause holds (R104). -/
def turning : State :=
  { withBind ⟨some 1, some 1, none, none⟩ with
    modes := { running.modes with bind := ⟨some 1, some 1, none, none⟩, mode := .panorama }
    veh.lines := running.veh.lines.set 3 (indicator false false .stopped) }
theorem test_turnover_takes_the_turn : (after .turnover turning).modes.mode = .turn ∧
    (after .turnover turning).mgmt.status = 0x800000 ∧ (after .turnover turning).tx.header.slot = some 1 := by decide

/-- Mode Rules that wait for the turnover. -/
def applying : State := withLoad { opened rulesLoad 7 with st := .applying, timer := .stopped, ticket := ⟨6, 0x03⟩ }
theorem test_turnover_applies_a_table : (after .turnover applying).modes.rules = rulesLoad.content ∧
    (after .turnover applying).tx.header.responses = [⟨6, 0x03, .done, []⟩] := by decide

theorem witness_turnover : running.mgmt.queue = [] ∧ running.mgmt.load.st ≠ .applying ∧ running.store.boot.due = none ∧
    (∀ c, profileExposure (running.port c).profile = none) ∧ (∀ d ∈ running.dueTables, d.table ≠ .balance) ∧
    running.store.boot.status ≠ .running ∧ running.modes.hold = false ∧ running.modes.mode = .standby ∧
    (∀ d ∈ running.dueTables, d.table ≠ .modeRules) ∧ balancePartner running.bal.table 0 = none := by decide
theorem ports_of_running : PortsConsistent running := by
  intro p
  fin_cases p <;> simp only [PortConsistent] <;>
    refine ⟨fun i => ⟨?_, by rintro ⟨f, h, -⟩; cases h⟩, by decide, by decide, by decide, by decide⟩ <;>
    fin_cases i <;> decide
theorem witness_turnover_plan : running.mgmt.queue = [] ∧ PortsConsistent running ∧ (running.port 0).st = .live ∧
    ((running.port 0).ring.get 1).st = .ready ∧ ((running.port 0).ring.get 0).st = .reading ∧ (running.port 1).st ≠ .live :=
  ⟨rfl, ports_of_running, rfl, rfl, rfl, by decide⟩
theorem witness_turnover_gain : balancing.mgmt.queue = [] ∧ balancePartner balancing.bal.table 1 = some 0 ∧
    balancing.comp.incomplete = false ∧ 1024 ≤ (balancing.comp.seam.pair 1 0).2.2 ∧ (balancing.comp.seam.pair 1 0).1 ≠ 0 ∧
    balancing.comp.plan.live.get 1 = true ∧ balancing.comp.plan.live.get 0 = true ∧
    (∀ d ∈ balancing.dueTables, d.table ≠ .balance ∧ d.table ≠ .cameraProfile) ∧
    balancePartner balancing.bal.table 0 = none := by decide
/-- The turnover of section 4.7's row 30, for camera 1: target at its limit, high run 29, cached exposure 400. -/
def nudging : State :=
  { balancing with
    comp.seam.p01 := ⟨2000000, 1000000, 9600⟩
    bal.cams.c1 := ⟨372, 470, 29, 0, 0⟩
    ports.c1 := { livePort with profile := exposing }
    chans.c1 := { idleChannel with cached := some 400 } }
theorem test_nudge : ((after .turnover nudging).camBal 1).settle = 30 ∧ ((after .turnover nudging).camBal 1).high = 0 ∧
    ((after .turnover nudging).chan 1).flight = some (exposureWrite exposing ⟨0x0200, 100, 800, 40, 400⟩ 440) ∧
    ((after .turnover { nudging with bal.cams.c1 := ⟨372, 470, 28, 0, 0⟩ }).camBal 1).high = 29 := by decide +kernel
theorem witness_nudge : nudging.mgmt.queue = [] ∧ nudging.targetComputed 1 0 ∧
    448 ≤ ((after .turnover nudging).camBal 1).target ∧ 30 ≤ min 255 ((nudging.camBal 1).high + 1) ∧
    profileExposure (nudging.port 1).profile = some ⟨0x0200, 100, 800, 40, 400⟩ ∧ (nudging.chan 1).cached = some 400 ∧
    min 800 (400 + 40) = 440 ∧ (nudging.camBal 1).settle ≤ 1 ∧ ChannelsConsistent nudging ∧ (nudging.port 1).lock = true ∧
    (nudging.chan 1).active = false ∧ 1 < ({ nudging.camBal 1 with settle := 2 } : Balance).settle := by
  unfold ChannelsConsistent
  decide
theorem witness_turnover_mode : turning.mgmt.queue = [] ∧ turning.store.boot.status ≠ .running ∧
    turning.modes.hold = false ∧ turning.modes.mode = .panorama ∧ (∀ d ∈ turning.dueTables, d.table ≠ .modeRules) ∧
    turning.veh.roleAsserted .liftActive = false ∧ turning.veh.roleAsserted .nearsideIndicator = true ∧
    turning.veh.state ≠ .fresh ∧ turning.modes.bind.of .turn ≠ none ∧
    (withBind ⟨some 1, none, none, none⟩).modes.bind.of .turn = none := by decide
/-- The mode is KERB under its override, with two turnovers without a cause behind it and a dwell setting of 2 or 4. -/
def dwelling (setting : Byte) (override : Option Mode) : State :=
  { withBind ⟨some 1, none, none, some 1⟩ with
    modes := { running.modes with
      bind := ⟨some 1, none, none, some 1⟩, mode := .kerb, dwell := 2, override := override
      rules := [0, 200, 0, 40, 0, 60, setting] } }
/-- R108, R109: against PANORAMA, of lower rank, KERB is kept while the count is below the setting and left at it; R113:
under the reset hold it is kept whatever is desired. -/
theorem test_dwell : (after .turnover (dwelling 4 none)).modes.mode = .kerb ∧
    (after .turnover (dwelling 4 none)).modes.dwell = 3 ∧ (after .turnover (dwelling 3 none)).modes.mode = .panorama ∧
    (after .turnover (dwelling 3 (some .kerb))).modes.dwell = 0 ∧
    (after .turnover { dwelling 3 none with modes.hold := true }).modes.mode = .kerb := by decide +kernel
theorem witness_special_mode : (dwelling 4 none).mgmt.queue = [] ∧ (dwelling 4 none).modes.mode = .kerb ∧
    (dwelling 4 none).modes.bind.of .kerb ≠ none ∧ rulesDwell (dwelling 4 none).modes.rules = 4 ∧
    (dwelling 4 none).veh.roleAsserted .liftActive = false ∧ (dwelling 4 none).veh.roleAsserted .nearsideIndicator = false ∧
    (after .turnover (dwelling 4 none)).modes.kerb = false ∧ (dwelling 4 none).modes.override = none ∧
    min 255 ((dwelling 4 none).modes.dwell + 1) < 4 ∧ ({ dwelling 3 none with modes.hold := true } : State).modes.hold = true := by
  decide +kernel
/-- Boot still runs, or ends at this turnover with its due table. -/
def bootDue (offset : Nat) : State :=
  withBoot [] { Boot.begin with length := 12, offset := offset, due := some rulesLoad }
theorem witness_mode_in_boot : (bootDue 23).store.boot.status = .running ∧
    (bootDue 23).store.boot.offset < 12 + (bootDue 23).store.boot.length ∧ (bootDue 24).store.boot.due ≠ none ∧
    12 + (bootDue 24).store.boot.length ≤ (bootDue 24).store.boot.offset ∧
    (withBoot [] Boot.begin).store.boot.due = none := by decide
theorem test_boot_ends_at_the_turnover : (after .turnover (bootDue 24)).store.boot.status = .loaded ∧
    (after .turnover (bootDue 23)).store.access = [.bootEntry] ∧
    (after .turnover (bootDue 24)).modes.rules = rulesLoad.content := by decide
theorem witness_turnover_table : applying.mgmt.queue = [] ∧ applying.mgmt.load.st = .applying ∧
    applying.store.boot.due = none ∧ applying.mgmt.load.dest.table.isLayout = false ∧
    contentCheck applying.mgmt.load.dest.table applying.mgmt.load.dest.content = none := by decide

/-- A table that waits for the turnover, its LOAD-END under tag 6. -/
def waitingTable (d : TableLoad) : State :=
  withLoad { LoadContext.idle with st := .applying, dest := d, ticket := ⟨6, 0x03⟩ }
/-- Check Windows of one window of 8 by 8 pixels at (1272, 792), the farthest corner. -/
def windowsLoad : TableLoad := ⟨.checkWindows, 0, 0, [0x04, 0xF8, 0x03, 0x18, 0, 8, 0, 8]⟩
def bandsLoad : TableLoad := ⟨.bands, 0, 0, fiveBands⟩
def overlayLoad : TableLoad := ⟨.overlay, 0, 0, List.replicate 2048 0⟩
theorem witness_due_tables : (waitingTable windowsLoad).dueTables = [windowsLoad] ∧
    contentCheck .checkWindows windowsLoad.content = none ∧ (waitingTable bandsLoad).dueTables = [bandsLoad] ∧
    (waitingTable overlayLoad).dueTables = [overlayLoad] ∧ (bootDue 24).dueTables = [rulesLoad] ∧
    contentCheck rulesLoad.table rulesLoad.content = none ∧
    (waitingTable rulesLoad).dueTables = [rulesLoad] ∧ (waitingTable rulesLoad).store.boot.due = none ∧
    (waitingTable overlayLoad).mgmt.queue = [] ∧ ChannelsConsistent (waitingTable overlayLoad) ∧
    ∃ u, exec .turnover { waitingTable rulesLoad with modes.rules := rulesLoad.content, mgmt.load.st := .idle } = .next u := by
  unfold ChannelsConsistent
  exact ⟨rfl, by decide, rfl, rfl, rfl, by decide, rfl, rfl, rfl, by decide, _, rfl⟩
theorem test_windows_clear_the_signature :
    ((after .turnover { waitingTable windowsLoad with ports.c0.lastSig := some ⟨5, 0⟩ }).port 0).lastSig = none ∧
    ((after .turnover (waitingTable windowsLoad)).port 0).windows = windowsLoad.content := by decide
/-- R129: angle 110 lies in band 3 of section 7.9's five, whatever the band before. -/
theorem test_bands_are_chosen_afresh :
    (after .turnover { waitingTable bandsLoad with veh.angle := 110, veh.state := .fresh }).veh.band = 3 := by decide

/-- A Camera Profile that enables camera 1, and one that disables camera 0. -/
def enableLoad : TableLoad := ⟨.cameraProfile, 0, 1, exposing⟩
def disableLoad : TableLoad := ⟨.cameraProfile, 0, 0, profilePowerOn⟩
theorem test_profile_enables : ((after .turnover (waitingTable enableLoad)).port 1).st = .absent ∧
    ((after .turnover (waitingTable enableLoad)).chan 1).cached = some 400 ∧
    ((after .turnover (waitingTable disableLoad)).port 0).st = .off := by decide
/-- A newly named status register has the recorded attention flag read (R4, R141). -/
def unnamed : State :=
  { waitingTable ⟨.cameraProfile, 0, 0, exposing⟩ with
    ports.c0 := { livePort with profile := [1] ++ profilePowerOn.drop 1, attention := true } }
theorem test_recorded_attention_is_read : ((after .turnover unnamed).chan 0).flight = some (attentionRead exposing 0x0010) := by
  decide
theorem witness_profile : (waitingTable enableLoad).mgmt.queue = [] ∧ (waitingTable enableLoad).dueTables = [enableLoad] ∧
    PortsConsistent (waitingTable enableLoad) ∧ ChannelsConsistent (waitingTable enableLoad) ∧
    profileEnabled ((waitingTable enableLoad).port 1).profile = false ∧ profileEnabled exposing = true ∧
    profileEnabled ((waitingTable disableLoad).port 0).profile = true ∧ profileEnabled profilePowerOn = false ∧
    ((waitingTable disableLoad).port 0).st = .live ∧ (unnamed.port 0).attention = true ∧
    profileStatus (unnamed.port 0).profile = none ∧ profileStatus exposing = some 0x0010 ∧
    (unnamed.port 0).lock = true ∧ balancePartner (waitingTable enableLoad).bal.table 1 = none ∧
    balancePartner balancing.bal.table 1 = some 0 := by
  have h : ChannelsConsistent (waitingTable enableLoad) := by unfold ChannelsConsistent; decide
  exact ⟨rfl, rfl, ports_of_running, h, by decide, by decide, by decide, by decide, rfl, rfl, by decide, by decide, rfl,
    by decide, by decide⟩
/-- Camera 1 becomes a reference with manual gain 300; camera 2 a follower of camera 1. -/
def balanceLoad : TableLoad := ⟨.balance, 0, 0, [0xFF, 1, 0, 0xFF, 0x01, 0x2C, 1, 1, 0, 0xFF, 1, 0]⟩
theorem test_balance_table : ((after .turnover (waitingTable balanceLoad)).camBal 1).gain = 300 ∧
    ((after .turnover (waitingTable balanceLoad)).camBal 2).gain = 256 := by decide
theorem witness_balance_table : (waitingTable balanceLoad).mgmt.queue = [] ∧
    (waitingTable balanceLoad).dueTables = [balanceLoad] ∧ balancePartner balanceLoad.content 1 = none ∧
    balancePartner balanceLoad.content 2 = some 1 ∧ balancePartner (waitingTable balanceLoad).bal.table 2 = none ∧
    ∃ u, exec .turnover { waitingTable balanceLoad with mgmt.load.st := .idle, store.boot.due := none } = .next u :=
  ⟨rfl, rfl, by decide, by decide, by decide, _, rfl⟩

/-! ## Content checks -/

/-- One band with a polyline of two points. -/
def curved : BandTable := ⟨0, 5, [], [[[(600, 575), (640, 400)]]]⟩
/-- A glyph of 2 by 2 pixels: three of colour 5 and one of colour 1. -/
def cornerGlyph : Glyph × List GlyphRun := (⟨31, 2, 2, [5, 5, 5, 1]⟩, [.repeated 3 5, .literal [1]])
/-- R92, R89: the bytes of the formats section, written out. -/
theorem test_table_bytes : curved.bytes = [1, 0, 5, 1, 2, 0x02, 0x58, 0x02, 0x3F, 0x02, 0x80, 0x01, 0x90] ∧
    glyphBytes cornerGlyph.1 cornerGlyph.2 = [31, 2, 2, 0, 4, 2, 5, 128, 1] ∧ bandsNow.bytes = fiveBands ∧
    contentCheck .bands curved.bytes = none ∧ contentCheck .glyphs (glyphBytes cornerGlyph.1 cornerGlyph.2) = none := by
  decide
theorem witness_band_tables : bandsNow.good ∧ curved.good := by
  constructor <;> exact ⟨⟨by decide, by decide, by decide, by decide, by decide⟩, by decide,
    by unfold curveSetGood; decide⟩
theorem witness_glyphs : GlyphGood cornerGlyph.1 cornerGlyph.2 ∧ ([cornerGlyph].map fun g => g.1.index).Nodup := by
  unfold GlyphGood GlyphRun.good
  decide
/-- R93, R89, R170: the index that a failing BANDS or GLYPHS content names. -/
theorem test_failing_indices : contentCheck .bands [0, 0, 5] = some 0 ∧ contentCheck .bands (curved.bytes ++ [0]) = some 1 ∧
    contentCheck .bands ((BandHeader.mk [7] 0 5).bytes ++ [1, 2, 0, 0, 0, 0, 0, 0, 0, 1] ++ [4]) = some 1 ∧
    contentCheck .glyphs (glyphBytes cornerGlyph.1 cornerGlyph.2 ++ glyphBytes cornerGlyph.1 cornerGlyph.2) = some 1 ∧
    contentCheck .glyphs (glyphBytes cornerGlyph.1 cornerGlyph.2 ++ [6, 1, 1, 0]) = some 1 := by decide
theorem witness_targets : destOf 10 0xFF 0xFF = some ⟨.modeRules, 0, 0, []⟩ ∧ destOf 11 0 0 = none ∧
    destOf 2 3 3 = some ⟨.warpGrid, 3, 3, []⟩ ∧ destOf 2 4 3 = none ∧ destOf 3 4 3 ≠ none ∧ destOf 4 0 4 = none := by
  decide

/-! ## Composition (section 3.7 and R39 to R48) -/

/-- A seam tile of cameras 0 and 1, ACROSS from origin 0 over 32 pixels, as the first of a tile map. -/
def seamRecord : List Byte := [0, 1, 0, 32, 0, 0]
def seamSlot : LayoutSlot := ⟨some seamRecord, ⟨some [], some [], none, none⟩⟩
def seamPlan (live : Bool) : Plan := ⟨some 1, ⟨live, true, true, true⟩, Quad.fill (some 0), ⟨300, 256, 256, 256⟩⟩
def seamSlots (l : LayoutSlot) : Quad LayoutSlot := ⟨l, l, l, l⟩
/-- Camera 0 shows luma 110 and chroma 121, camera 1 luma 140 and chroma 125. -/
def flatFetch (c : Cam) (offset : Nat) : Nat :=
  if c = 0 then (if offset % 2 = 0 then 110 else 121) else (if offset % 2 = 0 then 140 else 125)
/-- At weight 64: luma (129 × 192 + 140 × 64 + 128) div 256 = 132, chroma (121 × 192 + 125 × 64 + 128) div 256 = 122. -/
theorem test_composed_pixel :
    compositorPixel (seamPlan true) (seamSlots seamSlot) palettePowerOn flatFetch 8 5 = ⟨132, 122, 122⟩ ∧
    compositorPixel (seamPlan true) (seamSlots seamSlot) palettePowerOn flatFetch 0 5 = ⟨129, 121, 121⟩ := by decide
/-- Camera 0 not live: hatch, entry 0 or black by (x + y) div 8; with an INVALID corner of camera 1: black. -/
theorem test_treated_pixel :
    compositorPixel (seamPlan false) (seamSlots seamSlot) palettePowerOn flatFetch 8 5 = Pix.black ∧
    compositorPixel (seamPlan false) (seamSlots seamSlot) palettePowerOn flatFetch 12 5 = ⟨128, 128, 128⟩ ∧
    compositorPixel (seamPlan true) (seamSlots { seamSlot with grids.c1 := some [0xFF, 0xFF] }) palettePowerOn flatFetch 8 5 =
      Pix.black := by decide
theorem witness_pixels : (255 : Nat) ≤ 255 ∧ (7 : Int) ≤ 8 ∧ (-1 : Int) < 0 ∧ (0 : Int) + ((255 : Nat) : Int) ≤ 255 ∧
    (8 : Int) < 0 + ((32 : Nat) : Int) ∧ (seamPlan true).slot = some 1 ∧ Plan.powerOn.slot = none ∧
    ((seamSlots seamSlot).get 1).tileMap = some seamRecord ∧ TileGood seamRecord ∧
    rampWeight (s16At seamRecord 4) (byteAt seamRecord 3) 8 = 64 ∧ (seamPlan false).live.get 0 = false ∧
    ((seamSlots seamSlot).get 1).grids.get 1 = some [] ∧ byteAt [0xFF, 0xFF, 0, 0, 0, 0] 0 = 0xFF ∧
    CornerInvalid [0xFF, 0xFF] 8 5 ∧ ¬CornerInvalid [] 8 5 := by
  unfold TileGood CornerInvalid
  decide

/-! ## Overlays (section 5.14, R79 to R91) -/

/-- R91: the frame of border 2 at (10, 20), 100 by 50, covers x 10, 11, 108 and 109 of its rows, and not x 12. -/
theorem test_frame_border : (Look.frame 4 ⟨10, 20, 100, 50⟩ 2).colourAt 11 40 = some 4 ∧
    (Look.frame 4 ⟨10, 20, 100, 50⟩ 2).colourAt 12 40 = none ∧ (Look.frame 4 ⟨10, 20, 100, 50⟩ 2).colourAt 108 40 = some 4 ∧
    (Look.frame 4 ⟨10, 20, 100, 50⟩ 2).colourAt 110 40 = none := by decide
/-- The frame of section 5.14: TURN, live set 0, 1 and 3, NEARSIDE-INDICATOR and STEP-OCCUPIED asserted, STALE, band 4,
sensor 2 at 95 cm and 320 ms; two polylines in band 4, degraded colour 9; glyphs 6 and 7 held. -/
def turnView : FrameView :=
  ⟨.turn, ⟨true, true, false, true⟩, 0b000101, .stale, 4, (Oct.fill ⟨.none, 0⟩).set 2 ⟨.range 95, 320⟩⟩
def turnBands : BandTable := ⟨20, 9, [-300, -100, 100, 300], [[], [], [], [], [[(0, 0), (9, 9)], [(1, 1), (2, 2)]]]⟩
def turnGlyphs : List Byte := [6, 1, 1, 0, 2, 0, 5, 7, 1, 1, 0, 2, 0, 6]
def guideRecord (layer curve : Byte) : List Byte := [1, layer, 6, 0, 0, 0, 6, 3, curve, 3]
def zoneRecord : List Byte :=
  [2, 0, 20, 0, 0, 0, 0, 0, 2, 0, 60, 0, 120, 0, 250, 1, 2, 3, 0, 4, 0, 4, 0, 8, 0, 8, 0]
def iconRecord (layer modes asserted cams glyph : Byte) : List Byte :=
  [3, layer, modes, asserted, 0, cams, 0, 0, glyph, 0, 5, 0, 6]
def turnElements : List (List Byte) :=
  [guideRecord 1 0, guideRecord 1 2, zoneRecord, iconRecord 2 14 4 0 6, iconRecord 3 31 0 4 7, [4, 2, 8]]
theorem test_worked_draw_list : buildDrawList turnView turnBands turnGlyphs turnElements =
    [⟨2, zoneRecord, .zone .mid 2 ⟨4, 4, 8, 8⟩ true⟩, ⟨0, guideRecord 1 0, .guide 9 true 3 [(0, 0), (9, 9)]⟩,
      ⟨3, iconRecord 2 14 4 0 6, .icon 5 6 ⟨6, 1, 1, [5]⟩⟩, ⟨4, iconRecord 3 31 0 4 7, .icon 5 6 ⟨7, 1, 1, [6]⟩⟩] := by
  decide
/-- With the sensor at 55 cm in FRESH the zone is near and the guide solid in its own colour; in LOST neither is shown. -/
theorem test_worked_near :
    nearOf (buildDrawList { turnView with vd := .fresh, sensors := Oct.fill ⟨.range 55, 0⟩ } turnBands [] turnElements) =
      true ∧
    shownEntry { turnView with vd := .fresh } turnBands [] 0 (guideRecord 1 0) =
      some ⟨0, guideRecord 1 0, .guide 3 false 3 [(0, 0), (9, 9)]⟩ ∧
    buildDrawList { turnView with vd := .lost } turnBands [] turnElements = [] := by decide
/-- Section 5.12: at step 96 a dashed guide of width 3 covers x 621 to 623 of row 479, and at step 88, nothing. -/
theorem test_worked_guide_pixels :
    (Look.guide 9 true 3 [(600, 575), (640, 400)]).colourAt 621 479 = some 9 ∧
    (Look.guide 9 true 3 [(600, 575), (640, 400)]).colourAt 620 479 = none ∧
    (Look.guide 9 true 3 [(600, 575), (640, 400)]).colourAt 620 487 = none ∧
    (Look.guide 3 false 3 [(600, 575), (640, 400)]).colourAt 620 487 = some 3 := by decide +kernel
/-- R87, R90: an OUTLINE covers two pixels in from its edge; an icon covers its pixels whose code is not 0. -/
theorem test_zone_and_icon_pixels : (Look.zone .near 1 ⟨4, 4, 8, 8⟩ false).colourAt 10 7 = some 1 ∧
    (Look.zone .near 1 ⟨4, 4, 8, 8⟩ false).colourAt 9 7 = none ∧ (Look.zone .near 1 ⟨4, 4, 8, 8⟩ true).colourAt 9 7 = some 1 ∧
    (Look.icon 5 6 ⟨6, 2, 1, [0, 7]⟩).colourAt 5 6 = none ∧ (Look.icon 5 6 ⟨6, 2, 1, [0, 7]⟩).colourAt 6 6 = some 7 := by
  decide
theorem witness_elements_shown : ElementGood frameRecord ∧ contentCheck .glyphs turnGlyphs = none ∧
    elementOk frameRecord = true ∧ (List.replicate 64 frameRecord).length = 64 ∧
    (∀ rec ∈ List.replicate 64 frameRecord, elementOk rec = true) ∧ contentCheck .palette palettePowerOn = none ∧
    (4 : Nat) ≤ 2 * 2 ∧ InRect ⟨10, 20, 100, 50⟩ 11 40 ∧ (Look.frame 4 ⟨10, 20, 100, 50⟩ 2).colourAt 12 40 = none ∧
    (Look.frame 4 ⟨10, 20, 100, 50⟩ 2).colourAt 11 40 = some 4 := by
  refine ⟨⟨by decide, by decide, by decide, by decide, by decide, by decide, by decide, by decide, by decide, by decide,
    fun h => absurd h (by decide), by decide, fun _ => ⟨by unfold RectGood; decide, by decide, by decide⟩⟩, by decide,
    by decide, rfl, ?_, by decide, by decide,
    by unfold InRect; decide, by decide, by decide⟩
  intro r hr
  rw [List.eq_of_mem_replicate hr]
  decide

end Sys2Proof.Tests
end

section
/-! SUPPORT. The arbiter of a camera control channel (R136, R143), said whole: on an unlocked link everything that waits
ends NO-LINK, and after every arbitration an IDLE channel has nothing waiting. -/

namespace Sys2Proof.Machine

variable (s : State)

/-! ## What waits at a channel -/

/-- The arbiter has no choice exactly where nothing waits (R143). -/
theorem Channel.choose_eq_none (c : Channel) : c.choose = none ↔ c.nothingWaits := by
  unfold Channel.choose Channel.nothingWaits
  cases hq : c.queue <;> cases he : c.exposure <;> cases ha : c.attnWaiting <;> cases hl : c.lastServed <;> simp

/-- How many requesters wait at a channel. -/
def Channel.waiting (c : Channel) : Nat :=
  c.queue.length + (if c.exposure.isSome then 1 else 0) + (if c.attnWaiting then 1 else 0)

/-- A channel whose waiting requesters have all been selected and ended (R136): pass-through and exposure leave their mark
as the one served last. -/
def Channel.drained (c : Channel) : Channel :=
  { c with
    queue := [], exposure := none, attnWaiting := false
    lastServed :=
      if c.queue = [] then (if c.exposure = none then c.lastServed else .exposure)
      else if c.exposure ≠ none ∧ c.lastServed = .exposure ∧ c.queue.length = 1 then .exposure
      else .passThrough }

/-- An exposure write or an attention read waits, whose NO-LINK sets CHANNEL-FAULT (R144). -/
def Channel.faultWaits (c : Channel) : Bool := c.exposure.isSome || c.attnWaiting

theorem Channel.drained_of_nothingWaits (c : Channel) (h : c.nothingWaits) : c.drained = c := by
  obtain ⟨h1, h2, h3⟩ := h
  cases c
  simp_all [Channel.drained]

theorem Channel.faultWaits_of_nothingWaits (c : Channel) (h : c.nothingWaits) : c.faultWaits = false := by
  obtain ⟨-, h2, h3⟩ := h
  simp [Channel.faultWaits, h2, h3]

/-! ## NO-LINK at selection (R136, R143) -/

/-- The state once everything that waits at channel `p`, which is `c`, has ended NO-LINK: each pass-through is answered in
its turn. -/
def State.drain (s : State) (p : Cam) (c : Channel) : State :=
  { s with
    chans := s.chans.set p c.drained
    mgmt := { s.mgmt with
      reserved := s.mgmt.reserved - c.queue.length
      filled := s.mgmt.filled ++ c.queue.map fun x => ⟨x.ticket.tag, x.ticket.kind, .noLink, []⟩
      status := if c.faultWaits then s.mgmt.status ||| eventBit (evChannelFault p) else s.mgmt.status } }

@[simp] theorem State.chan_drain (p : Cam) (c : Channel) : (s.drain p c).chan p = c.drained := by
  simp [State.drain, State.chan]

theorem Channel.drained_nothingWaits (c : Channel) : c.drained.nothingWaits := ⟨rfl, rfl, rfl⟩

theorem State.drain_of_nothingWaits (p : Cam) (h : (s.chan p).nothingWaits) : s.drain p (s.chan p) = s := by
  unfold State.drain
  rw [Channel.drained_of_nothingWaits _ h, Channel.faultWaits_of_nothingWaits _ h, h.1]
  simp [State.chan]

/-- One selection on an unlocked link (R136): the selected requester ends NO-LINK. -/
def State.refuse (s : State) (p : Cam) (ch : Choice) : State :=
  (s.setChan p ((s.chan p).take ch)).handResult p (transactionFor (s.port p).profile ch) .noLink []

theorem State.refuse_attention (p : Cam) :
    s.refuse p .attention = (s.setChan p ((s.chan p).take .attention)).raise (evChannelFault p) := rfl

theorem State.refuse_exposure (p : Cam) (v : Nat) : s.refuse p (.exposure v) =
    (s.setChan p ((s.chan p).take (.exposure v))).raise (evChannelFault p) := rfl

theorem State.refuse_pass (p : Cam) (x : XferRequest) : s.refuse p (.pass x) =
    (s.setChan p ((s.chan p).take (.pass x))).answer x.ticket .noLink := rfl

/-- A selection on an unlocked link leaves the channel with its choice taken (R136). -/
theorem State.chan_refuse (p : Cam) (ch : Choice) : (s.refuse p ch).chan p = (s.chan p).take ch := by
  cases ch with
  | attention => simp [State.refuse_attention]
  | exposure v => simp [State.refuse_exposure]
  | pass x => simp [State.refuse_pass, State.answer]

@[simp] theorem State.refuse_ports (p : Cam) (ch : Choice) : (s.refuse p ch).ports = s.ports := by
  cases ch <;> rfl

@[simp] theorem Channel.take_active (c : Channel) (ch : Choice) : (c.take ch).active = c.active := by
  cases ch <;> rfl

/-- The three selections of the arbiter, by what waits (R143). -/
theorem Channel.choose_cases (c : Channel) (ch : Choice) (h : c.choose = some ch) :
    (ch = .attention ∧ c.attnWaiting = true) ∨
    (∃ v, ch = .exposure v ∧ c.attnWaiting = false ∧ c.exposure = some v ∧
      (c.queue = [] ∨ c.lastServed = .passThrough)) ∨
    (∃ x xs, ch = .pass x ∧ c.attnWaiting = false ∧ c.queue = x :: xs ∧
      (c.exposure = none ∨ c.lastServed = .exposure)) := by
  unfold Channel.choose at h
  cases ha : c.attnWaiting with
  | true => simp_all
  | false =>
    cases hq : c.queue <;> cases he : c.exposure <;> cases hl : c.lastServed <;> simp_all

/-- Taking a choice is one of the steps of draining a channel, and one requester fewer waits. -/
theorem Channel.take_drained (c : Channel) (ch : Choice) (h : c.choose = some ch) :
    (c.take ch).drained = c.drained ∧ (c.take ch).waiting + 1 = c.waiting := by
  obtain ⟨rfl, ha⟩ | ⟨v, rfl, ha, he, hl⟩ | ⟨x, xs, rfl, ha, hq, hl⟩ := c.choose_cases ch h
  · exact ⟨rfl, by simp only [Channel.waiting, Channel.take, ha]; rfl⟩
  · constructor
    · rcases hl with hl | hl <;> by_cases hq : c.queue = [] <;> simp [Channel.drained, Channel.take, he, hl, hq]
    · simp [Channel.take, Channel.waiting, ha, he]
  · constructor
    · rcases hl with hl | hl <;> cases xs <;> simp [Channel.drained, Channel.take, hq, hl]
    · simp [Channel.take, Channel.waiting, ha, hq]
      omega

/-- A selection on an unlocked link is one of the steps of the drain. -/
theorem State.drain_refuse (p : Cam) (ch : Choice) (h : (s.chan p).choose = some ch) :
    (s.refuse p ch).drain p ((s.chan p).take ch) = s.drain p (s.chan p) := by
  have hd := (Channel.take_drained _ _ h).1
  obtain ⟨rfl, ha⟩ | ⟨v, rfl, ha, he, hl⟩ | ⟨x, xs, rfl, ha, hq, hl⟩ := Channel.choose_cases _ _ h
  · rw [State.refuse_attention, State.drain, State.drain, hd]
    simp [State.raise, State.setChan, Channel.take, Channel.faultWaits, ha, BitVec.or_assoc]
  · rw [State.refuse_exposure, State.drain, State.drain, hd]
    simp [State.raise, State.setChan, Channel.take, Channel.faultWaits, ha, he]
  · rw [State.refuse_pass, State.drain, State.drain, hd]
    simp [State.answer, State.answerWith, State.setChan, Channel.take, Channel.faultWaits, hq, Nat.sub_sub,
      Nat.add_comm 1]

/-- On an unlocked link an IDLE channel's arbiter ends everything that waits NO-LINK (R136, R143). -/
theorem State.arbitrateN_unlocked (p : Cam) : ∀ (n : Nat) (s : State), (s.chan p).active = false →
    (s.port p).lock = false → (s.chan p).waiting ≤ n → State.arbitrateN p n s = s.drain p (s.chan p)
  | 0, s, _, _, hn => by
    have hw : (s.chan p).nothingWaits := by
      simp only [Channel.waiting] at hn
      refine ⟨List.length_eq_zero_iff.mp (by omega), ?_, ?_⟩
      · cases he : (s.chan p).exposure with
        | none => rfl
        | some v => simp [he] at hn
      · cases ha : (s.chan p).attnWaiting with
        | false => rfl
        | true => simp [ha] at hn
    rw [State.drain_of_nothingWaits _ _ hw, State.arbitrateN]
  | n + 1, s, ha, hl, hn => by
    rw [State.arbitrateN]
    cases hc : (s.chan p).choose with
    | none =>
      rw [State.drain_of_nothingWaits _ _ ((Channel.choose_eq_none _).mp hc)]
      simp [ha]
    | some ch =>
      have hw := (Channel.take_drained _ _ hc).2
      simp only [ha, hl, Bool.false_eq_true, if_false]
      change State.arbitrateN p n (s.refuse p ch) = _
      rw [State.arbitrateN_unlocked p n _ (by rw [State.chan_refuse, Channel.take_active, ha])
        (by rw [State.port, State.refuse_ports]; exact hl) (by rw [State.chan_refuse]; omega), State.chan_refuse,
        State.drain_refuse _ _ _ hc]

theorem State.arbitrate_unlocked (p : Cam) (ha : (s.chan p).active = false) (hl : (s.port p).lock = false) :
    s.arbitrate p = s.drain p (s.chan p) := by
  refine State.arbitrateN_unlocked p _ s ha hl ?_
  simp only [Channel.waiting]
  split <;> split <;> omega

/-! ## What an arbitration leaves (R131, R136, R143) -/

/-- One channel is consistent on a link whose lock record is `lock` (R136, R138, R143). -/
def ChannelConsistent (c : Channel) (lock : Bool) : Prop :=
  (c.active = false → c.flight = none ∧ c.choose = none) ∧ (c.flight ≠ none → lock = true) ∧ c.queue.length ≤ 4

/-- What the arbiter asks of a channel before it chooses: all that `ChannelConsistent` says but that nothing waits. -/
def ChannelOrdered (c : Channel) (lock : Bool) : Prop :=
  (c.active = false → c.flight = none) ∧ (c.flight ≠ none → lock = true) ∧ c.queue.length ≤ 4

/-- With nothing waiting, an ordered channel is a consistent one. -/
theorem ChannelOrdered.consistent {c : Channel} {lock : Bool} (h : ChannelOrdered c lock)
    (hc : c.active = false → c.nothingWaits) : ChannelConsistent c lock :=
  ⟨fun ha => ⟨h.1 ha, (Channel.choose_eq_none c).mpr (hc ha)⟩, h.2⟩

theorem ChannelConsistent.nothingWaits {c : Channel} {lock : Bool} (h : ChannelConsistent c lock)
    (ha : c.active = false) : c.nothingWaits := (Channel.choose_eq_none c).mp (h.1 ha).2

theorem channelsConsistent_iff :
    ChannelsConsistent s ↔ ∀ p, ChannelConsistent (s.chan p) (s.port p).lock := Iff.rfl

theorem Channel.take_queue_length (c : Channel) (ch : Choice) : (c.take ch).queue.length ≤ c.queue.length := by
  cases ch <;> simp [Channel.take]

/-- A channel other than the arbiter's own stands. -/
theorem State.chan_arbitrate_ne (p q : Cam) (h : q ≠ p) : (s.arbitrate p).chan q = s.chan q := by
  obtain ⟨c, st, res, fil, e⟩ := s.arbitrate_frame p
  rw [e]
  exact Quad.get_set_ne _ _ _ _ h

@[simp] theorem State.arbitrate_ports (p : Cam) : (s.arbitrate p).ports = s.ports := by
  obtain ⟨c, st, res, fil, e⟩ := s.arbitrate_frame p
  rw [e]

@[simp] theorem State.port_arbitrate (p q : Cam) : (s.arbitrate p).port q = s.port q := by
  simp [State.port]

/-- After an arbitration the channel is consistent (R143). -/
theorem State.arbitrate_consistent (p : Cam) (h : ChannelOrdered (s.chan p) (s.port p).lock) :
    ChannelConsistent ((s.arbitrate p).chan p) (s.port p).lock := by
  obtain ⟨hf, hl, hq⟩ := h
  cases ha : (s.chan p).active with
  | true =>
    rw [s.arbitrate_active p ha]
    exact ⟨fun h => by simp [ha] at h, hl, hq⟩
  | false =>
    cases hk : (s.port p).lock with
    | false =>
      rw [s.arbitrate_unlocked p ha hk, State.chan_drain]
      exact ⟨fun _ => ⟨hf ha, (Channel.choose_eq_none _).mpr (Channel.drained_nothingWaits _)⟩,
        fun h => by rw [← hk]; exact hl h, Nat.zero_le _⟩
    | true =>
      cases hc : (s.chan p).choose with
      | none =>
        rw [s.arbitrate_nothing p ((Channel.choose_eq_none _).mp hc)]
        exact ⟨fun _ => ⟨hf ha, hc⟩, fun _ => rfl, hq⟩
      | some ch =>
        rw [s.arbitrate_starts p ch ha hc hk, State.chan_setChan_self]
        exact ⟨fun h => by simp [Channel.start] at h, fun _ => rfl,
          (Channel.take_queue_length _ ch).trans hq⟩

/-- An arbitration at an ordered channel, with the others consistent, leaves every channel consistent. -/
theorem State.arbitrate_keeps (p : Cam) (h : ChannelOrdered (s.chan p) (s.port p).lock)
    (ho : ∀ q, q ≠ p → ChannelConsistent (s.chan q) (s.port q).lock) : ChannelsConsistent (s.arbitrate p) := by
  rw [channelsConsistent_iff]
  intro q
  rw [State.port_arbitrate]
  by_cases hq : q = p
  · subst hq
    exact s.arbitrate_consistent q h
  · rw [s.chan_arbitrate_ne p q hq]
    exact ho q hq

end Sys2Proof.Machine
end

section
/-! SUPPORT. What each command and each request can change, said once as an update of the state before, and the induction
over a step: a property that every command keeps is kept by every step. -/

namespace Sys2Proof.Machine

variable (s : State)

/-! ## Requests at their owners (R160): the parts of the state each can change -/

theorem State.serveLoadBegin_frame (t : Ticket) (table slot camera : Byte) (total : BitVec 16) (crc : BitVec 32) :
    ∃ m, s.serveLoadBegin t table slot camera total crc = { s with mgmt := m } := by
  unfold State.serveLoadBegin
  split
  · exact ⟨_, rfl⟩
  · split
    · exact ⟨_, rfl⟩
    · split
      · exact ⟨_, rfl⟩
      · split <;> exact ⟨_, rfl⟩

theorem State.serveLoadData_frame (t : Ticket) (segment : BitVec 16) (data : List Byte) :
    ∃ m, s.serveLoadData t segment data = { s with mgmt := m } := by
  unfold State.serveLoadData
  split
  · exact ⟨_, rfl⟩
  · split <;> exact ⟨_, rfl⟩

theorem State.writeLayout_frame (d : TableLoad) : ∃ slots, s.writeLayout d = { s with layouts.slots := slots } := by
  unfold State.writeLayout
  split <;> exact ⟨_, rfl⟩

theorem State.serveLoadEnd_frame (t : Ticket) :
    ∃ m slots, s.serveLoadEnd t = { s with mgmt := m, layouts.slots := slots } := by
  unfold State.serveLoadEnd
  split
  · exact ⟨_, _, rfl⟩
  · split
    · exact ⟨_, _, rfl⟩
    · exact ⟨_, _, rfl⟩
    · exact ⟨_, _, rfl⟩
    · exact ⟨_, _, rfl⟩
    · split
      · obtain ⟨slots, e⟩ := s.closeLoad.writeLayout_frame s.mgmt.load.dest
        exact ⟨_, slots, by rw [e]; rfl⟩
      · exact ⟨_, _, rfl⟩

theorem State.serveLoadAbort_frame (t : Ticket) : ∃ m, s.serveLoadAbort t = { s with mgmt := m } := by
  unfold State.serveLoadAbort
  split <;> exact ⟨_, rfl⟩

theorem State.serveTableRead_frame (t : Ticket) (table slot camera : Byte) (offset : BitVec 16) (length : Byte) :
    ∃ m, s.serveTableRead t table slot camera offset length = { s with mgmt := m } := by
  unfold State.serveTableRead
  split
  · exact ⟨_, rfl⟩
  · split
    · exact ⟨_, rfl⟩
    · split <;> exact ⟨_, rfl⟩

theorem State.bind_frame (mode slot : Byte) : ∃ b, (s.bind mode slot).2 = { s with modes.bind := b } := by
  unfold State.bind
  split
  · split <;> exact ⟨_, rfl⟩
  · exact ⟨_, rfl⟩

theorem State.serveBindMode_frame (t : Ticket) (mode slot : Byte) :
    ∃ m b, s.serveBindMode t mode slot = { s with mgmt := m, modes.bind := b } := by
  obtain ⟨b, e⟩ := s.bind_frame mode slot
  exact ⟨_, b, by rw [State.serveBindMode, e]; rfl⟩

theorem State.serveSetView_frame (t : Ticket) (mode : Byte) :
    ∃ m o, s.serveSetView t mode = { s with mgmt := m, modes.override := o } := by
  unfold State.serveSetView
  split
  · exact ⟨_, _, rfl⟩
  · split <;> exact ⟨_, _, rfl⟩

theorem State.joinEdits_frame (e : Edit) : ∃ m edits, s.joinEdits e = { s with mgmt := m, ovl.edits := edits } := by
  unfold State.joinEdits
  split <;> exact ⟨_, _, rfl⟩

theorem State.serveElementWrite_frame (t : Ticket) (index : Byte) (record : List Byte) :
    ∃ m edits, s.serveElementWrite t index record = { s with mgmt := m, ovl.edits := edits } := by
  unfold State.serveElementWrite
  split
  · exact ⟨_, _, rfl⟩
  · split
    · exact ⟨_, _, rfl⟩
    · split
      · exact ⟨_, _, rfl⟩
      · exact s.joinEdits_frame _

theorem State.serveElementClear_frame (t : Ticket) (index : Byte) :
    ∃ m edits, s.serveElementClear t index = { s with mgmt := m, ovl.edits := edits } := by
  unfold State.serveElementClear
  split
  · exact ⟨_, _, rfl⟩
  · split
    · exact ⟨_, _, rfl⟩
    · exact s.joinEdits_frame _

/-- A CAM-XFER is answered at once, or joins its channel's queue and the arbiter chooses (R138). -/
theorem State.serveCamXfer_cases (t : Ticket) (camera device direction : Byte) (register : BitVec 16) (count : Byte)
    (data : List Byte) :
    (∃ r, s.serveCamXfer t camera device direction register count data = s.answer t r) ∨
    ∃ p x, (s.chan p).queue.length < 4 ∧ s.serveCamXfer t camera device direction register count data =
      (s.setChan p { s.chan p with queue := (s.chan p).queue ++ [x] }).arbitrate p := by
  unfold State.serveCamXfer
  split
  · exact Or.inl ⟨_, rfl⟩
  · split
    · exact Or.inl ⟨_, rfl⟩
    · split
      · exact Or.inl ⟨_, rfl⟩
      · rename_i p _ _ hq
        exact Or.inr ⟨p, _, Nat.lt_of_not_le hq, rfl⟩

theorem State.serveCamXfer_frame (t : Ticket) (camera device direction : Byte) (register : BitVec 16) (count : Byte)
    (data : List Byte) : ∃ m c, s.serveCamXfer t camera device direction register count data =
      { s with mgmt := m, chans := c } := by
  obtain ⟨r, e⟩ | ⟨p, x, -, e⟩ := s.serveCamXfer_cases t camera device direction register count data
  · exact ⟨_, _, e⟩
  · obtain ⟨c, st, res, fil, h⟩ := (s.setChan p { s.chan p with queue := (s.chan p).queue ++ [x] }).arbitrate_frame p
    exact ⟨_, _, e.trans h⟩

theorem State.setDebounced_frame (l : Fin 8) (level : Bool) :
    ∃ m v, s.setDebounced l level = { s with mgmt := m, veh := v } := by
  unfold State.setDebounced
  exact ⟨_, _, State.raiseIf_eq _ _ _⟩

theorem State.configureLine_frame (l : Fin 8) (cfg : LineRecord) :
    ∃ m v, s.configureLine l cfg = { s with mgmt := m, veh := v } := by
  unfold State.configureLine
  dsimp only
  split
  · split
    · split
      · obtain ⟨m, v, e⟩ := (s.setLine l { s.line l with cfg := cfg }).setDebounced_frame l (s.line l).raw
        exact ⟨m, v, e⟩
      · split <;> exact ⟨_, _, rfl⟩
    · exact ⟨_, _, rfl⟩
  · exact ⟨_, _, rfl⟩
  · exact ⟨_, _, rfl⟩

theorem State.serveLineConfig_frame (t : Ticket) (line function polarity debounce role edge source : Byte) :
    ∃ m v, s.serveLineConfig t line function polarity debounce role edge source = { s with mgmt := m, veh := v } := by
  unfold State.serveLineConfig
  split
  · rename_i l cfg _ _
    obtain ⟨m, v, e⟩ := s.configureLine_frame l cfg
    exact ⟨_, v, by rw [e]; rfl⟩
  · exact ⟨_, _, rfl⟩

/-- A STORE-WRITE is answered at once, or becomes the page write in flight (R175). -/
theorem State.serveStoreWrite_cases (t : Ticket) (offset : BitVec 16) (data : List Byte) :
    (∃ r, s.serveStoreWrite t offset data = s.answer t r) ∨
    (offset.toNat % 32 = 0 ∧ s.store.writing = none ∧ s.serveStoreWrite t offset data = { s with store := { s.store with
      writing := some ⟨t, offset.toNat, data⟩
      writeTimer := .running 20
      access := s.store.access ++ [.pageWrite] } }) := by
  unfold State.serveStoreWrite
  split
  · exact Or.inl ⟨_, rfl⟩
  · rename_i ho
    split
    · exact Or.inl ⟨_, rfl⟩
    · rename_i hw
      refine Or.inr ⟨by simpa [Config.pageBytes] using ho, ?_, rfl⟩
      simpa using fun h => hw (Or.inr h)

/-- A STORE-READ is answered at once, or joins the accesses at the interface (R175). -/
theorem State.serveStoreRead_cases (t : Ticket) (offset : BitVec 16) :
    (∃ r, s.serveStoreRead t offset = s.answer t r) ∨
    s.serveStoreRead t offset = s.pushAccess (.storeRead t offset.toNat) := by
  unfold State.serveStoreRead
  split
  · exact Or.inl ⟨_, rfl⟩
  · split
    · exact Or.inl ⟨_, rfl⟩
    · exact Or.inr rfl

/-- A request other than a RESET leaves the ports, DRAM, the compositor, the gains and the transmitter alone; a channel is
reached by a CAM-XFER alone, and the configuration memory by a STORE-WRITE or a STORE-READ alone. -/
theorem State.serveReq_frame (t : Ticket) (q : Req) (h : ∀ w, q ≠ .reset w) :
    ∃ layouts modes ovl chans veh mgmt store,
      s.serveReq t q = { s with
        layouts := layouts, modes := modes, ovl := ovl, chans := chans, veh := veh, mgmt := mgmt, store := store } ∧
      ((∀ c d dir r n data, q ≠ .camXfer c d dir r n data) → chans = s.chans) ∧
      ((∀ o data, q ≠ .storeWrite o data) → (∀ o, q ≠ .storeRead o) → store = s.store) := by
  cases q with
  | loadBegin table slot camera total crc =>
    obtain ⟨m, e⟩ := s.serveLoadBegin_frame t table slot camera total crc
    exact ⟨_, _, _, _, _, _, _, e, fun _ => rfl, fun _ _ => rfl⟩
  | loadData segment data =>
    obtain ⟨m, e⟩ := s.serveLoadData_frame t segment data
    exact ⟨_, _, _, _, _, _, _, e, fun _ => rfl, fun _ _ => rfl⟩
  | loadEnd =>
    obtain ⟨m, l, e⟩ := s.serveLoadEnd_frame t
    exact ⟨_, _, _, _, _, _, _, e, fun _ => rfl, fun _ _ => rfl⟩
  | loadAbort =>
    obtain ⟨m, e⟩ := s.serveLoadAbort_frame t
    exact ⟨_, _, _, _, _, _, _, e, fun _ => rfl, fun _ _ => rfl⟩
  | tableRead table slot camera offset length =>
    obtain ⟨m, e⟩ := s.serveTableRead_frame t table slot camera offset length
    exact ⟨_, _, _, _, _, _, _, e, fun _ => rfl, fun _ _ => rfl⟩
  | bindMode mode slot =>
    obtain ⟨m, b, e⟩ := s.serveBindMode_frame t mode slot
    exact ⟨_, _, _, _, _, _, _, e, fun _ => rfl, fun _ _ => rfl⟩
  | setView mode =>
    obtain ⟨m, o, e⟩ := s.serveSetView_frame t mode
    exact ⟨_, _, _, _, _, _, _, e, fun _ => rfl, fun _ _ => rfl⟩
  | releaseView => exact ⟨_, _, _, _, _, _, _, rfl, fun _ => rfl, fun _ _ => rfl⟩
  | elementWrite index record =>
    obtain ⟨m, o, e⟩ := s.serveElementWrite_frame t index record
    exact ⟨_, _, _, _, _, _, _, e, fun _ => rfl, fun _ _ => rfl⟩
  | elementClear index =>
    obtain ⟨m, o, e⟩ := s.serveElementClear_frame t index
    exact ⟨_, _, _, _, _, _, _, e, fun _ => rfl, fun _ _ => rfl⟩
  | camXfer c d dir r n data =>
    obtain ⟨m, c', e⟩ := s.serveCamXfer_frame t c d dir r n data
    exact ⟨_, _, _, _, _, _, _, e, fun h => absurd rfl (h _ _ _ _ _ _), fun _ _ => rfl⟩
  | lineConfig l f p d r e o =>
    obtain ⟨m, v, e⟩ := s.serveLineConfig_frame t l f p d r e o
    exact ⟨_, _, _, _, _, _, _, e, fun _ => rfl, fun _ _ => rfl⟩
  | linesSet mask => exact ⟨_, _, _, _, _, _, _, rfl, fun _ => rfl, fun _ _ => rfl⟩
  | linesClear mask => exact ⟨_, _, _, _, _, _, _, rfl, fun _ => rfl, fun _ _ => rfl⟩
  | eventEnable mask => exact ⟨_, _, _, _, _, _, _, rfl, fun _ => rfl, fun _ _ => rfl⟩
  | eventAck mask => exact ⟨_, _, _, _, _, _, _, rfl, fun _ => rfl, fun _ _ => rfl⟩
  | storeWrite offset data =>
    obtain ⟨r, e⟩ | ⟨-, -, e⟩ := s.serveStoreWrite_cases t offset data
    · exact ⟨_, _, _, _, _, _, _, e, fun _ => rfl, fun h => absurd rfl (h _ _)⟩
    · exact ⟨_, _, _, _, _, _, _, e, fun _ => rfl, fun h => absurd rfl (h _ _)⟩
  | storeRead offset =>
    obtain ⟨r, e⟩ | e := s.serveStoreRead_cases t offset
    · exact ⟨_, _, _, _, _, _, _, e, fun _ => rfl, fun _ h => absurd rfl (h _)⟩
    · exact ⟨_, _, _, _, _, _, _, e, fun _ => rfl, fun _ h => absurd rfl (h _)⟩
  | reset w => exact absurd rfl (h w)

/-! ## Commands: the parts of the state each can change -/

theorem State.vehicleRecord_frame (bs : List Byte) : ∃ m v, s.vehicleRecord bs = { s with mgmt := m, veh := v } := by
  unfold State.vehicleRecord
  split
  · exact ⟨_, _, State.raiseIf_eq _ _ _⟩
  · exact ⟨_, _, rfl⟩

theorem State.staleExpiry_frame : ∃ m v, s.staleExpiry = { s with mgmt := m, veh := v } := by
  unfold State.staleExpiry
  split <;> exact ⟨_, _, rfl⟩

theorem State.lostExpiry_frame : ∃ m v, s.lostExpiry = { s with mgmt := m, veh := v } := by
  unfold State.lostExpiry
  split <;> exact ⟨_, _, rfl⟩

theorem State.rawChange_frame (l : Fin 8) (level : Bool) :
    ∃ m v, s.rawChange l level = { s with mgmt := m, veh := v } := by
  unfold State.rawChange
  dsimp only
  split
  · exact ⟨_, _, rfl⟩
  · split
    · split
      · exact ⟨_, _, rfl⟩
      · split
        · exact (s.setLine l { s.line l with raw := level }).setDebounced_frame l level
        · exact ⟨_, _, rfl⟩
    · exact ⟨_, _, rfl⟩

theorem State.debounceExpiry_frame (l : Fin 8) : ∃ m v, s.debounceExpiry l = { s with mgmt := m, veh := v } := by
  unfold State.debounceExpiry
  dsimp only
  split
  · exact s.setDebounced_frame l _
  · exact ⟨_, _, rfl⟩

theorem State.loadTimerExpiry_frame : ∃ m, s.loadTimerExpiry = { s with mgmt := m } := by
  unfold State.loadTimerExpiry
  split <;> exact ⟨_, rfl⟩

/-- A completed source read reaches the compositor and frees the arbiter (R20, R56). -/
theorem State.takeRead_frame (r : SourceRead) : ∃ c, s.takeRead r = { s with comp := c } := by
  unfold State.takeRead
  split <;> exact ⟨_, rfl⟩

theorem State.tryStartBand_band_frame : ∃ g lp c,
    s.tryStartBand = { s with dram := { s.dram with granted := g, lastPort := lp }, comp := c } := by
  obtain ⟨g, lp, work, next, h0, h1, e⟩ := s.tryStartBand_frame
  exact ⟨g, lp, _, e⟩

theorem State.sourceReadComplete_frame : ∃ g lp c,
    s.sourceReadComplete = { s with dram := { s.dram with granted := g, lastPort := lp }, comp := c } := by
  unfold State.sourceReadComplete
  split
  · rename_i r wanted _
    obtain ⟨c, e⟩ : ∃ c, (if wanted then s.takeRead r else s) = { s with comp := c } := by
      split
      · exact s.takeRead_frame r
      · exact ⟨_, rfl⟩
    obtain ⟨g, lp, work, h, -⟩ :=
      ({ (if wanted then s.takeRead r else s) with dram.granted := none } : State).grant_frame
    exact ⟨g, lp, _, by dsimp only at h ⊢; rw [h, e]⟩
  · exact ⟨_, _, _, rfl⟩
  · exact ⟨_, _, _, rfl⟩

theorem State.bandCompletion_frame (b : Nat) : ∃ g lp c,
    s.bandCompletion b = { s with dram := { s.dram with granted := g, lastPort := lp }, comp := c } := by
  unfold State.bandCompletion
  split
  · exact ⟨_, _, _, rfl⟩
  · split
    · obtain ⟨g, lp, c, e⟩ := State.tryStartBand_band_frame _
      exact ⟨g, lp, c, e⟩
    · exact ⟨_, _, _, rfl⟩

theorem State.dropWork_frame : ∃ g c, s.dropWork = { s with dram.granted := g, comp := c } := by
  rw [State.dropWork_eq]
  split
  · exact ⟨_, _, by rw [Dram.unwantRead_frame]⟩
  · exact ⟨_, _, rfl⟩

/-- What an underrun does once the band is given up (R54): fill in the band's half, the mark, the record and the event, and
the next band. -/
def State.fillBand (s : State) (b : Nat) : State :=
  ({ s with
    comp := { s.comp.setHalf b ⟨.fill, b, []⟩ with incomplete := true }
    tx.underrun := s.tx.underrun.note b } : State).raise evUnderrun |>.tryStartBand.grant

/-- An underrun gives up the band worked on, where it is the one that failed, and fills its half. -/
theorem State.underrunBand_cases (b : Nat) :
    s.underrunBand b = s.fillBand b ∨ s.underrunBand b = s.dropWork.fillBand b := by
  unfold State.underrunBand
  dsimp only
  split
  · exact Or.inl rfl
  · split
    · exact Or.inr rfl
    · exact Or.inl rfl

theorem State.fillBand_frame (b : Nat) : ∃ g lp c u m,
    s.fillBand b = { s with
      dram := { s.dram with granted := g, lastPort := lp }, comp := c, tx.underrun := u, mgmt := m } := by
  unfold State.fillBand
  generalize he : (({ s with
    comp := { s.comp.setHalf b ⟨.fill, b, []⟩ with incomplete := true }
    tx.underrun := s.tx.underrun.note b } : State).raise evUnderrun) = s1
  obtain ⟨g1, lp1, c1, e1⟩ := s1.tryStartBand_band_frame
  obtain ⟨g, lp, work, e, -⟩ := s1.tryStartBand.grant_frame
  exact ⟨g, lp, _, _, _, by rw [e, e1, ← he]; rfl⟩

theorem State.underrunBand_frame (b : Nat) : ∃ g lp c u m,
    s.underrunBand b = { s with
      dram := { s.dram with granted := g, lastPort := lp }, comp := c, tx.underrun := u, mgmt := m } := by
  obtain e | e := s.underrunBand_cases b
  · rw [e]; exact s.fillBand_frame b
  · obtain ⟨g0, c0, e0⟩ := s.dropWork_frame
    obtain ⟨g, lp, c, u, m, e1⟩ := s.dropWork.fillBand_frame b
    exact ⟨g, lp, c, u, m, by rw [e, e1, e0]⟩

theorem State.bandStart_frame (b : Nat) : ∃ g lp c x m,
    s.bandStart b = { s with
      dram := { s.dram with granted := g, lastPort := lp }, comp := c, tx := x, mgmt := m } := by
  unfold State.bandStart
  dsimp only
  split
  · exact ⟨_, _, _, _, _, rfl⟩
  · obtain ⟨g, lp, c, u, m, e⟩ := State.underrunBand_frame { s with tx.phase := .inBand b } b
    exact ⟨g, lp, c, _, m, e⟩
  · exact ⟨_, _, _, _, _, rfl⟩
  · exact ⟨_, _, _, _, _, rfl⟩
  · exact ⟨_, _, _, _, _, rfl⟩

theorem State.bandEnd_frame (b : Nat) : ∃ g lp c x,
    s.bandEnd b = { s with dram := { s.dram with granted := g, lastPort := lp }, comp := c, tx := x } := by
  unfold State.bandEnd
  dsimp only
  split
  · obtain ⟨g, lp, c, e⟩ := State.tryStartBand_band_frame _
    exact ⟨g, lp, c, _, e⟩
  · obtain ⟨g, lp, c, e⟩ := State.tryStartBand_band_frame _
    exact ⟨g, lp, c, _, e⟩
  · exact ⟨_, _, _, _, rfl⟩
  · exact ⟨_, _, _, _, rfl⟩
  · exact ⟨_, _, _, _, rfl⟩

theorem State.frameStart_frame : ∃ g lp c x v,
    s.frameStart = { s with
      dram := { s.dram with granted := g, lastPort := lp }, comp := c, tx := x, veh := v } := by
  unfold State.frameStart
  obtain ⟨g0, c0, e0⟩ := s.openFrame.dropWork_frame
  obtain ⟨g, lp, rest, e, -⟩ := s.openFrame.dropWork.startBand_frame 0
  exact ⟨g, lp, _, _, _, by rw [e, e0]; rfl⟩

/-! ## The configuration memory's commands -/

theorem State.endLateWrites_parts : ∃ x n, s.endLateWrites = { s with store := x, freeCount := n } := by
  obtain ⟨mem, e, -⟩ := s.endLateWrites_frame
  exact ⟨_, _, e⟩

theorem State.pageWriteComplete_frame : ∃ m x n,
    s.pageWriteComplete = { s with mgmt := m, store := x, freeCount := n } := by
  unfold State.pageWriteComplete
  split <;> exact ⟨_, _, _, rfl⟩

theorem State.writeTimerExpiry_frame : ∃ m x, s.writeTimerExpiry = { s with mgmt := m, store := x } := by
  unfold State.writeTimerExpiry
  split
  · exact ⟨_, _, rfl⟩
  · split <;> exact ⟨_, _, rfl⟩

theorem State.storeReadComplete_frame (answered : Bool) : ∃ m x n,
    s.storeReadComplete answered = { s with mgmt := m, store := x, freeCount := n } := by
  unfold State.storeReadComplete
  dsimp only
  split
  · obtain ⟨x, n, e⟩ := s.endLateWrites_parts
    exact ⟨_, _, _, by rw [e]; rfl⟩
  · exact ⟨_, _, _, rfl⟩

theorem State.continueBoot_frame : ∃ x, s.continueBoot = { s with store := x } := by
  unfold State.continueBoot
  split <;> exact ⟨_, rfl⟩

theorem State.bootHeaderRead_frame (answered : Bool) : ∃ x n,
    s.bootHeaderRead answered = { s with store := x, freeCount := n } := by
  unfold State.bootHeaderRead
  dsimp only
  obtain ⟨x, n, e⟩ := s.endLateWrites_parts
  split
  · split
    · exact ⟨_, _, by rw [e]; rfl⟩
    · obtain ⟨y, e2⟩ := State.continueBoot_frame _
      exact ⟨y, _, by rw [e2, e]; rfl⟩
  · exact ⟨_, _, rfl⟩

theorem State.applyBindings_frame (data : List Byte) : ∃ b, (s.applyBindings data).2 = { s with modes.bind := b } := by
  unfold State.applyBindings
  dsimp only
  obtain ⟨b1, e1⟩ := s.bind_frame 1 (data.getD 0 0)
  obtain ⟨b2, e2⟩ := (s.bind 1 (data.getD 0 0)).2.bind_frame 2 (data.getD 1 0)
  obtain ⟨b3, e3⟩ := ((s.bind 1 (data.getD 0 0)).2.bind 2 (data.getD 1 0)).2.bind_frame 3 (data.getD 2 0)
  obtain ⟨b4, e4⟩ := (((s.bind 1 (data.getD 0 0)).2.bind 2 (data.getD 1 0)).2.bind 3 (data.getD 2 0)).2.bind_frame 4
    (data.getD 3 0)
  exact ⟨b4, by rw [e4, e3, e2, e1]⟩

theorem State.applyEntry_frame (index : Nat) (code slot camera : Byte) (data : List Byte) : ∃ l m x,
    s.applyEntry index code slot camera data = { s with layouts := l, modes := m, store := x } := by
  unfold State.applyEntry
  split
  · obtain ⟨x, e⟩ := (s.setBoot (s.store.boot.fail index)).continueBoot_frame
    exact ⟨_, _, x, e⟩
  · obtain ⟨b, e⟩ := s.applyBindings_frame data
    dsimp only
    split
    · obtain ⟨x, e2⟩ := (s.applyBindings data).2.continueBoot_frame
      exact ⟨_, _, x, by rw [e2, e]⟩
    · obtain ⟨x, e2⟩ := State.continueBoot_frame
        ((s.applyBindings data).2.setBoot ((s.applyBindings data).2.store.boot.fail index))
      exact ⟨_, _, x, by rw [e2, e]; rfl⟩
  · rename_i d _
    obtain ⟨l, e⟩ := s.writeLayout_frame d
    obtain ⟨x, e2⟩ := (s.writeLayout d).continueBoot_frame
    exact ⟨_, _, x, by rw [e2, e]⟩
  · exact ⟨_, _, _, rfl⟩

theorem State.bootEntryRead_frame (answered : Bool) : ∃ l m x n,
    s.bootEntryRead answered = { s with layouts := l, modes := m, store := x, freeCount := n } := by
  unfold State.bootEntryRead
  dsimp only
  obtain ⟨x, n, e⟩ := s.endLateWrites_parts
  split
  · split
    · exact ⟨_, _, _, _, by rw [e]; rfl⟩
    · obtain ⟨l, m, y, e2⟩ := State.applyEntry_frame (s.endLateWrites.popAccess.setBoot { s.store.boot with
        offset := s.store.boot.offset + 5 + u16At (s.endLateWrites.readStore answered s.store.boot.offset 5) 3
        index := s.store.boot.index + 1 }) s.store.boot.index
        ((s.endLateWrites.readStore answered s.store.boot.offset 5).getD 0 0)
        ((s.endLateWrites.readStore answered s.store.boot.offset 5).getD 1 0)
        ((s.endLateWrites.readStore answered s.store.boot.offset 5).getD 2 0)
        (s.endLateWrites.readStore answered (s.store.boot.offset + 5)
          (u16At (s.endLateWrites.readStore answered s.store.boot.offset 5) 3))
      exact ⟨l, m, y, _, by rw [e2]; rw [e]; rfl⟩
  · exact ⟨_, _, _, _, rfl⟩

theorem State.bootWaitExpiry_frame : ∃ x, s.bootWaitExpiry = { s with store := x } := by
  unfold State.bootWaitExpiry
  split <;> exact ⟨_, rfl⟩

/-! ## The channels' commands: the channels and the management unit alone (R133 to R137) -/

theorem State.arbitrate_parts (p : Cam) : ∃ c m, s.arbitrate p = { s with chans := c, mgmt := m } := by
  obtain ⟨c, st, res, fil, e⟩ := s.arbitrate_frame p
  exact ⟨_, _, e⟩

theorem State.endTransaction_frame (p : Cam) (x : Transaction) (r : Result) (data : List Byte) (items : List WireItem) :
    ∃ c m, s.endTransaction p x r data items = { s with chans := c, mgmt := m } := by
  unfold State.endTransaction
  generalize hu : s.setChan p { s.chan p with active := false, flight := none, timer := .stopped, out := items } = u
  obtain ⟨c, st, res, fil, e, -⟩ := u.handResult_frame p x r data
  obtain ⟨c', m, e2⟩ := (u.handResult p x r data).arbitrate_parts p
  exact ⟨c', m, by rw [e2, e, ← hu]; rfl⟩

theorem State.acceptStep_frame (p : Cam) (x : Transaction) :
    ∃ c m, s.acceptStep p x = { s with chans := c, mgmt := m } := by
  unfold State.acceptStep
  split
  · exact ⟨_, _, rfl⟩
  · exact ⟨_, _, rfl⟩
  · split <;> exact ⟨_, _, rfl⟩
  · split
    · exact ⟨_, _, rfl⟩
    · exact s.endTransaction_frame p _ _ _ _
  · exact ⟨_, _, rfl⟩
  · exact ⟨_, _, rfl⟩

theorem State.rejectStep_frame (p : Cam) (x : Transaction) :
    ∃ c m, s.rejectStep p x = { s with chans := c, mgmt := m } := by
  unfold State.rejectStep
  split
  · exact s.endTransaction_frame p _ _ _ _
  · exact s.endTransaction_frame p _ _ _ _
  · exact s.endTransaction_frame p _ _ _ _
  · exact s.endTransaction_frame p _ _ _ _
  · exact s.endTransaction_frame p _ _ _ _
  · exact ⟨_, _, rfl⟩

theorem State.cameraAnswer_frame (p : Cam) (accept : Bool) :
    ∃ c m, s.cameraAnswer p accept = { s with chans := c, mgmt := m } := by
  unfold State.cameraAnswer
  split
  · exact ⟨_, _, rfl⟩
  · split
    · exact s.acceptStep_frame p _
    · exact s.rejectStep_frame p _

theorem State.readByte_frame (p : Cam) (b : Byte) : ∃ c m, s.readByte p b = { s with chans := c, mgmt := m } := by
  unfold State.readByte
  split
  · exact ⟨_, _, rfl⟩
  · split
    · split
      · exact ⟨_, _, rfl⟩
      · exact s.endTransaction_frame p _ _ _ _
    · exact ⟨_, _, rfl⟩

theorem State.stepTimerExpiry_frame (p : Cam) : ∃ c m, s.stepTimerExpiry p = { s with chans := c, mgmt := m } := by
  unfold State.stepTimerExpiry
  split
  · exact ⟨_, _, rfl⟩
  · split
    · exact s.endTransaction_frame p _ _ _ _
    · exact ⟨_, _, rfl⟩

theorem State.stopMarkSent_frame (p : Cam) : ∃ c m, s.stopMarkSent p = { s with chans := c, mgmt := m } := by
  unfold State.stopMarkSent
  split
  · exact (s.setChan p { s.chan p with active := false }).arbitrate_parts p
  · exact ⟨_, _, rfl⟩

theorem State.channelLockLost_frame (p : Cam) : ∃ c m, s.channelLockLost p = { s with chans := c, mgmt := m } := by
  unfold State.channelLockLost
  split
  · exact s.endTransaction_frame p _ _ _ _
  · exact (s.setChan p { s.chan p with active := false, timer := .stopped, out := [] }).arbitrate_parts p

end Sys2Proof.Machine
end

section
/-! SUPPORT. What each part of a turnover can change (R147), said once as an update of the state before. -/

namespace Sys2Proof.Machine

variable (s : State)

/-! ## Tables of a camera (R6, R8) -/

/-- A channel that asks for an attention read changes that channel, the status word and the response queue alone. -/
theorem State.askAttention_frame (p : Cam) : ∃ c st res fil, s.askAttention p = { s with
    chans := s.chans.set p c, mgmt := { s.mgmt with status := st, reserved := res, filled := fil } } := by
  obtain ⟨c, st, res, fil, e⟩ := (s.setChan p { s.chan p with attnWaiting := true }).arbitrate_frame p
  exact ⟨c, st, res, fil, by rw [State.askAttention, e]; simp [State.setChan]⟩

theorem State.handExposure_frame (p : Cam) (v : Nat) : ∃ c st res fil, s.handExposure p v = { s with
    chans := s.chans.set p c, mgmt := { s.mgmt with status := st, reserved := res, filled := fil } } := by
  obtain ⟨c, st, res, fil, e⟩ := (s.setChan p { s.chan p with exposure := some v }).arbitrate_frame p
  exact ⟨c, st, res, fil, by rw [State.handExposure, e]; simp [State.setChan]⟩

/-- The attention flag recorded while no status register was known, of which the new profile names one: it is read at
once (R4). -/
def State.unreadAttention (s : State) (p : Cam) (profile : List Byte) : Bool :=
  (s.port p).attention && (profileStatus (s.port p).profile).isNone && (profileStatus profile).isSome

/-- The blocks of a camera under a Camera Profile that is applied, before the attention read it can ask for (R8, R67,
R72). -/
def State.profiled (s : State) (p : Cam) (profile : List Byte) : State :=
  { s with
    ports := s.ports.set p ((s.port p).applyProfile (s.writingFor p) profile)
    chans := s.chans.set p ((s.chan p).applyProfile profile)
    bal.cams := s.bal.cams.set p (s.camBal p).quiet
    mgmt.status := if ((s.port p).applyProfile (s.writingFor p) profile).st ≠ (s.port p).st then
      s.mgmt.status ||| eventBit (evCamState p) else s.mgmt.status }

theorem State.applyProfile_eq (p : Cam) (profile : List Byte) : s.applyProfile p profile =
    if s.unreadAttention p profile then (s.profiled p profile).askAttention p else s.profiled p profile := by
  unfold State.applyProfile
  dsimp only
  rw [State.putPort_eq]
  rfl

theorem State.applyProfile_frame (p : Cam) (profile : List Byte) : ∃ c st res fil, s.applyProfile p profile = { s with
    ports := s.ports.set p ((s.port p).applyProfile (s.writingFor p) profile)
    chans := s.chans.set p c
    bal.cams := s.bal.cams.set p (s.camBal p).quiet
    mgmt := { s.mgmt with status := st, reserved := res, filled := fil } } := by
  rw [State.applyProfile_eq]
  split
  · obtain ⟨c, st, res, fil, e⟩ := (s.profiled p profile).askAttention_frame p
    exact ⟨c, st, res, fil, by rw [e]; simp [State.profiled]⟩
  · exact ⟨_, _, _, _, rfl⟩

/-- A due table of a camera changes its port, its channel, its balance records, the status word and the response queue
alone. -/
theorem State.applyCamTable_frame (d : TableLoad) : ∃ q c b st res fil, s.applyCamTable d = { s with
    ports := s.ports.set d.cam q
    chans := s.chans.set d.cam c
    bal.cams := s.bal.cams.set d.cam b
    mgmt := { s.mgmt with status := st, reserved := res, filled := fil } } := by
  unfold State.applyCamTable
  split
  · obtain ⟨c, st, res, fil, e⟩ := s.applyProfile_frame d.cam d.content
    exact ⟨_, c, _, st, res, fil, e⟩
  · exact ⟨(s.port d.cam).applyWindows d.content, s.chan d.cam, s.camBal d.cam, s.mgmt.status, s.mgmt.reserved,
      s.mgmt.filled, by simp [State.applyWindows, State.setPort, State.chan, State.camBal]⟩
  · exact ⟨s.port d.cam, s.chan d.cam, s.camBal d.cam, s.mgmt.status, s.mgmt.reserved, s.mgmt.filled,
      by simp [State.port, State.chan, State.camBal]⟩

theorem State.applyCamTables_frame (ds : List TableLoad) : ∃ ports chans cams st res fil,
    ds.foldl State.applyCamTable s = { s with
      ports := ports, chans := chans, bal.cams := cams
      mgmt := { s.mgmt with status := st, reserved := res, filled := fil } } := by
  induction ds generalizing s with
  | nil => exact ⟨_, _, _, _, _, _, rfl⟩
  | cons d ds ih =>
    obtain ⟨q, c, b, st, res, fil, e⟩ := s.applyCamTable_frame d
    obtain ⟨ports, chans, cams, st', res', fil', e'⟩ := ih (s.applyCamTable d)
    exact ⟨ports, chans, cams, st', res', fil', by rw [List.foldl_cons, e', e]⟩

/-! ## The balance unit (R63 to R70) -/

theorem State.nudgeTest_frame (c : Cam) : ∃ cams chans st res fil, s.nudgeTest c = { s with
    bal.cams := cams, chans := chans, mgmt := { s.mgmt with status := st, reserved := res, filled := fil } } := by
  unfold State.nudgeTest
  split
  · split
    · exact ⟨_, _, _, _, _, rfl⟩
    · split
      · exact ⟨_, _, _, _, _, rfl⟩
      · rename_i v _ _
        obtain ⟨c', st, res, fil, e⟩ := (s.setBal c (s.camBal c).nudged).handExposure_frame c v
        exact ⟨_, _, _, _, _, e⟩
  · exact ⟨_, _, _, _, _, rfl⟩

theorem State.settleAndNudge_frame (c : Cam) : ∃ cams chans st res fil, s.settleAndNudge c = { s with
    bal.cams := cams, chans := chans, mgmt := { s.mgmt with status := st, reserved := res, filled := fil } } := by
  unfold State.settleAndNudge
  dsimp only
  split
  · obtain ⟨cams, chans, st, res, fil, e⟩ := (s.setBal c (s.camBal c).settleStep).nudgeTest_frame c
    exact ⟨cams, chans, st, res, fil, e⟩
  · exact ⟨_, _, _, _, _, rfl⟩

/-- What holds before and is kept for each camera holds after all four. -/
theorem forCams_induction {P : State → Prop} (f : Cam → State → State) (step : ∀ c s, P s → P (f c s)) (s : State)
    (h : P s) : P (forCams f s) := step 3 _ (step 2 _ (step 1 _ (step 0 s h)))

theorem State.balanceTurnover_frame : ∃ cams chans st res fil, s.balanceTurnover = { s with
    bal.cams := cams, chans := chans, mgmt := { s.mgmt with status := st, reserved := res, filled := fil } } := by
  refine forCams_induction (P := fun u => ∃ cams chans st res fil, u = { s with
    bal.cams := cams, chans := chans, mgmt := { s.mgmt with status := st, reserved := res, filled := fil } })
    _ ?_ _ ⟨_, _, _, _, _, rfl⟩
  rintro c u ⟨cams, chans, st, res, fil, rfl⟩
  obtain ⟨cams', chans', st', res', fil', e⟩ := State.settleAndNudge_frame _ c
  exact ⟨cams', chans', st', res', fil', e⟩

/-- The balance unit's work changes the unit, the channels, the status word and the response queue alone. -/
theorem State.turnBalance_frame (table : Option (List Byte)) : ∃ bal chans st res fil, s.turnBalance table = { s with
    bal := bal, chans := chans, mgmt := { s.mgmt with status := st, reserved := res, filled := fil } } := by
  obtain ⟨cams, chans, st, res, fil, e⟩ := s.balanceTurnover_frame
  cases table with
  | none => exact ⟨_, _, _, _, _, e⟩
  | some bs => exact ⟨_, chans, st, res, fil, by rw [State.turnBalance, State.applyBalanceTable, e]⟩

/-! ## The other tables, the mode, the plan and the header -/

/-- The tables of the mode controller and the overlay engine, and the pending element list. -/
theorem State.otherTables_frame (rules bands palette glyphs overlay : Option (List Byte)) : ∃ r ovl band res fil,
    (((((s.applyRules rules).applyBands bands).applyPalette palette).applyGlyphs glyphs).applyEdits overlay) =
      { s with
        modes.rules := r, ovl := ovl, veh.band := band
        mgmt := { s.mgmt with reserved := res, filled := fil } } := by
  rw [State.applyEdits_eq]
  cases rules <;> cases bands <;> cases palette <;> cases glyphs <;> exact ⟨_, _, _, _, _, rfl⟩

theorem State.finishLoad_frame : ∃ l res fil,
    s.finishLoad = { s with mgmt := { s.mgmt with load := l, reserved := res, filled := fil } } := by
  unfold State.finishLoad
  split <;> exact ⟨_, _, _, rfl⟩

/-- A due boot table applied: boot reads on behind the accesses made, or ends (R174). -/
theorem State.finishBootTable_frame : ∃ more b, s.finishBootTable = { s with
    store := { s.store with access := s.store.access ++ more, boot := b } } ∧ (more = [] ∨ more = [.bootEntry]) := by
  unfold State.finishBootTable
  split
  · exact ⟨[], s.store.boot, by simp, Or.inl rfl⟩
  · unfold State.continueBoot
    split
    · exact ⟨[], _, by rw [List.append_nil]; rfl, Or.inl rfl⟩
    · exact ⟨[.bootEntry], _, rfl, Or.inr rfl⟩

theorem State.setMode_frame (m : Mode) : ∃ md d st, s.setMode m = { s with
    modes := { s.modes with mode := md, dwell := d }, mgmt.status := st } := by
  unfold State.setMode
  split <;> exact ⟨_, _, _, rfl⟩

theorem State.modeTurnover_frame : ∃ m u st, s.modeTurnover = { s with
    modes := m, layouts.inUse := u, mgmt.status := st } := by
  unfold State.modeTurnover
  dsimp only
  split
  · obtain ⟨md, d, st, e⟩ := State.setMode_frame _ _
    exact ⟨_, _, _, by rw [State.keepHeld, e]⟩
  · split
    · exact ⟨_, _, _, rfl⟩
    · obtain ⟨md, d, st, e⟩ := State.setMode_frame _ _
      exact ⟨_, _, _, by rw [State.choose]; dsimp only; rw [e]⟩

/-- The state of a turnover once the rings, the tables of cameras and the balance unit have done their work. -/
def State.balanced (s : State) : State :=
  (s.dueTables.foldl State.applyCamTable s.turnRings).turnBalance (dueContent s.dueTables .balance)

/-- The state of a turnover before the plan, the frame view and the header are latched. -/
def State.settled (s : State) : State := ((s.turnRings.applyTables s.dueTables).finishLoad.finishBootTable).modeTurnover

theorem State.settled_frame : ∃ (modes : ModeController) (ovl : OverlayEngine) (band : Nat) (inUse : Option (Fin 4))
    (m : Management) (more : List Access) (b : Boot),
    s.settled = { s.balanced with
      modes := modes, ovl := ovl, veh.band := band, layouts.inUse := inUse
      mgmt := { m with queue := s.balanced.mgmt.queue, hold := s.balanced.mgmt.hold, lost := s.balanced.mgmt.lost }
      store := { s.balanced.store with access := s.balanced.store.access ++ more, boot := b } } ∧
    (more = [] ∨ more = [.bootEntry]) := by
  unfold State.settled State.applyTables
  change ∃ _ _ _ _ _ _ _, ((((((((s.balanced.applyRules _).applyBands _).applyPalette _).applyGlyphs
    _).applyEdits _).finishLoad).finishBootTable).modeTurnover) = _ ∧ _
  obtain ⟨r, ovl, band, res, fil, e1⟩ := s.balanced.otherTables_frame (dueContent s.dueTables .modeRules)
    (dueContent s.dueTables .bands) (dueContent s.dueTables .palette) (dueContent s.dueTables .glyphs)
    (dueContent s.dueTables .overlay)
  rw [e1]
  obtain ⟨l, res', fil', e2⟩ := State.finishLoad_frame { s.balanced with
    modes.rules := r, ovl := ovl, veh.band := band, mgmt := { s.balanced.mgmt with reserved := res, filled := fil } }
  rw [e2]
  generalize hu : ({ s.balanced with
    modes.rules := r, ovl := ovl, veh.band := band,
    mgmt := { s.balanced.mgmt with load := l, reserved := res', filled := fil' } } : State) = u
  obtain ⟨more, b, e3, hm⟩ := u.finishBootTable_frame
  obtain ⟨md, iu, st, e4⟩ := u.finishBootTable.modeTurnover_frame
  refine ⟨md, ovl, band, iu, { u.mgmt with status := st }, more, b, ?_, hm⟩
  rw [e4, e3, ← hu]

theorem State.turnoverWork_eq : s.turnoverWork =
    ({ (s.settled.latchPlan s.liveNow).latchView s.liveNow with tx.phase := .blanking } : State).buildHeader := rfl

theorem State.balanced_ports : s.balanced.ports = (s.dueTables.foldl State.applyCamTable s.turnRings).ports := by
  obtain ⟨bal, chans, st, res, fil, e⟩ := State.turnBalance_frame
    (s.dueTables.foldl State.applyCamTable s.turnRings) (dueContent s.dueTables .balance)
  rw [State.balanced, e]

theorem State.balanced_frame : ∃ ports chans bal st res fil, s.balanced = { s with
    ports := ports, chans := chans, bal := bal
    mgmt := { s.mgmt with status := st, reserved := res, filled := fil } } := by
  obtain ⟨ports, chans, cams, st, res, fil, e⟩ := s.turnRings.applyCamTables_frame s.dueTables
  obtain ⟨bal, chans', st', res', fil', e'⟩ := State.turnBalance_frame
    (s.dueTables.foldl State.applyCamTable s.turnRings) (dueContent s.dueTables .balance)
  exact ⟨ports, chans', bal, st', res', fil', by rw [State.balanced, e', e]; rfl⟩

/-- The turnover after the balance unit leaves the ports, the channels, the gains and DRAM alone; a boot table applied can
add boot's next read to the accesses. -/
theorem State.turnoverWork_frame : ∃ (modes : ModeController) (ovl : OverlayEngine) (band : Nat) (inUse : Option (Fin 4))
    (m : Management) (more : List Access) (b : Boot) (plan : Plan) (tx : Transmitter),
    s.turnoverWork = { s.balanced with
      modes := modes, ovl := ovl, veh.band := band, layouts.inUse := inUse
      mgmt := { m with queue := s.balanced.mgmt.queue, hold := s.balanced.mgmt.hold, lost := s.balanced.mgmt.lost }
      store := { s.balanced.store with access := s.balanced.store.access ++ more, boot := b }
      comp := { s.balanced.comp with plan := plan, seam := Seam.zero, incomplete := false }
      tx := tx } ∧
    (more = [] ∨ more = [.bootEntry]) := by
  obtain ⟨modes, ovl, band, inUse, m, more, b, e, hm⟩ := s.settled_frame
  rw [State.turnoverWork_eq, e]
  exact ⟨modes, _, band, inUse, { m with filled := m.filled.drop Config.headerResponses }, more, b, _, _, rfl, hm⟩

theorem State.turnoverWork_ports : s.turnoverWork.ports = (s.dueTables.foldl State.applyCamTable s.turnRings).ports := by
  obtain ⟨modes, ovl, band, inUse, m, more, b, plan, tx, e, -⟩ := s.turnoverWork_frame
  rw [e, ← State.balanced_ports]

theorem State.turnoverWork_chans : s.turnoverWork.chans = s.balanced.chans := by
  obtain ⟨modes, ovl, band, inUse, m, more, b, plan, tx, e, -⟩ := s.turnoverWork_frame
  rw [e]

theorem State.turnoverWork_bal : s.turnoverWork.bal = s.balanced.bal := by
  obtain ⟨modes, ovl, band, inUse, m, more, b, plan, tx, e, -⟩ := s.turnoverWork_frame
  rw [e]

theorem State.turnoverWork_queue : s.turnoverWork.mgmt.queue = s.mgmt.queue := by
  obtain ⟨modes, ovl, band, inUse, m, more, b, plan, tx, e, -⟩ := s.turnoverWork_frame
  obtain ⟨ports, chans, bal, st, res, fil, e'⟩ := s.balanced_frame
  rw [e, e']

/-- With no request waiting, a turnover is its own work (R159). -/
theorem State.turnover_eq_work (h : s.mgmt.queue = []) : s.turnover = s.turnoverWork :=
  State.takeUp_nil _ (by rw [State.turnoverWork_queue, h])

end Sys2Proof.Machine
end

section
/-! SUPPORT. The induction over a step: what a millisecond, every command of the part's own and the taking of one request
keep is kept by every step. -/

namespace Sys2Proof.Machine

/-- A property of the state is kept by the passing of a millisecond, by what each command does to the part, and by the
arrival and the taking of one request (R157 to R160). -/
structure KeptByCommands (P : State → Prop) : Prop where
  pending : ∀ s l, P s → P { s with pending := l }
  tick : ∀ s, P s → P s.tick
  loseRequest : ∀ s, P s → P s.loseRequest
  pushRequest : ∀ s r, P s → r.payload.length ≤ 56 → s.mgmt.queue.length < 16 → P (s.pushRequest r)
  serve : ∀ s r rest, P s → s.mgmt.queue = r :: rest → s.placeFree = true → P ((s.popRequest rest).serve r)
  powerOn : ∀ s, P s → P s.powerOnAgain
  lockGained : ∀ s p, P s → P (s.lockGained p)
  lockLost : ∀ s p, P s → P (s.lockLost p)
  frameStartMark : ∀ s p, P s → P (s.frameStartMark p)
  lineReceived : ∀ s p pixels, P s → P (s.lineReceived p pixels)
  frameEndMark : ∀ s p n attention, P s → P (s.frameEndMark p n attention)
  stalenessExpiry : ∀ s p, P s → P (s.stalenessExpiry p)
  dramWriteComplete : ∀ s, P s → P s.dramWriteComplete
  sourceReadComplete : ∀ s, P s → P s.sourceReadComplete
  bandCompletion : ∀ s b, P s → P (s.bandCompletion b)
  frameStart : ∀ s, P s → P s.frameStart
  bandStart : ∀ s b, P s → P (s.bandStart b)
  bandEnd : ∀ s b, P s → P (s.bandEnd b)
  turnoverWork : ∀ s, P s → P s.turnoverWork
  vehicleRecord : ∀ s bs, P s → P (s.vehicleRecord bs)
  staleExpiry : ∀ s, P s → P s.staleExpiry
  lostExpiry : ∀ s, P s → P s.lostExpiry
  rawChange : ∀ s l level, P s → P (s.rawChange l level)
  debounceExpiry : ∀ s l, P s → P (s.debounceExpiry l)
  loadTimerExpiry : ∀ s, P s → P s.loadTimerExpiry
  cameraAnswer : ∀ s p accept, P s → P (s.cameraAnswer p accept)
  readByte : ∀ s p b, P s → P (s.readByte p b)
  stepTimerExpiry : ∀ s p, P s → P (s.stepTimerExpiry p)
  stopMarkSent : ∀ s p, P s → P (s.stopMarkSent p)
  pageWriteComplete : ∀ s, P s → P s.pageWriteComplete
  writeTimerExpiry : ∀ s, P s → P s.writeTimerExpiry
  storeReadComplete : ∀ s answered, P s → P (s.storeReadComplete answered)
  bootWaitExpiry : ∀ s, P s → P s.bootWaitExpiry
  bootHeaderRead : ∀ s answered, P s → P (s.bootHeaderRead answered)
  bootEntryRead : ∀ s answered, P s → P (s.bootEntryRead answered)

namespace KeptByCommands

variable {P : State → Prop} (k : KeptByCommands P)
include k

theorem takeUp (s : State) (h : P s) : P s.takeUp := s.takeUp_induction h k.serve

theorem submit (s : State) (r : Request) (h : P s) : P (s.submit r) :=
  s.submit_induction r h (k.loseRequest s) (k.pushRequest s r) k.serve

theorem receiveRecord (s : State) (bs : List Byte) (h : P s) : P (s.receiveRecord bs) := by
  unfold State.receiveRecord
  split
  · exact k.vehicleRecord s bs h
  · split
    · exact k.submit s _ h
    · exact k.loseRequest s h

/-- A property kept by all of them is kept by every command. -/
theorem exec (c : Instr) (s t : State) (h : P s) (e : exec c s = .next t) : P t := by
  cases c with
  | powerOn => cases e; exact k.powerOn s h
  | lockGained p => cases e; exact k.lockGained s p h
  | lockLost p => cases e; exact k.lockLost s p h
  | frameStartMark p => cases e; exact k.frameStartMark s p h
  | lineReceived p pixels => cases e; exact k.lineReceived s p pixels h
  | frameEndMark p n attention => cases e; exact k.frameEndMark s p n attention h
  | stalenessTimerExpiry p => cases e; exact k.stalenessExpiry s p h
  | dramWriteComplete => cases e; exact k.dramWriteComplete s h
  | sourceReadComplete => cases e; exact k.sourceReadComplete s h
  | bandCompletion b => cases e; exact k.bandCompletion s b h
  | frameStart => cases e; exact k.frameStart s h
  | bandStart b => cases e; exact k.bandStart s b h
  | bandEnd b => cases e; exact k.bandEnd s b h
  | staleExpiry => cases e; exact k.staleExpiry s h
  | lostExpiry => cases e; exact k.lostExpiry s h
  | rawChange l level => cases e; exact k.rawChange s l level h
  | debounceTimerExpiry l => cases e; exact k.debounceExpiry s l h
  | loadTimerExpiry => cases e; exact k.loadTimerExpiry s h
  | cameraAnswer p accept => cases e; exact k.cameraAnswer s p accept h
  | readByte p b => cases e; exact k.readByte s p b h
  | stepTimerExpiry p => cases e; exact k.stepTimerExpiry s p h
  | stopMarkSent p => cases e; exact k.stopMarkSent s p h
  | pageWriteComplete => cases e; exact k.pageWriteComplete s h
  | writeTimerExpiry => cases e; exact k.writeTimerExpiry s h
  | storeReadComplete answered => cases e; exact k.storeReadComplete s answered h
  | bootWaitExpiry => cases e; exact k.bootWaitExpiry s h
  | bootHeaderRead answered => cases e; exact k.bootHeaderRead s answered h
  | bootEntryRead answered => cases e; exact k.bootEntryRead s answered h
  | turnover => cases e; exact k.takeUp _ (k.turnoverWork s h)
  | requestRecord bs => cases e; exact k.receiveRecord s bs h
  | vehicleDataRecord bs => cases e; exact k.receiveRecord s bs h
  | resetFull => cases e; exact k.submit s _ h
  | resetView => cases e; exact k.submit s _ h
  | unknownKind => cases e; exact k.submit s _ h
  | loadBegin => cases e; exact k.submit s _ h
  | loadData => cases e; exact k.submit s _ h
  | loadEnd => cases e; exact k.submit s _ h
  | loadAbort => cases e; exact k.submit s _ h
  | tableRead => cases e; exact k.submit s _ h
  | bindMode => cases e; exact k.submit s _ h
  | setView => cases e; exact k.submit s _ h
  | releaseView => cases e; exact k.submit s _ h
  | elementWrite => cases e; exact k.submit s _ h
  | elementClear => cases e; exact k.submit s _ h
  | camXfer => cases e; exact k.submit s _ h
  | lineConfig => cases e; exact k.submit s _ h
  | linesSet => cases e; exact k.submit s _ h
  | linesClear => cases e; exact k.submit s _ h
  | eventEnable => cases e; exact k.submit s _ h
  | eventAck => cases e; exact k.submit s _ h
  | storeWrite => cases e; exact k.submit s _ h
  | storeRead => cases e; exact k.submit s _ h

/-- A property kept by every command is kept by every step. -/
theorem step (s t : State) (h : P s) (e : step s = .next t) : P t := by
  unfold Machine.step at e
  split at e
  · cases e
    exact k.tick s h
  · rename_i c rest _
    exact k.exec c _ t (k.pending s rest h) e

end KeptByCommands

end Sys2Proof.Machine
end

section
/-! SUPPORT. The slot ring and the port's own operations (R9 to R18): what each leaves in the ring, and that each keeps a
consistent port consistent. -/

namespace Sys2Proof.Machine

theorem Tri.get_set {α : Type} (q : Tri α) (i j : Fin 3) (a : α) :
    (q.set i a).get j = if j = i then a else q.get j := by
  by_cases h : j = i
  · simp [h]
  · simp [h, Tri.get_set_ne]

/-! ## Reading the ring after its operations (R15 to R18) -/

theorem Ring.get_release (r : Tri Slot) (st : SlotState) (i : Fin 3) :
    (Ring.release r st).get i = if (r.get i).st = st then Slot.empty else r.get i := by
  simp [Ring.release]

/-- The slot found is the lowest-numbered one in the state. -/
theorem Ring.find_eq_some_iff (r : Tri Slot) (st : SlotState) (i : Fin 3) :
    Ring.find r st = some i ↔ (r.get i).st = st ∧ ∀ j < i, (r.get j).st ≠ st := by
  unfold Ring.find
  match i with
  | 0 => by_cases h0 : r.t0.st = st <;> by_cases h1 : r.t1.st = st <;> simp [Tri.get, h0, h1]
  | 1 => by_cases h0 : r.t0.st = st <;> by_cases h1 : r.t1.st = st <;> simp [Tri.get, h0, h1]
  | 2 => by_cases h0 : r.t0.st = st <;> by_cases h1 : r.t1.st = st <;> simp [Tri.get, h0, h1, Fin.forall_fin_succ]

theorem Ring.find_eq_none_iff (r : Tri Slot) (st : SlotState) : Ring.find r st = none ↔ ∀ i, (r.get i).st ≠ st := by
  unfold Ring.find
  simp only [Fin.forall_fin_succ, Tri.get]
  split
  · rename_i h; simp [h]
  · split
    · rename_i h; simp [h]
    · split
      · rename_i h; simp [h]
      · simp_all

theorem Ring.find_isSome_iff (r : Tri Slot) (st : SlotState) :
    (Ring.find r st).isSome = true ↔ ∃ i, (r.get i).st = st := by
  rw [← not_iff_not, Bool.not_eq_true, Option.isSome_eq_false_iff, Option.isNone_iff_eq_none, Ring.find_eq_none_iff]
  simp

theorem Ring.get_complete_self (r : Tri Slot) (i : Fin 3) (n : Nat) :
    (Ring.complete r i n).get i = ⟨.ready, some n⟩ := by
  simp [Ring.complete]

theorem Ring.get_complete_ne (r : Tri Slot) (i j : Fin 3) (n : Nat) (h : j ≠ i) :
    (Ring.complete r i n).get j = if (r.get j).st = .ready then Slot.empty else r.get j := by
  rw [Ring.complete, Tri.get_set_ne _ _ _ _ h, Ring.get_release]

/-- The ring of a camera outside the live set loses its READING slot (R18). -/
theorem Ring.get_turnover_not_live (r : Tri Slot) (i : Fin 3) :
    (Ring.turnover false r).get i = if (r.get i).st = .reading then Slot.empty else r.get i := by
  simp [Ring.turnover, Ring.get_release]

/-- With no READY slot a live camera's ring stands (R18). -/
theorem Ring.turnover_live_of_none (r : Tri Slot) (h : ∀ i, (r.get i).st ≠ .ready) : Ring.turnover true r = r := by
  simp [Ring.turnover, (Ring.find_eq_none_iff r .ready).mpr h]

/-- A READY slot of a live camera takes the place of its READING one (R18). -/
theorem Ring.get_turnover_live (r : Tri Slot) (j : Fin 3) (hj : (r.get j).st = .ready) (i : Fin 3) :
    (Ring.turnover true r).get i =
      match (r.get i).st with
      | .ready => ⟨.reading, (r.get i).frameNo⟩
      | .reading => Slot.empty
      | .free => r.get i
      | .filling => r.get i := by
  obtain ⟨k, hk⟩ := Option.isSome_iff_exists.mp ((Ring.find_isSome_iff r .ready).mpr ⟨j, hj⟩)
  simp only [Ring.turnover, hk, if_true, Tri.get_map, Ring.get_release]
  cases h : (r.get i).st <;> simp [h, Slot.empty]

/-! ## A ring and the slot of the frame in flight (R15) -/

/-- The ring's part of a port's consistency: `filling` is the one FILLING slot, and at most one slot is READY and at most
one READING. -/
def RingFits (r : Tri Slot) (filling : Option (Fin 3)) : Prop :=
  (∀ i, (r.get i).st = .filling ↔ filling = some i) ∧
  (∀ i j, (r.get i).st = .ready → (r.get j).st = .ready → i = j) ∧
  (∀ i j, (r.get i).st = .reading → (r.get j).st = .reading → i = j)

/-- A slot holds a picture: READY or READING (R18). -/
def HasPicture (r : Tri Slot) : Prop := ∃ i, (r.get i).st = .ready ∨ (r.get i).st = .reading

/-- The states whose link is locked (R9). -/
def PortState.onLockedLink (st : PortState) : Prop := st = .acquiring ∨ st = .live ∨ st = .stale ∨ st = .frozen

theorem portConsistent_iff (p : Port) : PortConsistent p ↔
    RingFits p.ring (p.flight.map Flight.slot) ∧ (p.st = .live → HasPicture p.ring) ∧
      (p.st.onLockedLink → p.lock = true) := by
  have hf : ∀ i, (∃ f, p.flight = some f ∧ f.slot = i) ↔ p.flight.map Flight.slot = some i := fun i => by simp
  simp only [PortConsistent, RingFits, HasPicture, PortState.onLockedLink, hf, and_assoc]

/-- A ring fits once its slots are told: which is FILLING, and that a READY or READING slot is one that was, or is the
slot `i` that stands alone in its state. -/
theorem RingFits.of_get {r r' : Tri Slot} {f f' : Option (Fin 3)} (h : RingFits r f)
    (hf : ∀ j, (r'.get j).st = .filling ↔ f' = some j)
    (hr : ∀ j, (r'.get j).st = .ready → (r.get j).st = .ready)
    (hg : ∀ j, (r'.get j).st = .reading → (r.get j).st = .reading) : RingFits r' f' :=
  ⟨hf, fun i j hi hj => h.2.1 i j (hr i hi) (hr j hj), fun i j hi hj => h.2.2 i j (hg i hi) (hg j hj)⟩

/-- The FILLING slot of a discarded frame becomes FREE (R17). -/
theorem RingFits.clear {r : Tri Slot} {i : Fin 3} (h : RingFits r (some i)) : RingFits (r.set i Slot.empty) none := by
  refine h.of_get (fun j => ?_) (fun j => ?_) (fun j => ?_) <;> rw [Tri.get_set] <;> by_cases hj : j = i <;>
    simp [hj, Slot.empty]
  exact fun h' => hj (Option.some.inj ((h.1 j).mp h')).symm

/-- A FREE slot becomes FILLING for a new frame (R16). -/
theorem RingFits.fill {r : Tri Slot} (h : RingFits r none) (i : Fin 3) : RingFits (r.set i ⟨.filling, none⟩) (some i) := by
  refine h.of_get (fun j => ?_) (fun j => ?_) (fun j => ?_) <;> rw [Tri.get_set] <;> by_cases hj : j = i <;>
    simp [hj]
  exact ⟨fun h' => absurd ((h.1 j).mp h') (by simp), fun h' => absurd h'.symm hj⟩

/-- Slots that are READY, or READING, become FREE. -/
theorem RingFits.release {r : Tri Slot} {f : Option (Fin 3)} (h : RingFits r f) (st : SlotState) (hst : st ≠ .filling) :
    RingFits (Ring.release r st) f := by
  refine h.of_get (fun j => ?_) (fun j => ?_) (fun j => ?_) <;> rw [Ring.get_release] <;>
    by_cases hj : (r.get j).st = st <;> simp [hj, Slot.empty]
  · exact fun h' => hst (hj.symm.trans ((h.1 j).mpr h'))
  · exact h.1 j

/-- The FILLING slot becomes FREE at a VIEW reset (R22). -/
theorem RingFits.release_filling {r : Tri Slot} {f : Option (Fin 3)} (h : RingFits r f) :
    RingFits (Ring.release r .filling) none := by
  refine h.of_get (fun j => ?_) (fun j => ?_) (fun j => ?_) <;> rw [Ring.get_release] <;>
    by_cases hj : (r.get j).st = .filling <;> simp [hj, Slot.empty]

/-- The frame's slot becomes the one READY slot (R17). -/
theorem RingFits.complete {r : Tri Slot} {i : Fin 3} (h : RingFits r (some i)) (n : Nat) :
    RingFits (Ring.complete r i n) none := by
  have ready : ∀ j, ((Ring.complete r i n).get j).st = .ready → j = i := fun j hj => by
    by_contra hji
    rw [Ring.get_complete_ne r i j n hji] at hj
    by_cases hr : (r.get j).st = .ready <;> simp [hr, Slot.empty] at hj
  refine ⟨fun j => ?_, fun j k hj hk => (ready j hj).trans (ready k hk).symm, fun j k hj hk => ?_⟩
  · by_cases hji : j = i
    · simp [hji, Ring.get_complete_self]
    · rw [Ring.get_complete_ne r i j n hji]
      by_cases hr : (r.get j).st = .ready
      · simp [hr, Slot.empty]
      · simpa [hr] using fun h' => hji (Option.some.inj ((h.1 j).mp h')).symm
  · have reading : ∀ j, ((Ring.complete r i n).get j).st = .reading → (r.get j).st = .reading := fun j hj => by
      by_cases hji : j = i
      · simp [hji, Ring.get_complete_self] at hj
      · rw [Ring.get_complete_ne r i j n hji] at hj
        by_cases hr : (r.get j).st = .ready <;> simp [hr, Slot.empty] at hj
        exact hj
    exact h.2.2 j k (reading j hj) (reading k hk)

/-- The reader's step keeps the ring's form (R18). -/
theorem RingFits.turnover {r : Tri Slot} {f : Option (Fin 3)} (h : RingFits r f) (live : Bool) :
    RingFits (Ring.turnover live r) f := by
  cases live with
  | false => exact h.release .reading (by simp)
  | true =>
    by_cases hn : ∀ i, (r.get i).st ≠ .ready
    · rw [Ring.turnover_live_of_none r hn]
      exact h
    · obtain ⟨k, hk⟩ := not_forall_not.mp hn
      have reading : ∀ j, ((Ring.turnover true r).get j).st = .reading → (r.get j).st = .ready := fun j hj => by
        rw [Ring.get_turnover_live r k hk] at hj
        cases hs : (r.get j).st <;> simp [hs, Slot.empty] at hj ⊢
      refine ⟨fun j => ?_, fun i j hi _ => ?_, fun i j hi hj => h.2.1 i j (reading i hi) (reading j hj)⟩
      · rw [Ring.get_turnover_live r k hk, ← h.1 j]
        cases hs : (r.get j).st <;> simp [hs, Slot.empty]
      · rw [Ring.get_turnover_live r k hk] at hi
        cases hs : (r.get i).st <;> simp [hs, Slot.empty] at hi

/-- A live camera's ring keeps a picture through the reader's step (R18). -/
theorem HasPicture.turnover {r : Tri Slot} (h : HasPicture r) : HasPicture (Ring.turnover true r) := by
  by_cases hn : ∀ i, (r.get i).st ≠ .ready
  · rwa [Ring.turnover_live_of_none r hn]
  · obtain ⟨k, hk⟩ := not_forall_not.mp hn
    exact ⟨k, Or.inr (by rw [Ring.get_turnover_live r k hk, hk])⟩

/-- A slot that was no picture takes none away. -/
theorem HasPicture.set {r : Tri Slot} {i : Fin 3} {x : Slot} (h : HasPicture r)
    (hi : (r.get i).st = .filling ∨ (r.get i).st = .free) : HasPicture (r.set i x) := by
  obtain ⟨j, hj⟩ := h
  have hji : j ≠ i := by rintro rfl; rcases hi with hi | hi <;> simp [hi] at hj
  exact ⟨j, by rwa [Tri.get_set_ne _ _ _ _ hji]⟩

theorem HasPicture.complete (r : Tri Slot) (i : Fin 3) (n : Nat) : HasPicture (Ring.complete r i n) :=
  ⟨i, Or.inl (by rw [Ring.get_complete_self])⟩

/-! ## The port's operations keep a consistent port consistent -/

/-- What leaves the ring, the frame's slot and the lock record alone needs only its new state looked at. -/
theorem PortConsistent.of_same {p q : Port} (h : PortConsistent p) (hr : q.ring = p.ring)
    (hf : q.flight.map Flight.slot = p.flight.map Flight.slot) (hl : q.lock = p.lock) (hlive : q.st = .live → p.st = .live)
    (hst : q.st.onLockedLink → p.st.onLockedLink) : PortConsistent q := by
  rw [portConsistent_iff] at h ⊢
  rw [hr, hf, hl]
  exact ⟨h.1, fun hq => h.2.1 (hlive hq), fun hq => h.2.2 (hst hq)⟩

/-- The frame in flight's slot is FILLING (R16). -/
theorem PortConsistent.filling {p : Port} (h : PortConsistent p) {f : Flight} (hf : p.flight = some f) :
    (p.ring.get f.slot).st = .filling := (h.1 f.slot).mpr ⟨f, hf, rfl⟩

theorem PortConsistent.dropFlight {p : Port} (h : PortConsistent p) (granted : Bool) :
    PortConsistent (p.dropFlight granted) := by
  unfold Port.dropFlight
  split
  · exact h
  · rename_i f hf
    have hi := h.filling hf
    rw [portConsistent_iff, hf] at h
    rw [portConsistent_iff]
    exact ⟨h.1.clear, fun hl => (h.2.1 hl).set (Or.inl hi), h.2.2⟩

/-- A discarded frame is no longer in flight (R17). -/
@[simp] theorem Port.dropFlight_flight (p : Port) (granted : Bool) : (p.dropFlight granted).flight = none := by
  unfold Port.dropFlight
  split
  · assumption
  · rfl

theorem PortConsistent.onDiscard {p : Port} (h : PortConsistent p) : PortConsistent p.onDiscard := by
  unfold Port.onDiscard
  split
  · exact h.of_same rfl rfl rfl id id
  · exact h

@[simp] theorem Port.onDiscard_flight (p : Port) : p.onDiscard.flight = p.flight := by
  unfold Port.onDiscard
  split <;> rfl

theorem PortConsistent.beginFrame {p : Port} (h : PortConsistent p) (hf : p.flight = none) :
    PortConsistent p.beginFrame := by
  unfold Port.beginFrame
  split
  · exact h
  · rename_i i hi
    rw [portConsistent_iff, hf] at h
    rw [portConsistent_iff]
    exact ⟨h.1.fill i, fun hl => (h.2.1 hl).set (Or.inr ((Ring.find_eq_some_iff _ _ _).mp hi).1), h.2.2⟩

/-- A received line leaves the frame in its slot (R2). -/
theorem Port.receiveLine_frame (p : Port) (pixels : List (Byte × Byte)) : ∃ flight bufs,
    p.receiveLine pixels = { p with flight := flight, bufs := bufs } ∧
      flight.map Flight.slot = p.flight.map Flight.slot := by
  unfold Port.receiveLine
  split
  · rename_i hf
    exact ⟨_, _, rfl, rfl⟩
  · rename_i f hf
    rw [hf]
    split
    · exact ⟨_, _, rfl, rfl⟩
    · split <;> exact ⟨_, _, rfl, rfl⟩

theorem PortConsistent.receiveLine {p : Port} (h : PortConsistent p) (pixels : List (Byte × Byte)) :
    PortConsistent (p.receiveLine pixels) := by
  obtain ⟨flight, bufs, e, hf⟩ := p.receiveLine_frame pixels
  rw [e]
  exact h.of_same rfl hf rfl id id

/-- The state machine at a valid frame changes its own fields alone, and goes from a locked link's state to one (R10). -/
theorem Port.onValid_frame (p : Port) (sig : Option Signature) : ∃ st acquire repeats,
    p.onValid sig = { p with
      st := st, acquire := acquire, repeats := repeats, staleness := .running 100, lastSig := sig } ∧
    (st.onLockedLink → p.st.onLockedLink) := by
  unfold Port.onValid Port.stepValid
  cases hs : p.st with
  | acquiring =>
    dsimp only
    split <;> exact ⟨_, _, _, rfl, fun _ => Or.inl rfl⟩
  | live =>
    dsimp only
    unfold Port.checkSignature
    split
    · dsimp only
      split <;> exact ⟨_, _, _, rfl, fun _ => Or.inr (Or.inl rfl)⟩
    · exact ⟨_, _, _, rfl, fun _ => Or.inr (Or.inl rfl)⟩
  | stale => exact ⟨_, _, _, rfl, fun _ => Or.inr (Or.inr (Or.inl rfl))⟩
  | frozen =>
    dsimp only
    split <;> exact ⟨_, _, _, rfl, fun _ => Or.inr (Or.inr (Or.inr rfl))⟩
  | off => exact ⟨_, _, _, rfl, fun h => by rwa [hs] at h⟩
  | absent => exact ⟨_, _, _, rfl, fun h => by rwa [hs] at h⟩

/-- A valid frame leaves its slot READY and nothing in flight, whatever the state machine then does (R17). -/
theorem PortConsistent.storeValid {p : Port} (h : PortConsistent p) {f : Flight} (hf : p.flight = some f)
    (attention : Bool) (sig : Option Signature) : PortConsistent ((p.storeValid f attention).onValid sig) := by
  rw [portConsistent_iff, hf] at h
  obtain ⟨st, acquire, repeats, e, hst⟩ := (p.storeValid f attention).onValid_frame sig
  rw [e, portConsistent_iff]
  exact ⟨h.1.complete _, fun _ => HasPicture.complete _ _ _, fun hq => h.2.2 (hst hq)⟩

theorem PortConsistent.lockGained {p : Port} (h : PortConsistent p) : PortConsistent p.lockGained := by
  rw [portConsistent_iff] at h
  unfold Port.lockGained
  split
  · rw [portConsistent_iff]
    exact ⟨h.1, fun hl => by simp [Port.toAcquiring] at hl, fun _ => rfl⟩
  · rw [portConsistent_iff]
    exact ⟨h.1, h.2.1, fun _ => rfl⟩

theorem not_onLockedLink_off : ¬PortState.onLockedLink .off := by simp [PortState.onLockedLink]

theorem not_onLockedLink_absent : ¬PortState.onLockedLink .absent := by simp [PortState.onLockedLink]

/-- In a state that needs no lock, the ring alone is looked at. -/
theorem PortConsistent.at_rest {p q : Port} (h : PortConsistent p) (hr : q.ring = p.ring)
    (hf : q.flight.map Flight.slot = p.flight.map Flight.slot) (hst : q.st = .off ∨ q.st = .absent) : PortConsistent q := by
  rw [portConsistent_iff] at h ⊢
  rw [hr, hf]
  refine ⟨h.1, fun hq => ?_, fun hq => ?_⟩ <;> rcases hst with hst | hst
  · simp [hst] at hq
  · simp [hst] at hq
  · exact absurd (hst ▸ hq) not_onLockedLink_off
  · exact absurd (hst ▸ hq) not_onLockedLink_absent

/-- The two cases of a lock lost, by whether the port takes frames (R9). -/
theorem Port.lockLost_cases (p : Port) (granted : Bool) :
    ((p.st = .off ∨ p.st = .absent) ∧ p.lockLost granted = { p with lock := false }) ∨
    (p.st ≠ .off ∧ p.st ≠ .absent ∧ p.lockLost granted = { p.dropFlight granted with
      lock := false, st := .absent, staleness := .stopped, acquire := 0, repeats := 0 }) := by
  unfold Port.lockLost
  cases p.st <;> simp

theorem PortConsistent.lockLost {p : Port} (h : PortConsistent p) (granted : Bool) :
    PortConsistent (p.lockLost granted) := by
  obtain ⟨hs, e⟩ | ⟨-, -, e⟩ := p.lockLost_cases granted
  · rw [e]
    exact h.at_rest rfl rfl hs
  · rw [e]
    exact (h.dropFlight granted).at_rest rfl rfl (Or.inr rfl)

theorem PortConsistent.staleExpiry {p : Port} (h : PortConsistent p) : PortConsistent p.staleExpiry := by
  unfold Port.staleExpiry
  split
  · rename_i hs
    exact h.of_same rfl rfl rfl (by simp) fun _ => Or.inr (Or.inl hs)
  · rename_i hs
    exact h.of_same rfl rfl rfl (by simp) fun _ => Or.inr (Or.inr (Or.inr hs))
  · exact h.of_same rfl rfl rfl id id
  · exact h

/-- A consistent ring with no frame in flight, in a state that is not LIVE and on a link whose lock the state asks for. -/
theorem portConsistent_not_live {p : Port} {f : Option (Fin 3)} (hr : RingFits p.ring f)
    (hf : p.flight.map Flight.slot = f) (hs : p.st ≠ .live) (hl : p.st = .off ∨ p.st = .absent ∨ p.lock = true) :
    PortConsistent p := by
  rw [portConsistent_iff, hf]
  refine ⟨hr, fun h => absurd h hs, fun h => ?_⟩
  rcases hl with hl | hl | hl
  · exact absurd (hl ▸ h) not_onLockedLink_off
  · exact absurd (hl ▸ h) not_onLockedLink_absent
  · exact hl

/-- The cases of a Camera Profile at its port, by the Enabled field before and after (R8). -/
theorem Port.applyProfile_cases (p : Port) (granted : Bool) (profile : List Byte) :
    (profileEnabled p.profile = profileEnabled profile ∧
      p.applyProfile granted profile = { p with profile := profile }) ∨
    (profileEnabled p.profile = false ∧ profileEnabled profile = true ∧ p.lock = true ∧
      p.applyProfile granted profile = ({ p with profile := profile } : Port).toAcquiring 0) ∨
    (profileEnabled p.profile = false ∧ profileEnabled profile = true ∧ p.lock = false ∧
      p.applyProfile granted profile = { p with profile := profile, st := .absent, staleness := .stopped }) ∨
    (profileEnabled p.profile = true ∧ profileEnabled profile = false ∧
      p.applyProfile granted profile = { p.dropFlight granted with
        profile := profile, st := .off, staleness := .stopped, ring := Ring.release (p.dropFlight granted).ring .ready }) := by
  have hd : (({ p with profile := profile } : Port).dropFlight granted) =
      { p.dropFlight granted with profile := profile } := by
    unfold Port.dropFlight
    cases p with
    | mk _ _ _ _ _ _ _ _ _ _ _ _ flight => cases flight <;> rfl
  unfold Port.applyProfile
  dsimp only
  cases profileEnabled p.profile <;> cases profileEnabled profile
  · exact Or.inl ⟨rfl, rfl⟩
  · cases hl : p.lock
    · exact Or.inr (Or.inr (Or.inl ⟨rfl, rfl, rfl, rfl⟩))
    · exact Or.inr (Or.inl ⟨rfl, rfl, rfl, rfl⟩)
  · exact Or.inr (Or.inr (Or.inr ⟨rfl, rfl, by rw [hd]⟩))
  · exact Or.inl ⟨rfl, rfl⟩

theorem PortConsistent.applyProfile {p : Port} (h : PortConsistent p) (granted : Bool) (profile : List Byte) :
    PortConsistent (p.applyProfile granted profile) := by
  have h' := (portConsistent_iff p).mp h
  obtain ⟨-, e⟩ | ⟨-, -, hl, e⟩ | ⟨-, -, hl, e⟩ | ⟨-, -, e⟩ := p.applyProfile_cases granted profile
  · rw [e]
    exact h.of_same rfl rfl rfl id id
  · rw [e]
    exact portConsistent_not_live h'.1 rfl (by simp [Port.toAcquiring]) (Or.inr (Or.inr hl))
  · rw [e]
    exact h.at_rest rfl rfl (Or.inr rfl)
  · rw [e]
    have hd := (portConsistent_iff _).mp (h.dropFlight granted)
    exact portConsistent_not_live (hd.1.release .ready (by simp)) rfl (by simp) (Or.inl rfl)

theorem PortConsistent.viewReset {p : Port} (h : PortConsistent p) (granted : Bool) :
    PortConsistent (p.viewReset granted) := by
  have hr := (((portConsistent_iff p).mp h).1.release_filling).release .ready (by simp)
  unfold Port.viewReset
  dsimp only
  split
  · split
    · rename_i hl
      exact portConsistent_not_live hr rfl (by simp [Port.toAcquiring]) (Or.inr (Or.inr hl))
    · exact portConsistent_not_live hr rfl (by simp) (Or.inr (Or.inl rfl))
  · exact portConsistent_not_live hr rfl (by simp) (Or.inl rfl)

/-- A port at its power-on values is consistent (R21). -/
theorem portConsistent_powerOn (lock : Bool) : PortConsistent (Port.powerOn lock) :=
  portConsistent_not_live (f := none)
    ⟨fun i => by simp [Port.powerOn, Slot.empty], fun i j => by simp [Port.powerOn, Slot.empty],
      fun i j => by simp [Port.powerOn, Slot.empty]⟩ rfl (by simp [Port.powerOn]) (Or.inl rfl)

theorem portConsistent_fullReset (p : Port) (granted : Bool) : PortConsistent (p.fullReset granted) :=
  (portConsistent_powerOn p.lock).of_same rfl rfl rfl id id

end Sys2Proof.Machine
end

section
/-! Every step keeps the ports and the channels consistent (R9, R15, R18, R136, R138, R143). -/

namespace Sys2Proof.Machine

variable {s t : State}

/-! ## Resets: the parts the ports, the channels and the memories see (R168, R169) -/

/-- What a FULL reset leaves, but for the compositor's own state (R20, R57, R145, R155, R168). -/
theorem State.fullReset_frame (s : State) (k : Ticket) : ∃ layouts g lp work next h0 h1 bal ovl modes veh tx mgmt,
    s.fullReset k = { s with
      ports := Quad.build fun p => (s.port p).fullReset (s.writingFor p)
      dram := { s.dram with granted := g, lastPort := lp }
      layouts := layouts, comp := ⟨Plan.powerOn, work, next, Seam.zero, true, h0, h1⟩, bal := bal, ovl := ovl
      modes := modes, veh := veh
      chans := Quad.build fun p => Channel.powerOn (s.port p).lock
      tx := tx, mgmt := mgmt, store := s.resetStore.store } := by
  obtain ⟨g, lp, work, next, h0, h1, e, -⟩ := State.resetCompositor_frame { s.resetPorts with
    layouts := LayoutStore.powerOn, bal := BalanceUnit.powerOn, ovl := OverlayEngine.powerOn
    modes := ModeController.powerOn, mgmt := Management.powerOn }
  have hl : ∀ p, ((Quad.build fun p => (s.port p).fullReset (s.writingFor p)).get p).lock = (s.port p).lock := fun p => by
    rw [Quad.get_build]; rfl
  unfold State.fullReset State.fullResetBlocks State.rebuildHeader
  rw [e]
  dsimp only [State.resetVehicle, State.resetChannels, State.resetStore, State.resetPorts]
  simp only [hl]
  split <;> exact ⟨_, g, lp, work, next, h0, h1, _, _, _, _, _, _, rfl⟩

theorem State.resetModeView_frame (s : State) : ∃ m st, s.resetModeView = { s with modes := m, mgmt.status := st } := by
  obtain ⟨md, d, st, e⟩ := s.setMode_frame
    (if s.store.boot.status = .running then s.modes.mode
     else if s.modes.bind.panorama.isSome then .panorama else .standby)
  exact ⟨_, st, by rw [State.resetModeView, e]⟩

/-- What a VIEW reset leaves: the ports have done their own part, and no channel is reached (R169). -/
theorem State.viewReset_frame (s : State) (k : Ticket) : ∃ bal modes mgmt,
    s.viewReset k = { s with
      ports := (forCams State.viewResetPort s).ports
      dram.lastPort := 3, comp.incomplete := true, bal := bal, modes := modes, mgmt := mgmt } := by
  have hv : ∃ ports m, forCams State.viewResetPort s = { s with ports := ports, mgmt := m } := by
    refine forCams_induction (P := fun u => ∃ ports m, u = { s with ports := ports, mgmt := m }) _ ?_ s ⟨_, _, rfl⟩
    rintro c u ⟨ports, m, rfl⟩
    exact ⟨_, _, State.putPort_eq _ _ _⟩
  obtain ⟨ports, m, e⟩ := hv
  unfold State.viewReset State.viewResetBlocks
  rw [e]
  obtain ⟨md, st, e2⟩ := State.resetModeView_frame ({ s with ports := ports, mgmt := m } : State).resetBalanceView
  dsimp only
  rw [e2]
  exact ⟨_, _, _, rfl⟩

/-! ## The ports -/

theorem PortsConsistent.of_ports (h : PortsConsistent s) (e : t.ports = s.ports) : PortsConsistent t := fun p => by
  rw [State.port, e]
  exact h p

theorem PortsConsistent.setPort (h : PortsConsistent s) {p : Cam} {q : Port} (hq : PortConsistent q) :
    PortsConsistent (s.setPort p q) := fun c => by
  by_cases hc : c = p
  · rwa [hc, State.port_setPort_self]
  · rw [State.port_setPort_ne _ _ _ _ hc]
    exact h c

theorem PortsConsistent.putPort (h : PortsConsistent s) {p : Cam} {q : Port} (hq : PortConsistent q) :
    PortsConsistent (s.putPort p q) :=
  (h.setPort hq).of_ports (by rw [State.putPort_eq]; rfl)

theorem portsConsistent_build (f : Cam → Port) (h : ∀ p, PortConsistent (f p)) (e : s.ports = Quad.build f) :
    PortsConsistent s := fun p => by
  rw [State.port, e, Quad.get_build]
  exact h p

@[simp] theorem State.grant_ports (s : State) : s.grant.ports = s.ports := by
  obtain ⟨g, lp, work, e, -⟩ := s.grant_frame
  rw [e]

@[simp] theorem State.askAttention_ports (s : State) (p : Cam) : (s.askAttention p).ports = s.ports := by
  simp [State.askAttention]

@[simp] theorem State.handExposure_ports (s : State) (p : Cam) (v : Nat) : (s.handExposure p v).ports = s.ports := by
  simp [State.handExposure]

theorem State.channelLockLost_ports (s : State) (p : Cam) : (s.channelLockLost p).ports = s.ports := by
  obtain ⟨c, m, e⟩ := s.channelLockLost_frame p
  rw [e]

@[simp] theorem State.restoreExposure_ports (s : State) (p : Cam) : (s.restoreExposure p).ports = s.ports := by
  unfold State.restoreExposure
  split <;> simp

/-- The ports after a valid frame: the port has stored it and acted on it (R3, R10, R17). -/
theorem State.validFrame_ports (s : State) (p : Cam) (f : Flight) (attention : Bool) :
    (s.validFrame p f attention).ports =
      s.ports.set p (((s.port p).storeValid f attention).onValid f.signature) := by
  unfold State.validFrame
  dsimp only
  split
  · rw [State.restoreExposure_ports, State.putPort_eq]
    split <;> simp [State.setPort]
  · rw [State.putPort_eq]
    split <;> simp [State.setPort]

/-- The ports after the oldest waiting line of one is written (R20). -/
theorem State.finishWrite_ports (s : State) (p : Cam) : ∃ bufs,
    (s.finishWrite p).ports = s.ports.set p { s.port p with bufs := bufs } := by
  unfold State.finishWrite
  split
  · exact ⟨(s.port p).bufs, (Quad.set_get_self s.ports p).symm⟩
  · exact ⟨_, rfl⟩

theorem State.dramWriteComplete_ports (s : State) : s.dramWriteComplete.ports = s.ports ∨ ∃ p bufs,
    s.dramWriteComplete.ports = s.ports.set p { s.port p with bufs := bufs } := by
  unfold State.dramWriteComplete
  split
  · rename_i p _
    obtain ⟨bufs, e⟩ := s.finishWrite_ports p
    exact Or.inr ⟨p, bufs, by rw [State.grant_ports]; exact e⟩
  · exact Or.inl rfl
  · exact Or.inl rfl

theorem PortsConsistent.frameStartMark (h : PortsConsistent s) (p : Cam) : PortsConsistent (s.frameStartMark p) := by
  unfold State.frameStartMark
  dsimp only
  split
  · split
    · rename_i hf
      exact h.setPort ((h p).beginFrame hf)
    · exact h.setPort (((h p).dropFlight _).onDiscard.beginFrame (by simp))
  · exact h

theorem PortsConsistent.frameEndMark (h : PortsConsistent s) (p : Cam) (n : Nat) (attention : Bool) :
    PortsConsistent (s.frameEndMark p n attention) := by
  unfold State.frameEndMark
  dsimp only
  split
  · split
    · exact h
    · rename_i f hf
      split
      · exact (h.setPort ((h p).storeValid hf attention f.signature)).of_ports (s.validFrame_ports p f attention)
      · exact h.setPort ((h p).dropFlight _).onDiscard
  · exact h

theorem PortsConsistent.turnRings (h : PortsConsistent s) : PortsConsistent s.turnRings :=
  portsConsistent_build
    (fun p => { s.port p with ring := Ring.turnover (decide ((s.port p).st = .live)) (s.port p).ring }) (fun p => by
    have hp := (portConsistent_iff _).mp (h p)
    refine (portConsistent_iff _).mpr ⟨hp.1.turnover _, fun hl => ?_, hp.2.2⟩
    dsimp only at hl ⊢
    rw [decide_eq_true hl]
    exact (hp.2.1 hl).turnover) rfl

theorem PortsConsistent.applyCamTable (h : PortsConsistent s) (d : TableLoad) : PortsConsistent (s.applyCamTable d) := by
  unfold State.applyCamTable
  split
  · obtain ⟨c, st, res, fil, e⟩ := s.applyProfile_frame d.cam d.content
    exact (h.setPort ((h d.cam).applyProfile (s.writingFor d.cam) d.content)).of_ports (by rw [e]; rfl)
  · exact h.setPort ((h d.cam).of_same rfl rfl rfl id id)
  · exact h

theorem PortsConsistent.applyCamTables (h : PortsConsistent s) (ds : List TableLoad) :
    PortsConsistent (ds.foldl State.applyCamTable s) := by
  induction ds generalizing s with
  | nil => exact h
  | cons d ds ih => exact ih (h.applyCamTable d)

theorem PortsConsistent.viewResetPorts (h : PortsConsistent s) : PortsConsistent (forCams State.viewResetPort s) :=
  forCams_induction State.viewResetPort (fun c u hu => hu.putPort ((hu c).viewReset (u.writingFor c))) s h

theorem PortsConsistent.serve (h : PortsConsistent s) (r : Request) : PortsConsistent (s.serve r) := by
  unfold State.serve
  split
  · exact h
  · exact h
  · rename_i q _
    by_cases hq : ∀ w, q ≠ .reset w
    · obtain ⟨layouts, modes, ovl, chans, veh, mgmt, store, e, -⟩ := s.serveReq_frame ⟨r.tag, r.kind⟩ q hq
      rw [e]
      exact h
    · obtain ⟨w, rfl⟩ := not_forall_not.mp hq
      change PortsConsistent (s.serveReset ⟨r.tag, r.kind⟩ w)
      unfold State.serveReset
      split
      · obtain ⟨layouts, g, lp, work, next, h0, h1, bal, ovl, modes, veh, tx, mgmt, e⟩ := s.fullReset_frame ⟨r.tag, r.kind⟩
        exact portsConsistent_build _ (fun p => portConsistent_fullReset (s.port p) (s.writingFor p)) (by rw [e])
      · split
        · obtain ⟨bal, modes, mgmt, e⟩ := s.viewReset_frame ⟨r.tag, r.kind⟩
          exact h.viewResetPorts.of_ports (by rw [e])
        · exact h

/-- Every command keeps the ports consistent. -/
theorem keptByCommands_portsConsistent : KeptByCommands PortsConsistent where
  pending _ _ h := h
  tick s h := portsConsistent_build (fun p => { s.port p with staleness := (s.port p).staleness.tick })
    (fun p => (h p).of_same rfl rfl rfl id id) rfl
  loseRequest _ h := h
  pushRequest _ _ h _ _ := h
  serve _ r _ h _ _ := PortsConsistent.serve (s := State.popRequest _ _) h r
  powerOn s h := portsConsistent_build _ (fun p => portConsistent_powerOn _) (by
    obtain ⟨mem, e, -⟩ := s.powerOnAgain_frame
    rw [e]; rfl)
  lockGained _ p h := h.putPort (h p).lockGained
  lockLost s p h := (h.putPort ((h p).lockLost _)).of_ports (State.channelLockLost_ports _ p)
  frameStartMark _ p h := h.frameStartMark p
  lineReceived s p pixels h := by
    unfold State.lineReceived
    split
    · exact (h.setPort ((h p).receiveLine pixels)).of_ports (State.grant_ports _)
    · exact h
  frameEndMark _ p n attention h := h.frameEndMark p n attention
  stalenessExpiry s p h := by
    unfold State.stalenessExpiry
    split
    · exact h.putPort (h p).staleExpiry
    · exact h
  dramWriteComplete s h := by
    obtain e | ⟨p, bufs, e⟩ := s.dramWriteComplete_ports
    · exact h.of_ports e
    · exact (h.setPort (p := p) ((h p).of_same (q := { s.port p with bufs := bufs }) rfl rfl rfl id id)).of_ports e
  sourceReadComplete s h := by
    obtain ⟨g, lp, c, e⟩ := s.sourceReadComplete_frame
    rw [e]; exact h
  bandCompletion s b h := by
    obtain ⟨g, lp, c, e⟩ := s.bandCompletion_frame b
    rw [e]; exact h
  frameStart s h := by
    obtain ⟨g, lp, c, x, v, e⟩ := s.frameStart_frame
    rw [e]; exact h
  bandStart s b h := by
    obtain ⟨g, lp, c, x, m, e⟩ := s.bandStart_frame b
    rw [e]; exact h
  bandEnd s b h := by
    obtain ⟨g, lp, c, x, e⟩ := s.bandEnd_frame b
    rw [e]; exact h
  turnoverWork s h := (h.turnRings.applyCamTables s.dueTables).of_ports s.turnoverWork_ports
  vehicleRecord s bs h := by
    obtain ⟨m, v, e⟩ := s.vehicleRecord_frame bs
    rw [e]; exact h
  staleExpiry s h := by
    obtain ⟨m, v, e⟩ := s.staleExpiry_frame
    rw [e]; exact h
  lostExpiry s h := by
    obtain ⟨m, v, e⟩ := s.lostExpiry_frame
    rw [e]; exact h
  rawChange s l level h := by
    obtain ⟨m, v, e⟩ := s.rawChange_frame l level
    rw [e]; exact h
  debounceExpiry s l h := by
    obtain ⟨m, v, e⟩ := s.debounceExpiry_frame l
    rw [e]; exact h
  loadTimerExpiry s h := by
    obtain ⟨m, e⟩ := s.loadTimerExpiry_frame
    rw [e]; exact h
  cameraAnswer s p accept h := by
    obtain ⟨c, m, e⟩ := s.cameraAnswer_frame p accept
    rw [e]; exact h
  readByte s p b h := by
    obtain ⟨c, m, e⟩ := s.readByte_frame p b
    rw [e]; exact h
  stepTimerExpiry s p h := by
    obtain ⟨c, m, e⟩ := s.stepTimerExpiry_frame p
    rw [e]; exact h
  stopMarkSent s p h := by
    obtain ⟨c, m, e⟩ := s.stopMarkSent_frame p
    rw [e]; exact h
  pageWriteComplete s h := by
    obtain ⟨m, x, n, e⟩ := s.pageWriteComplete_frame
    rw [e]; exact h
  writeTimerExpiry s h := by
    obtain ⟨m, x, e⟩ := s.writeTimerExpiry_frame
    rw [e]; exact h
  storeReadComplete s answered h := by
    obtain ⟨m, x, n, e⟩ := s.storeReadComplete_frame answered
    rw [e]; exact h
  bootWaitExpiry s h := by
    obtain ⟨x, e⟩ := s.bootWaitExpiry_frame
    rw [e]; exact h
  bootHeaderRead s answered h := by
    obtain ⟨x, n, e⟩ := s.bootHeaderRead_frame answered
    rw [e]; exact h
  bootEntryRead s answered h := by
    obtain ⟨l, m, x, n, e⟩ := s.bootEntryRead_frame answered
    rw [e]; exact h

end Sys2Proof.Machine
end

section
/-! Every step keeps the channels consistent (R136, R138, R143): the lock records stand, or the channel is told. -/

namespace Sys2Proof.Machine

variable {s t : State}

/-! ## The lock record under the port's operations (R1) -/

@[simp] theorem Port.dropFlight_lock (p : Port) (granted : Bool) : (p.dropFlight granted).lock = p.lock := by
  unfold Port.dropFlight
  split <;> rfl

@[simp] theorem Port.onDiscard_lock (p : Port) : p.onDiscard.lock = p.lock := by
  unfold Port.onDiscard
  split <;> rfl

@[simp] theorem Port.beginFrame_lock (p : Port) : p.beginFrame.lock = p.lock := by
  unfold Port.beginFrame
  split <;> rfl

@[simp] theorem Port.receiveLine_lock (p : Port) (pixels : List (Byte × Byte)) : (p.receiveLine pixels).lock = p.lock := by
  obtain ⟨flight, bufs, e, -⟩ := p.receiveLine_frame pixels
  rw [e]

@[simp] theorem Port.storeValid_lock (p : Port) (f : Flight) (attention : Bool) :
    (p.storeValid f attention).lock = p.lock := rfl

@[simp] theorem Port.onValid_lock (p : Port) (sig : Option Signature) : (p.onValid sig).lock = p.lock := by
  obtain ⟨st, acquire, repeats, e, -⟩ := p.onValid_frame sig
  rw [e]

@[simp] theorem Port.staleExpiry_lock (p : Port) : p.staleExpiry.lock = p.lock := by
  unfold Port.staleExpiry
  split <;> rfl

@[simp] theorem Port.applyProfile_lock (p : Port) (granted : Bool) (profile : List Byte) :
    (p.applyProfile granted profile).lock = p.lock := by
  obtain ⟨-, e⟩ | ⟨-, -, -, e⟩ | ⟨-, -, -, e⟩ | ⟨-, -, e⟩ := p.applyProfile_cases granted profile <;> rw [e]
  · rfl
  · exact p.dropFlight_lock granted

@[simp] theorem Port.viewReset_lock (p : Port) (granted : Bool) : (p.viewReset granted).lock = p.lock := by
  unfold Port.viewReset
  dsimp only
  split
  · split <;> rfl
  · rfl

@[simp] theorem Port.lockGained_lock (p : Port) : p.lockGained.lock = true := by
  unfold Port.lockGained
  split <;> rfl

@[simp] theorem Port.lockLost_lock (p : Port) (granted : Bool) : (p.lockLost granted).lock = false := by
  obtain ⟨-, e⟩ | ⟨-, -, e⟩ := p.lockLost_cases granted <;> rw [e]

/-! ## Channels that stand while their links do -/

theorem ChannelsConsistent.of_eq (h : ChannelsConsistent s) (hc : t.chans = s.chans)
    (hl : ∀ p, (t.port p).lock = (s.port p).lock) : ChannelsConsistent t := fun p => by
  rw [State.chan, hc, hl p]
  exact h p

theorem State.setPort_lock (s : State) (p c : Cam) (q : Port) :
    ((s.setPort p q).port c).lock = if c = p then q.lock else (s.port c).lock := by
  by_cases hc : c = p
  · simp [hc]
  · simp [hc, State.port_setPort_ne]

/-- A port that keeps its lock record leaves its channel consistent. -/
theorem ChannelsConsistent.setPort (h : ChannelsConsistent s) {p : Cam} {q : Port} (hq : q.lock = (s.port p).lock) :
    ChannelsConsistent (s.setPort p q) :=
  h.of_eq rfl fun c => by
    rw [State.setPort_lock]
    split
    · rename_i hc; rw [hq, hc]
    · rfl

theorem ChannelsConsistent.putPort (h : ChannelsConsistent s) {p : Cam} {q : Port} (hq : q.lock = (s.port p).lock) :
    ChannelsConsistent (s.putPort p q) :=
  (h.setPort hq).of_eq (by rw [State.putPort_eq]; rfl) fun c => by rw [State.putPort_eq]; rfl

theorem ChannelsConsistent.build {f : Cam → Port} (h : ChannelsConsistent s) (hf : ∀ p, (f p).lock = (s.port p).lock)
    (hp : t.ports = Quad.build f) (hc : t.chans = s.chans) : ChannelsConsistent t :=
  h.of_eq hc fun p => by rw [State.port, hp, Quad.get_build, hf]

/-- A channel put in place of a consistent one, that differs in what no rule of consistency looks at. -/
theorem ChannelsConsistent.setChan (h : ChannelsConsistent s) {p : Cam} {c : Channel}
    (hc : ChannelConsistent c (s.port p).lock) : ChannelsConsistent (s.setChan p c) := fun q => by
  by_cases hq : q = p
  · rw [hq, State.chan_setChan_self]
    exact hc
  · rw [State.chan_setChan_ne _ _ _ _ hq]
    exact h q

/-! ## Arbitration after a requester joins, and the end of a transaction -/

/-- An ordered channel put in place and arbitrated leaves every channel consistent (R143). -/
theorem ChannelsConsistent.arbitrate_setChan (h : ChannelsConsistent s) {p : Cam} {c : Channel}
    (hc : ChannelOrdered c (s.port p).lock) : ChannelsConsistent ((s.setChan p c).arbitrate p) :=
  State.arbitrate_keeps _ p (by rw [State.chan_setChan_self]; exact hc) fun q hq => by
    rw [State.chan_setChan_ne _ _ _ _ hq]
    exact h q

theorem ChannelsConsistent.askAttention (h : ChannelsConsistent s) (p : Cam) : ChannelsConsistent (s.askAttention p) :=
  h.arbitrate_setChan ⟨fun ha => ((h p).1 ha).1, (h p).2⟩

theorem ChannelsConsistent.handExposure (h : ChannelsConsistent s) (p : Cam) (v : Nat) :
    ChannelsConsistent (s.handExposure p v) :=
  h.arbitrate_setChan ⟨fun ha => ((h p).1 ha).1, (h p).2⟩

/-- The end of a transaction at a channel leaves it consistent, whatever the link's lock record says (R137, R143). -/
theorem State.endTransaction_keeps (s : State) (p : Cam) (x : Transaction) (r : Result) (data : List Byte)
    (items : List WireItem) (hq : (s.chan p).queue.length ≤ 4)
    (ho : ∀ q, q ≠ p → ChannelConsistent (s.chan q) (s.port q).lock) :
    ChannelsConsistent (s.endTransaction p x r data items) := by
  unfold State.endTransaction
  obtain ⟨c, st, res, fil, e, hc⟩ := State.handResult_frame
    (s.setChan p { s.chan p with active := false, flight := none, timer := .stopped, out := items }) p x r data
  rw [State.chan_setChan_self] at hc
  refine State.arbitrate_keeps _ p ?_ fun q hqp => ?_
  · rw [e, hc]
    simp only [State.chan, Quad.get_set_self]
    exact ⟨fun _ => rfl, fun h => absurd rfl h, hq⟩
  · rw [e]
    have hchan : ((s.chans.set p { s.chan p with active := false, flight := none, timer := .stopped, out := items }).set
        p c).get q = s.chans.get q := by rw [Quad.set_set, Quad.get_set_ne _ _ _ _ hqp]
    have := ho q hqp
    rw [State.chan, ← hchan] at this
    exact this

theorem ChannelsConsistent.endTransaction (h : ChannelsConsistent s) (p : Cam) (x : Transaction) (r : Result)
    (data : List Byte) (items : List WireItem) : ChannelsConsistent (s.endTransaction p x r data items) :=
  s.endTransaction_keeps p x r data items (h p).2.2 fun q _ => h q

/-- A transaction in flight goes on at an ACTIVE channel on a locked link. -/
theorem ChannelsConsistent.nextStep (h : ChannelsConsistent s) (p : Cam) {x : Transaction}
    (hx : (s.chan p).flight = some x) (y : Transaction) (items : List WireItem) :
    ChannelsConsistent (s.nextStep p y items) := by
  obtain ⟨ha, hl, hq⟩ := h p
  refine h.setChan ⟨fun h0 => ?_, fun _ => hl (by simp [hx]), hq⟩
  have := (ha h0).1
  simp [hx] at this

theorem ChannelsConsistent.cameraAnswer (h : ChannelsConsistent s) (p : Cam) (accept : Bool) :
    ChannelsConsistent (s.cameraAnswer p accept) := by
  unfold State.cameraAnswer
  split
  · exact h
  · rename_i x hx
    split
    · unfold State.acceptStep
      split
      · exact h.nextStep p hx _ _
      · exact h.nextStep p hx _ _
      · split <;> exact h.nextStep p hx _ _
      · split
        · exact h.nextStep p hx _ _
        · exact h.endTransaction p _ _ _ _
      · exact h.nextStep p hx _ _
      · exact h
    · unfold State.rejectStep
      split
      · exact h.endTransaction p _ _ _ _
      · exact h.endTransaction p _ _ _ _
      · exact h.endTransaction p _ _ _ _
      · exact h.endTransaction p _ _ _ _
      · exact h.endTransaction p _ _ _ _
      · exact h

theorem ChannelsConsistent.readByte (h : ChannelsConsistent s) (p : Cam) (b : Byte) :
    ChannelsConsistent (s.readByte p b) := by
  unfold State.readByte
  split
  · exact h
  · rename_i x hx
    split
    · split
      · exact h.nextStep p hx _ _
      · exact h.endTransaction p _ _ _ _
    · exact h

theorem ChannelsConsistent.stepTimerExpiry (h : ChannelsConsistent s) (p : Cam) :
    ChannelsConsistent (s.stepTimerExpiry p) := by
  unfold State.stepTimerExpiry
  split
  · exact h
  · split
    · exact h.endTransaction p _ _ _ _
    · exact h

theorem ChannelsConsistent.stopMarkSent (h : ChannelsConsistent s) (p : Cam) : ChannelsConsistent (s.stopMarkSent p) := by
  unfold State.stopMarkSent
  split
  · rename_i hs
    exact h.arbitrate_setChan ⟨fun _ => hs.2, fun hf => absurd hs.2 hf, (h p).2.2⟩
  · exact h

/-- On the link that loses its lock every requester ends NO-LINK; the other channels keep their links (R136). -/
theorem ChannelsConsistent.lockLost (h : ChannelsConsistent s) (p : Cam) : ChannelsConsistent (s.lockLost p) := by
  unfold State.lockLost
  generalize hq : (s.port p).lockLost (s.writingFor p) = q
  have hc : (s.putPort p q).chans = s.chans := by rw [State.putPort_eq]
  have ho : ∀ c, c ≠ p → ChannelConsistent ((s.putPort p q).chan c) ((s.putPort p q).port c).lock := fun c hcp => by
    rw [State.chan, hc, State.putPort_eq, State.port, Quad.get_set_ne _ _ _ _ hcp]
    exact h c
  have hp : (s.putPort p q).chan p = s.chan p := by rw [State.chan, hc]; rfl
  unfold State.channelLockLost
  rw [hp]
  split
  · exact State.endTransaction_keeps _ p _ _ _ _ (by rw [hp]; exact (h p).2.2) ho
  · rename_i hf
    refine State.arbitrate_keeps _ p ?_ fun c hcp => ?_
    · rw [State.chan_setChan_self]
      exact ⟨fun _ => hf, fun h0 => absurd hf h0, (h p).2.2⟩
    · rw [State.chan_setChan_ne _ _ _ _ hcp]
      exact ho c hcp

theorem ChannelsConsistent.lockGained (h : ChannelsConsistent s) (p : Cam) : ChannelsConsistent (s.lockGained p) := by
  rw [channelsConsistent_iff]
  intro c
  have hc : (s.lockGained p).chan c = s.chan c := by rw [State.lockGained, State.putPort_eq]; rfl
  have hl : ((s.lockGained p).port c).lock = if c = p then true else (s.port c).lock := by
    rw [State.lockGained, State.putPort_eq]
    exact (s.setPort_lock p c _).trans (by rw [Port.lockGained_lock])
  rw [hc, hl]
  split
  · exact ⟨(h c).1, fun _ => rfl, (h c).2.2⟩
  · exact h c

/-! ## Frames, tables and the balance unit -/

theorem ChannelsConsistent.validFrame (h : ChannelsConsistent s) (p : Cam) (f : Flight) (attention : Bool) :
    ChannelsConsistent (s.validFrame p f attention) := by
  unfold State.validFrame
  dsimp only
  have h1 : ChannelsConsistent (s.setPort p ((s.port p).storeValid f attention)) := h.setPort rfl
  generalize hq : (s.port p).storeValid f attention = q at h1
  have h2 : ChannelsConsistent (if (attention && (profileStatus q.profile).isSome) = true then
      (s.setPort p q).askAttention p else s.setPort p q) ∧
      ((if (attention && (profileStatus q.profile).isSome) = true then
        (s.setPort p q).askAttention p else s.setPort p q).port p) = q := by
    split
    · exact ⟨h1.askAttention p, by simp [State.port, State.setPort]⟩
    · exact ⟨h1, by simp⟩
  generalize hs2 : (if (attention && (profileStatus q.profile).isSome) = true then
      (s.setPort p q).askAttention p else s.setPort p q) = s2 at h2
  have h3 : ChannelsConsistent (s2.putPort p (q.onValid f.signature)) := h2.1.putPort (by rw [h2.2]; simp)
  split
  · unfold State.restoreExposure
    split
    · exact h3.handExposure p _
    · exact h3
  · exact h3

theorem ChannelsConsistent.frameEndMark (h : ChannelsConsistent s) (p : Cam) (n : Nat) (attention : Bool) :
    ChannelsConsistent (s.frameEndMark p n attention) := by
  unfold State.frameEndMark
  dsimp only
  split
  · split
    · exact h
    · split
      · exact h.validFrame p _ attention
      · exact h.setPort (by simp)
  · exact h

/-- A channel under a Camera Profile that is applied stays consistent: requests are withdrawn, none joins (R140). -/
theorem ChannelConsistent.applyProfile {c : Channel} {lock : Bool} (h : ChannelConsistent c lock) (profile : List Byte) :
    ChannelConsistent (c.applyProfile profile) lock := by
  refine ⟨fun ha => ?_, fun hf => h.2.1 fun h0 => hf (by simp [Channel.applyProfile, h0]), h.2.2⟩
  obtain ⟨hq, -, hw⟩ := h.nothingWaits ha
  refine ⟨by simp [Channel.applyProfile, (h.1 ha).1], (Channel.choose_eq_none _).mpr ⟨hq, rfl, ?_⟩⟩
  simp [Channel.applyProfile, hw]

theorem ChannelsConsistent.profiled (h : ChannelsConsistent s) (p : Cam) (profile : List Byte) :
    ChannelsConsistent (s.profiled p profile) := by
  have h1 : ChannelsConsistent (s.setPort p ((s.port p).applyProfile (s.writingFor p) profile)) := h.setPort (by simp)
  exact h1.setChan (c := (s.chan p).applyProfile profile) (ChannelConsistent.applyProfile (h1 p) profile)

theorem ChannelsConsistent.applyCamTable (h : ChannelsConsistent s) (d : TableLoad) :
    ChannelsConsistent (s.applyCamTable d) := by
  unfold State.applyCamTable
  split
  · rw [State.applyProfile_eq]
    split
    · exact (h.profiled d.cam d.content).askAttention d.cam
    · exact h.profiled d.cam d.content
  · exact h.setPort rfl
  · exact h

theorem ChannelsConsistent.applyCamTables (h : ChannelsConsistent s) (ds : List TableLoad) :
    ChannelsConsistent (ds.foldl State.applyCamTable s) := by
  induction ds generalizing s with
  | nil => exact h
  | cons d ds ih => exact ih (h.applyCamTable d)

theorem ChannelsConsistent.nudgeTest (h : ChannelsConsistent s) (c : Cam) : ChannelsConsistent (s.nudgeTest c) := by
  unfold State.nudgeTest
  split
  · split
    · exact h
    · split
      · exact h
      · exact ChannelsConsistent.handExposure (s := s.setBal c (s.camBal c).nudged) h c _
  · exact h

theorem ChannelsConsistent.settleAndNudge (h : ChannelsConsistent s) (c : Cam) :
    ChannelsConsistent (s.settleAndNudge c) := by
  unfold State.settleAndNudge
  dsimp only
  split
  · exact ChannelsConsistent.nudgeTest (s := s.setBal c (s.camBal c).settleStep) h c
  · exact h

theorem ChannelsConsistent.turnBalance (h : ChannelsConsistent s) (table : Option (List Byte)) :
    ChannelsConsistent (s.turnBalance table) := by
  have hb : ChannelsConsistent s.balanceTurnover :=
    forCams_induction State.settleAndNudge (fun c u hu => hu.settleAndNudge c) s.gainTurnover h
  cases table with
  | none => exact hb
  | some bs =>
    unfold State.turnBalance
    dsimp only
    generalize s.balanceTurnover = u at hb ⊢
    exact hb

theorem ChannelsConsistent.turnRings (h : ChannelsConsistent s) : ChannelsConsistent s.turnRings :=
  h.build (f := fun p => { s.port p with ring := Ring.turnover (decide ((s.port p).st = .live)) (s.port p).ring })
    (fun _ => rfl) rfl rfl

theorem ChannelsConsistent.turnoverWork (h : ChannelsConsistent s) : ChannelsConsistent s.turnoverWork := by
  have hb : ChannelsConsistent s.balanced := by
    unfold State.balanced
    exact (h.turnRings.applyCamTables s.dueTables).turnBalance _
  obtain ⟨modes, ovl, band, inUse, m, more, b, plan, tx, e, -⟩ := s.turnoverWork_frame
  rw [e]
  generalize s.balanced = u at hb ⊢
  exact hb

/-! ## Requests and resets -/

/-- A channel at its power-on values is consistent with its link (R131, R145). -/
theorem channelConsistent_powerOn (lock : Bool) : ChannelConsistent (Channel.powerOn lock) lock :=
  ⟨fun _ => ⟨rfl, rfl⟩, fun h => absurd rfl h, Nat.zero_le _⟩

theorem ChannelsConsistent.serveCamXfer (h : ChannelsConsistent s) (k : Ticket) (camera device direction : Byte)
    (register : BitVec 16) (count : Byte) (data : List Byte) :
    ChannelsConsistent (s.serveCamXfer k camera device direction register count data) := by
  obtain ⟨r, e⟩ | ⟨p, x, hq, e⟩ := s.serveCamXfer_cases k camera device direction register count data
  · rw [e]
    exact h
  · rw [e]
    obtain ⟨ha, hl, -⟩ := h p
    exact h.arbitrate_setChan ⟨fun h0 => (ha h0).1, hl, by simp; omega⟩

theorem ChannelsConsistent.viewResetPorts (h : ChannelsConsistent s) :
    ChannelsConsistent (forCams State.viewResetPort s) ∧ (forCams State.viewResetPort s).chans = s.chans :=
  forCams_induction State.viewResetPort (P := fun u => ChannelsConsistent u ∧ u.chans = s.chans)
    (fun _ _ hu => ⟨hu.1.putPort (by simp), by rw [State.viewResetPort, State.putPort_eq]; exact hu.2⟩) s ⟨h, rfl⟩

theorem ChannelsConsistent.serve (h : ChannelsConsistent s) (r : Request) : ChannelsConsistent (s.serve r) := by
  unfold State.serve
  split
  · exact h
  · exact h
  · rename_i q _
    by_cases hq : ∀ w, q ≠ .reset w
    · by_cases hx : ∀ c d dir r n data, q ≠ .camXfer c d dir r n data
      · obtain ⟨layouts, modes, ovl, chans, veh, mgmt, store, e, hc, -⟩ := s.serveReq_frame ⟨r.tag, r.kind⟩ q hq
        rw [e]
        exact h.of_eq (hc hx) fun _ => rfl
      · simp only [not_forall, not_not] at hx
        obtain ⟨c, d, dir, reg, n, data, rfl⟩ := hx
        exact h.serveCamXfer _ _ _ _ _ _ _
    · obtain ⟨w, rfl⟩ := not_forall_not.mp hq
      change ChannelsConsistent (s.serveReset ⟨r.tag, r.kind⟩ w)
      unfold State.serveReset
      split
      · obtain ⟨layouts, g, lp, work, next, h0, h1, bal, ovl, modes, veh, tx, mgmt, e⟩ := s.fullReset_frame ⟨r.tag, r.kind⟩
        rw [e]
        intro p
        rw [State.chan, State.port, Quad.get_build, Quad.get_build]
        exact channelConsistent_powerOn (s.port p).lock
      · split
        · obtain ⟨bal, modes, mgmt, e⟩ := s.viewReset_frame ⟨r.tag, r.kind⟩
          rw [e]
          obtain ⟨hu, hc⟩ := h.viewResetPorts
          generalize forCams State.viewResetPort s = u at hu hc ⊢
          exact hu.of_eq hc.symm fun _ => rfl
        · exact h

/-- Every command keeps the channels consistent. -/
theorem keptByCommands_channelsConsistent : KeptByCommands ChannelsConsistent where
  pending _ _ h := h
  tick s h := fun p => by
    have hp := h p
    simp only [State.tick, State.chan, State.port, Quad.get_build]
    exact hp
  loseRequest _ h := h
  pushRequest _ _ h _ _ := h
  serve _ r _ h _ _ := ChannelsConsistent.serve (s := State.popRequest _ _) h r
  powerOn s h := by
    obtain ⟨mem, e, -⟩ := s.powerOnAgain_frame
    rw [e]
    intro p
    simp only [State.powerOn, State.chan, State.port, Quad.get_build]
    exact channelConsistent_powerOn _
  lockGained _ p h := h.lockGained p
  lockLost _ p h := h.lockLost p
  frameStartMark s p h := by
    unfold State.frameStartMark
    dsimp only
    split
    · split <;> exact h.setPort (by simp)
    · exact h
  lineReceived s p pixels h := by
    unfold State.lineReceived
    split
    · obtain ⟨g, lp, work, e, -⟩ := (s.setPort p ((s.port p).receiveLine pixels)).grant_frame
      rw [e]
      exact h.setPort (by simp)
    · exact h
  frameEndMark _ p n attention h := h.frameEndMark p n attention
  stalenessExpiry s p h := by
    unfold State.stalenessExpiry
    split
    · exact h.putPort (by simp)
    · exact h
  dramWriteComplete s h := by
    unfold State.dramWriteComplete
    split
    · rename_i p _
      have hf : ChannelsConsistent (s.finishWrite p) := by
        unfold State.finishWrite
        split
        · exact h
        · exact h.setPort (q := { s.port p with bufs := _ }) rfl
      obtain ⟨g, lp, work, e, -⟩ := State.grant_frame
        { s.finishWrite p with dram := { (s.finishWrite p).dram with granted := none } }
      rw [e]
      exact hf
    · exact h
    · exact h
  sourceReadComplete s h := by
    obtain ⟨g, lp, c, e⟩ := s.sourceReadComplete_frame
    rw [e]; exact h
  bandCompletion s b h := by
    obtain ⟨g, lp, c, e⟩ := s.bandCompletion_frame b
    rw [e]; exact h
  frameStart s h := by
    obtain ⟨g, lp, c, x, v, e⟩ := s.frameStart_frame
    rw [e]; exact h
  bandStart s b h := by
    obtain ⟨g, lp, c, x, m, e⟩ := s.bandStart_frame b
    rw [e]; exact h
  bandEnd s b h := by
    obtain ⟨g, lp, c, x, e⟩ := s.bandEnd_frame b
    rw [e]; exact h
  turnoverWork _ h := h.turnoverWork
  vehicleRecord s bs h := by
    obtain ⟨m, v, e⟩ := s.vehicleRecord_frame bs
    rw [e]; exact h
  staleExpiry s h := by
    obtain ⟨m, v, e⟩ := s.staleExpiry_frame
    rw [e]; exact h
  lostExpiry s h := by
    obtain ⟨m, v, e⟩ := s.lostExpiry_frame
    rw [e]; exact h
  rawChange s l level h := by
    obtain ⟨m, v, e⟩ := s.rawChange_frame l level
    rw [e]; exact h
  debounceExpiry s l h := by
    obtain ⟨m, v, e⟩ := s.debounceExpiry_frame l
    rw [e]; exact h
  loadTimerExpiry s h := by
    obtain ⟨m, e⟩ := s.loadTimerExpiry_frame
    rw [e]; exact h
  cameraAnswer _ p accept h := h.cameraAnswer p accept
  readByte _ p b h := h.readByte p b
  stepTimerExpiry _ p h := h.stepTimerExpiry p
  stopMarkSent _ p h := h.stopMarkSent p
  pageWriteComplete s h := by
    obtain ⟨m, x, n, e⟩ := s.pageWriteComplete_frame
    rw [e]; exact h
  writeTimerExpiry s h := by
    obtain ⟨m, x, e⟩ := s.writeTimerExpiry_frame
    rw [e]; exact h
  storeReadComplete s answered h := by
    obtain ⟨m, x, n, e⟩ := s.storeReadComplete_frame answered
    rw [e]; exact h
  bootWaitExpiry s h := by
    obtain ⟨x, e⟩ := s.bootWaitExpiry_frame
    rw [e]; exact h
  bootHeaderRead s answered h := by
    obtain ⟨x, n, e⟩ := s.bootHeaderRead_frame answered
    rw [e]; exact h
  bootEntryRead s answered h := by
    obtain ⟨l, m, x, n, e⟩ := s.bootEntryRead_frame answered
    rw [e]; exact h

/-- Settles O8: both properties are kept by every command, so by every step. -/
theorem everyStepKeepsPortsAndChannelsConsistent : Obligations.EveryStepKeepsPortsAndChannelsConsistent :=
  ⟨keptByCommands_portsConsistent.step, keptByCommands_channelsConsistent.step⟩

end Sys2Proof.Machine
end

section
/-! Every step keeps the memories sound (R2, R15, R172): the lines that wait, DRAM, what a band has read, and the
configuration memory with its page writes are looked at one by one. -/

namespace Sys2Proof.Machine

variable {s t : State}

/-! ## The four parts of the invariant -/

/-- A memory is canonical and holds nothing at or past `bound`. -/
def MemFits (d : Byte) (bound : Nat) (mem : List Host.Cell) : Prop := Memory.wf d mem ∧ ∀ c ∈ mem, c.1 < bound

/-- Every line that waits is a line of a slot, and no longer than one (R2). -/
def LinesFit (bufs : List LineBuf) : Prop := ∀ b ∈ bufs, b.line < 800 ∧ b.data.length ≤ 2560

/-- What a band has read so far is canonical (R56). -/
def BandBytesSound (work : Option BandWork) : Prop := ∀ w, work = some w → ∀ c, Memory.wf 0 (w.data.get c)

/-- A page write lies in the configuration memory (R175). -/
def PageWrite.Fits (w : PageWrite) : Prop := w.offset + w.data.length ≤ Config.storeBytes

/-- The configuration memory and the page writes at its interface (R172). -/
def StoreSound (x : Store) : Prop :=
  MemFits storeDefault Config.storeBytes x.mem ∧ ∀ w, x.writing = some w ∨ .lateWrite w ∈ x.access → w.Fits

theorem memoriesSound_iff (s : State) : MemoriesSound s ↔
    MemFits dramDefault Config.dramBytes s.dram.mem ∧ (∀ p, LinesFit (s.port p).bufs) ∧ BandBytesSound s.comp.work ∧
      StoreSound s.store := by
  simp only [MemoriesSound, MemFits, LinesFit, BandBytesSound, StoreSound, PageWrite.Fits, and_assoc]
  rfl

theorem memoriesSound_of (hm : MemFits dramDefault Config.dramBytes s.dram.mem) (hl : ∀ p, LinesFit (s.port p).bufs)
    (hb : BandBytesSound s.comp.work) (hx : StoreSound s.store) : MemoriesSound s :=
  (memoriesSound_iff s).mpr ⟨hm, hl, hb, hx⟩

theorem MemoriesSound.dram (h : MemoriesSound s) : MemFits dramDefault Config.dramBytes s.dram.mem :=
  ((memoriesSound_iff s).mp h).1

theorem MemoriesSound.lines (h : MemoriesSound s) : ∀ p, LinesFit (s.port p).bufs := ((memoriesSound_iff s).mp h).2.1

theorem MemoriesSound.band (h : MemoriesSound s) : BandBytesSound s.comp.work := ((memoriesSound_iff s).mp h).2.2.1

theorem MemoriesSound.store (h : MemoriesSound s) : StoreSound s.store := ((memoriesSound_iff s).mp h).2.2.2

/-- A run of bytes that lies below the bound keeps a memory in it. -/
theorem MemFits.writeBytes {d : Byte} {n : Nat} {mem : List Host.Cell} (h : MemFits d n mem) {a : Nat} {vs : List Byte}
    (ha : a + vs.length ≤ n) : MemFits d n (Memory.writeBytes d mem a vs) :=
  ⟨Memory.writeBytes_wf d vs mem a h.1, Memory.writeBytes_below d n vs mem a h.2 ha⟩

theorem memFits_nil (d : Byte) (n : Nat) : MemFits d n [] := ⟨⟨List.Pairwise.nil, by simp⟩, by simp⟩

/-! ## The lines that wait -/

theorem LinesFit.mono {bufs bufs' : List LineBuf} (h : LinesFit bufs) (hs : bufs' ⊆ bufs) : LinesFit bufs' :=
  fun b hb => h b (hs hb)

/-- The lines left when a frame's waiting writes are withdrawn (R20). -/
theorem withdrawWrites_eq (granted : Bool) (slot : Fin 3) (bufs : List LineBuf) :
    withdrawWrites granted slot bufs = keptLines granted slot bufs := by
  cases bufs with
  | nil => cases granted <;> simp [withdrawWrites, keptLines]
  | cons b bs =>
    cases granted
    · by_cases hb : b.slot = slot <;> simp [withdrawWrites, keptLines, hb]
    · simp [withdrawWrites, keptLines]

theorem keptLines_subset (granted : Bool) (slot : Fin 3) (bufs : List LineBuf) : keptLines granted slot bufs ⊆ bufs := by
  unfold keptLines
  split
  · exact List.append_subset.mpr ⟨List.take_subset 1 bufs, fun b hb => List.mem_of_mem_drop (List.mem_filter.mp hb).1⟩
  · exact List.filter_subset_self _

theorem Port.dropFlight_bufs_subset (p : Port) (granted : Bool) : (p.dropFlight granted).bufs ⊆ p.bufs := by
  unfold Port.dropFlight
  split
  · exact List.Subset.refl _
  · exact (withdrawWrites_eq _ _ _).symm ▸ keptLines_subset _ _ _

theorem keepGranted_subset (granted : Bool) (bufs : List LineBuf) : keepGranted granted bufs ⊆ bufs := by
  unfold keepGranted
  split
  · exact List.take_subset 1 bufs
  · exact List.nil_subset _

@[simp] theorem Port.onDiscard_bufs (p : Port) : p.onDiscard.bufs = p.bufs := by
  unfold Port.onDiscard
  split <;> rfl

@[simp] theorem Port.beginFrame_bufs (p : Port) : p.beginFrame.bufs = p.bufs := by
  unfold Port.beginFrame
  split <;> rfl

@[simp] theorem Port.onValid_bufs (p : Port) (sig : Option Signature) : (p.onValid sig).bufs = p.bufs := by
  obtain ⟨st, acquire, repeats, e, -⟩ := p.onValid_frame sig
  rw [e]

@[simp] theorem Port.staleExpiry_bufs (p : Port) : p.staleExpiry.bufs = p.bufs := by
  unfold Port.staleExpiry
  split <;> rfl

@[simp] theorem Port.lockGained_bufs (p : Port) : p.lockGained.bufs = p.bufs := by
  unfold Port.lockGained
  split <;> rfl

theorem Port.lockLost_bufs_subset (p : Port) (granted : Bool) : (p.lockLost granted).bufs ⊆ p.bufs := by
  obtain ⟨-, e⟩ | ⟨-, -, e⟩ := p.lockLost_cases granted <;> rw [e]
  · exact List.Subset.refl _
  · exact p.dropFlight_bufs_subset granted

theorem Port.applyProfile_bufs_subset (p : Port) (granted : Bool) (profile : List Byte) :
    (p.applyProfile granted profile).bufs ⊆ p.bufs := by
  obtain ⟨-, e⟩ | ⟨-, -, -, e⟩ | ⟨-, -, -, e⟩ | ⟨-, -, e⟩ := p.applyProfile_cases granted profile <;> rw [e]
  · exact List.Subset.refl _
  · exact List.Subset.refl _
  · exact List.Subset.refl _
  · exact p.dropFlight_bufs_subset granted

theorem Port.viewReset_bufs (p : Port) (granted : Bool) : (p.viewReset granted).bufs = keepGranted granted p.bufs := by
  unfold Port.viewReset
  dsimp only
  split
  · split <;> rfl
  · rfl

/-- The bytes of a line are at most those of 1280 pixels (R2). -/
theorem lineData_length (pixels : List (Byte × Byte)) : (lineData pixels).length = 2 * min 1280 pixels.length := by
  simp [lineData, List.length_flatMap, Config.frameWidth, Nat.mul_comm]

/-- A line that joins the buffers is one of lines 0 to 799, of at most 2560 bytes (R2, R3). -/
theorem LinesFit.receiveLine {p : Port} (h : LinesFit p.bufs) (pixels : List (Byte × Byte)) :
    LinesFit (p.receiveLine pixels).bufs := by
  unfold Port.receiveLine
  split
  · exact h
  · rename_i f _
    split
    · exact h
    · rename_i hf
      split
      · exact h
      · intro b hb
        rcases List.mem_append.mp hb with hb | hb
        · exact h b hb
        · rw [List.mem_singleton.mp hb]
          rw [Bool.or_eq_true, not_or, decide_eq_true_iff] at hf
          exact ⟨Nat.lt_of_not_le hf.2, by rw [lineData_length]; omega⟩

/-! ## Soundness under an update -/

/-- A state whose lines that wait, DRAM, band and configuration memory are those of a sound one is sound. -/
theorem MemoriesSound.of_same (h : MemoriesSound s) (hm : t.dram.mem = s.dram.mem) (hp : t.ports = s.ports)
    (hw : t.comp.work = s.comp.work) (hx : t.store = s.store) : MemoriesSound t :=
  memoriesSound_of (hm ▸ h.dram) (fun p => by rw [State.port, hp]; exact h.lines p) (hw ▸ h.band) (hx ▸ h.store)

theorem MemoriesSound.setPort (h : MemoriesSound s) {p : Cam} {q : Port} (hq : LinesFit q.bufs) :
    MemoriesSound (s.setPort p q) :=
  memoriesSound_of h.dram (fun c => by
    by_cases hc : c = p
    · rwa [hc, State.port_setPort_self]
    · rw [State.port_setPort_ne _ _ _ _ hc]
      exact h.lines c) h.band h.store

theorem MemoriesSound.putPort (h : MemoriesSound s) {p : Cam} {q : Port} (hq : LinesFit q.bufs) :
    MemoriesSound (s.putPort p q) := by
  rw [State.putPort_eq]
  exact (h.setPort (p := p) hq).of_same rfl rfl rfl rfl

theorem MemoriesSound.build (h : MemoriesSound s) {f : Cam → Port} (hf : ∀ p, (f p).bufs ⊆ (s.port p).bufs)
    (hp : t.ports = Quad.build f) (hm : t.dram.mem = s.dram.mem) (hw : t.comp.work = s.comp.work)
    (hx : StoreSound t.store) : MemoriesSound t :=
  memoriesSound_of (hm ▸ h.dram) (fun p => by rw [State.port, hp, Quad.get_build]; exact (h.lines p).mono (hf p))
    (hw ▸ h.band) hx

/-! ## What a band has read -/

theorem bandBytesSound_none : BandBytesSound none := fun _ h => by simp at h

/-- The arbiter takes a waiting read and leaves what is read (R20). -/
theorem BandBytesSound.grant (h : BandBytesSound s.comp.work) : BandBytesSound s.grant.comp.work := by
  obtain ⟨g, lp, work, e, hn, hs⟩ := s.grant_frame
  rw [e]
  intro w hw c
  cases hc : s.comp.work with
  | none => rw [show work = none from hn hc] at hw; simp at hw
  | some w0 =>
    obtain ⟨rest, hr, -⟩ := hs w0 hc
    rw [show work = _ from hr] at hw
    cases hw
    exact h w0 hc c

/-- A band of which nothing has been read. -/
theorem bandBytesSound_fresh (b : Nat) (reads : List SourceRead) (composed : Bool) :
    BandBytesSound (some ⟨b, reads, Quad.fill [], composed⟩) := fun w hw c => by
  cases hw
  rw [Quad.get_fill]
  exact ⟨List.Pairwise.nil, by simp⟩

/-- A band that starts has read nothing (R53). -/
theorem State.startBand_band (s : State) (b : Nat) : BandBytesSound (s.startBand b).comp.work := by
  obtain ⟨g, lp, rest, e, -⟩ := s.startBand_frame b
  rw [e]
  exact bandBytesSound_fresh _ _ _

theorem BandBytesSound.tryStartBand (h : BandBytesSound s.comp.work) : BandBytesSound s.tryStartBand.comp.work := by
  obtain ⟨-, e⟩ | ⟨-, -, -, e⟩ := s.tryStartBand_cases
  · rwa [e]
  · rw [e]
    exact s.startBand_band _

theorem State.dropWork_band (s : State) : BandBytesSound s.dropWork.comp.work := by
  rw [State.dropWork_eq]
  exact bandBytesSound_none

/-- The compositor takes in the bytes of one read (R56). -/
theorem BandBytesSound.takeRead (h : BandBytesSound s.comp.work) (r : SourceRead) :
    BandBytesSound (s.takeRead r).comp.work := by
  unfold State.takeRead
  split
  · exact h
  · rename_i w hw
    intro w' hw' c
    cases hw'
    by_cases hc : c = r.cam
    · rw [hc]
      simp only [BandWork.receive, Quad.get_set_self]
      exact Memory.writeBytes_wf 0 _ _ _ (h w hw r.cam)
    · simp only [BandWork.receive, Quad.get_set_ne _ _ _ _ hc]
      exact h w hw c

/-- A state that differs in the compositor and the arbiter alone is sound where its band is. -/
theorem MemoriesSound.of_band (h : MemoriesSound s) (hm : t.dram.mem = s.dram.mem) (hp : t.ports = s.ports)
    (hx : t.store = s.store) (hw : BandBytesSound t.comp.work) : MemoriesSound t :=
  memoriesSound_of (hm ▸ h.dram) (fun p => by rw [State.port, hp]; exact h.lines p) hw (hx ▸ h.store)

theorem MemoriesSound.grant (h : MemoriesSound s) : MemoriesSound s.grant := by
  have hb := h.band.grant
  obtain ⟨g, lp, work, e, -⟩ := s.grant_frame
  rw [e] at hb ⊢
  exact h.of_band rfl rfl rfl hb

theorem MemoriesSound.tryStartBand (h : MemoriesSound s) : MemoriesSound s.tryStartBand := by
  have hb := h.band.tryStartBand
  obtain ⟨g, lp, c, e⟩ := s.tryStartBand_band_frame
  rw [e] at hb ⊢
  exact h.of_band rfl rfl rfl hb

theorem MemoriesSound.dropWork (h : MemoriesSound s) : MemoriesSound s.dropWork := by
  have hb := s.dropWork_band
  obtain ⟨g, c, e⟩ := s.dropWork_frame
  rw [e] at hb ⊢
  exact h.of_band rfl rfl rfl hb

theorem MemoriesSound.startBand (h : MemoriesSound s) (b : Nat) : MemoriesSound (s.startBand b) := by
  have hb := s.startBand_band b
  obtain ⟨g, lp, rest, e, -⟩ := s.startBand_frame b
  rw [e] at hb ⊢
  exact h.of_band rfl rfl rfl hb

/-! ## DRAM and the bands (R20, R53, R54) -/

/-- Every line of every slot lies in DRAM (R15). -/
theorem slotLine_below (p : Cam) (i : Fin 3) (line : Nat) (h : line < 800) :
    slotBase p i + line * Config.lineBytes + 2560 ≤ Config.dramBytes := by
  simp only [slotBase, Config.slotBytes, Config.lineBytes, Config.dramBytes]
  have := p.isLt
  have := i.isLt
  omega

theorem MemoriesSound.finishWrite (h : MemoriesSound s) (p : Cam) : MemoriesSound (s.finishWrite p) := by
  unfold State.finishWrite
  split
  · exact h
  · rename_i b rest hb
    have hfit := h.lines p
    rw [hb] at hfit
    obtain ⟨hl, hd⟩ := hfit b (by simp)
    have h1 : MemoriesSound (s.setPort p { s.port p with bufs := rest }) :=
      h.setPort (hfit.mono (List.subset_cons_self _ _))
    refine memoriesSound_of (h.dram.writeBytes ?_) h1.lines h.band h.store
    have := slotLine_below p b.slot b.line hl
    omega

theorem MemoriesSound.dramWriteComplete (h : MemoriesSound s) : MemoriesSound s.dramWriteComplete := by
  unfold State.dramWriteComplete
  split
  · rename_i p _
    exact MemoriesSound.grant ((h.finishWrite p).of_same (t := { s.finishWrite p with dram := _ }) rfl rfl rfl rfl)
  · exact h
  · exact h

theorem MemoriesSound.sourceReadComplete (h : MemoriesSound s) : MemoriesSound s.sourceReadComplete := by
  unfold State.sourceReadComplete
  split
  · rename_i r wanted _
    dsimp only
    have hr : MemoriesSound (if wanted then s.takeRead r else s) := by
      split
      · have hb := h.band.takeRead r
        obtain ⟨c, e⟩ := s.takeRead_frame r
        rw [e] at hb ⊢
        exact h.of_band rfl rfl rfl hb
      · exact h
    generalize (if wanted then s.takeRead r else s) = u at hr ⊢
    exact MemoriesSound.grant (hr.of_same rfl rfl rfl rfl)
  · exact h
  · exact h

theorem MemoriesSound.bandCompletion (h : MemoriesSound s) (b : Nat) : MemoriesSound (s.bandCompletion b) := by
  unfold State.bandCompletion
  split
  · exact h
  · split
    · exact MemoriesSound.tryStartBand (h.of_band rfl rfl rfl bandBytesSound_none)
    · exact h

/-- A half put in place leaves the work (R53). -/
@[simp] theorem Compositor.setHalf_work (c : Compositor) (b : Nat) (x : Half) : (c.setHalf b x).work = c.work := by
  rw [Compositor.setHalf_frame]

theorem MemoriesSound.fillBand (h : MemoriesSound s) (b : Nat) : MemoriesSound (s.fillBand b) :=
  MemoriesSound.grant (MemoriesSound.tryStartBand (h.of_same rfl rfl (by simp) rfl))

theorem MemoriesSound.bandStart (h : MemoriesSound s) (b : Nat) : MemoriesSound (s.bandStart b) := by
  unfold State.bandStart
  dsimp only
  split
  · exact h.of_same rfl rfl (by simp) rfl
  · have hs : MemoriesSound { s with tx.phase := .inBand b } := h
    obtain e | e := State.underrunBand_cases { s with tx.phase := .inBand b } b
    · rw [e]
      exact hs.fillBand b
    · rw [e]
      exact hs.dropWork.fillBand b
  · exact h
  · exact h
  · exact h

theorem MemoriesSound.bandEnd (h : MemoriesSound s) (b : Nat) : MemoriesSound (s.bandEnd b) := by
  unfold State.bandEnd
  dsimp only
  split
  · exact MemoriesSound.tryStartBand (h.of_same rfl rfl (by simp) rfl)
  · exact MemoriesSound.tryStartBand (h.of_same rfl rfl (by simp) rfl)
  · exact h
  · exact h
  · exact h

end Sys2Proof.Machine
end

section
/-! The configuration memory stays sound (R172, R175), and with it every step keeps the memories sound. -/

namespace Sys2Proof.Machine

variable {s t : State}

/-! ## Page writes at the interface (R172, R175) -/

/-- A store whose pages and page writes are those of another, but for writes that are over. -/
def Store.Within (y x : Store) : Prop :=
  y.mem = x.mem ∧ (∀ w, y.writing = some w → x.writing = some w) ∧
    ∀ w, .lateWrite w ∈ y.access → .lateWrite w ∈ x.access

theorem StoreSound.within {x y : Store} (h : StoreSound x) (hy : y.Within x) : StoreSound y :=
  ⟨hy.1 ▸ h.1, fun w hw => h.2 w (hw.imp (hy.2.1 w) (hy.2.2 w))⟩

/-- Accesses that are no late write join the interface. -/
theorem Store.Within.push (x : Store) (more : List Access) (b : Boot) (hm : ∀ w, .lateWrite w ∉ more) :
    Store.Within { x with access := x.access ++ more, boot := b } x :=
  ⟨rfl, fun _ => id, fun w hw => (List.mem_append.mp hw).resolve_right (hm w)⟩

/-- Page writes that fit and end leave a memory that fits (R172, R175). -/
theorem MemFits.maySettle {mem' : List Host.Cell} : ∀ (ws : List PageWrite) (mem : List Host.Cell),
    MemFits storeDefault Config.storeBytes mem → (∀ w ∈ ws, w.Fits) → MaySettle ws mem mem' →
    MemFits storeDefault Config.storeBytes mem'
  | [], mem, h, _, hs => by rw [show mem' = mem from hs]; exact h
  | w :: ws, mem, h, hw, hs => by
    rcases hs with hs | hs
    · exact MemFits.maySettle ws mem h (fun x hx => hw x (by simp [hx])) hs
    · exact MemFits.maySettle ws _ (h.writeBytes (hw w (by simp))) (fun x hx => hw x (by simp [hx])) hs

theorem StoreSound.late {x : Store} (h : StoreSound x) {w : PageWrite} (hw : .lateWrite w ∈ x.access) : w.Fits :=
  h.2 w (Or.inr hw)

/-- The late writes in front end, and the store stays sound (R172). -/
theorem MemoriesSound.endLateWrites (h : MemoriesSound s) : MemoriesSound s.endLateWrites := by
  obtain ⟨mem, e, hm⟩ := s.endLateWrites_frame
  have ha := (splitLate_eq s.store.access).1
  rw [e]
  refine memoriesSound_of h.dram h.lines h.band ⟨MemFits.maySettle _ _ h.store.1 (fun w hw => ?_) hm, fun w hw => ?_⟩
  · refine h.store.late ?_
    rw [ha]
    exact List.mem_append_left _ (List.mem_map_of_mem hw)
  · refine h.store.2 w (hw.imp id fun hw => ?_)
    rw [ha]
    exact List.mem_append_right _ hw

/-- A state that differs in the configuration memory alone is sound where that is. -/
theorem MemoriesSound.of_store (h : MemoriesSound s) (hm : t.dram.mem = s.dram.mem) (hp : t.ports = s.ports)
    (hw : t.comp.work = s.comp.work) (hx : StoreSound t.store) : MemoriesSound t :=
  memoriesSound_of (hm ▸ h.dram) (fun p => by rw [State.port, hp]; exact h.lines p) (hw ▸ h.band) hx

theorem MemoriesSound.popAccess (h : MemoriesSound s) : MemoriesSound s.popAccess :=
  h.of_store rfl rfl rfl (h.store.within ⟨rfl, fun _ => id, fun _ hw => List.mem_of_mem_tail hw⟩)

theorem MemoriesSound.pageWriteComplete (h : MemoriesSound s) : MemoriesSound s.pageWriteComplete := by
  unfold State.pageWriteComplete
  split
  · rename_i w _ hw
    refine h.of_store rfl rfl rfl ⟨h.store.1.writeBytes (h.store.2 w (Or.inl hw)), fun w' hw' => ?_⟩
    exact h.store.late (List.mem_of_mem_tail (hw'.resolve_left (by simp [State.answer, State.endWrite])))
  · rename_i w rest ha
    obtain ⟨mem, e, hm⟩ := s.popAccess.settlePage_frame w
    have hp := h.popAccess.store
    have hfit : w.Fits := h.store.late (by simp [ha])
    rw [e]
    refine h.of_store rfl rfl rfl ⟨?_, hp.2⟩
    rcases hm with hm | hm
    · rw [hm]; exact hp.1
    · rw [hm]; exact hp.1.writeBytes hfit
  · exact h

theorem MemoriesSound.writeTimerExpiry (h : MemoriesSound s) : MemoriesSound s.writeTimerExpiry := by
  unfold State.writeTimerExpiry
  split
  · exact h
  · rename_i w hw
    split
    · refine h.of_store rfl rfl rfl ⟨h.store.1, fun w' hw' => ?_⟩
      obtain ⟨a, ha, hea⟩ := List.mem_map.mp (hw'.resolve_left (by simp [State.answer, State.loseWrite]))
      by_cases hp : a = .pageWrite
      · rw [if_pos hp] at hea
        cases hea
        exact h.store.2 w (Or.inl hw)
      · rw [if_neg hp] at hea
        exact h.store.late (hea ▸ ha)
    · exact h

theorem MemoriesSound.storeReadComplete (h : MemoriesSound s) (answered : Bool) :
    MemoriesSound (s.storeReadComplete answered) := by
  unfold State.storeReadComplete
  dsimp only
  split
  · exact h.endLateWrites.popAccess
  · exact h

/-! ## Boot (R173, R174) -/

theorem MemoriesSound.setBoot (h : MemoriesSound s) (b : Boot) : MemoriesSound (s.setBoot b) := h

theorem MemoriesSound.continueBoot (h : MemoriesSound s) : MemoriesSound s.continueBoot := by
  unfold State.continueBoot
  split
  · exact h
  · exact h.of_store rfl rfl rfl (h.store.within (Store.Within.push _ [.bootEntry] _ (by simp)))

theorem MemoriesSound.bootHeaderRead (h : MemoriesSound s) (answered : Bool) :
    MemoriesSound (s.bootHeaderRead answered) := by
  unfold State.bootHeaderRead
  dsimp only
  have hp := h.endLateWrites.popAccess
  split
  · split
    · exact hp
    · exact (hp.setBoot _).continueBoot
  · exact h

theorem MemoriesSound.writeLayout (h : MemoriesSound s) (d : TableLoad) : MemoriesSound (s.writeLayout d) := by
  obtain ⟨slots, e⟩ := s.writeLayout_frame d
  rw [e]
  exact h

theorem MemoriesSound.applyEntry (h : MemoriesSound s) (index : Nat) (code slot camera : Byte) (data : List Byte) :
    MemoriesSound (s.applyEntry index code slot camera data) := by
  unfold State.applyEntry
  split
  · exact (h.setBoot _).continueBoot
  · have hb : MemoriesSound (s.applyBindings data).2 := by
      obtain ⟨b, e⟩ := s.applyBindings_frame data
      rw [e]
      exact h
    dsimp only
    split
    · exact hb.continueBoot
    · exact (hb.setBoot _).continueBoot
  · exact (h.writeLayout _).continueBoot
  · exact h

theorem MemoriesSound.bootEntryRead (h : MemoriesSound s) (answered : Bool) :
    MemoriesSound (s.bootEntryRead answered) := by
  unfold State.bootEntryRead
  dsimp only
  have hp := h.endLateWrites.popAccess
  split
  · split
    · exact hp
    · exact (hp.setBoot _).applyEntry _ _ _ _ _
  · exact h

/-! ## Requests (R175) -/

theorem Parsed.ofLength_eq_ok (c : Bool) (r q : Req) : Parsed.ofLength c r = .ok q ↔ c = true ∧ r = q := by
  cases c <;> simp [Parsed.ofLength]

/-- The page of a STORE-WRITE has 32 bytes (formats section). -/
theorem storeWrite_length {kind : Byte} {p : List Byte} {o : BitVec 16} {data : List Byte}
    (h : parseRequest kind p = .ok (.storeWrite o data)) : data.length = 32 := by
  unfold parseRequest at h
  split at h <;> simp [Parsed.ofLength_eq_ok] at h
  obtain ⟨hl, -, hd⟩ := h
  rw [← hd, List.length_drop, hl]

theorem MemoriesSound.serveStoreWrite (h : MemoriesSound s) (k : Ticket) (offset : BitVec 16) (data : List Byte)
    (hd : data.length = 32) : MemoriesSound (s.serveStoreWrite k offset data) := by
  obtain ⟨r, e⟩ | ⟨ho, hw, e⟩ := s.serveStoreWrite_cases k offset data
  · rw [e]
    exact h
  · rw [e]
    refine h.of_store rfl rfl rfl ⟨h.store.1, fun w hw => ?_⟩
    rcases hw with hw | hw
    · cases hw
      have := offset.isLt
      simp only [PageWrite.Fits, hd, Config.storeBytes]
      omega
    · exact h.store.late ((List.mem_append.mp hw).resolve_right (by simp))

theorem MemoriesSound.serveStoreRead (h : MemoriesSound s) (k : Ticket) (offset : BitVec 16) :
    MemoriesSound (s.serveStoreRead k offset) := by
  obtain ⟨r, e⟩ | e := s.serveStoreRead_cases k offset
  · rw [e]
    exact h
  · rw [e]
    exact h.of_store rfl rfl rfl (h.store.within (Store.Within.push _ [.storeRead k offset.toNat] _ (by simp)))

/-- The page writes the memory has still to finish are those at its interface (R172). -/
theorem StoreSound.writes {x : Store} (h : StoreSound x) : ∀ w ∈ x.writes, w.Fits := by
  intro w hw
  obtain ⟨a, ha, hw⟩ := List.mem_flatMap.mp hw
  cases a with
  | pageWrite => exact h.2 w (Or.inl (Option.mem_toList.mp hw))
  | lateWrite v => exact h.2 w (Or.inr (by rwa [List.mem_singleton.mp hw]))
  | bootHeader => simp at hw
  | bootEntry => simp at hw
  | storeRead t o => simp at hw

/-- The page writes that a power-on may find begun are among those at the interface (R172). -/
theorem StoreSound.writesAhead {x : Store} (h : StoreSound x) : ∀ w ∈ writesAhead x.writing x.access, w.Fits := by
  have key : ∀ as, (∀ w, .lateWrite w ∈ as → w.Fits) → ∀ w ∈ Machine.writesAhead x.writing as, w.Fits := by
    intro as
    induction as with
    | nil => simp [Machine.writesAhead]
    | cons a as ih =>
      intro hl w hw
      have ih := ih fun v hv => hl v (List.mem_cons_of_mem _ hv)
      cases a with
      | pageWrite =>
        rcases List.mem_append.mp hw with hw | hw
        · exact h.2 w (Or.inl (Option.mem_toList.mp hw))
        · exact ih w hw
      | lateWrite v =>
        rcases List.mem_cons.mp hw with rfl | hw
        · exact hl w (List.mem_cons_self ..)
        · exact ih w hw
      | bootHeader => simp [Machine.writesAhead] at hw
      | bootEntry => simp [Machine.writesAhead] at hw
      | storeRead t o => simp [Machine.writesAhead] at hw
  exact key x.access fun w hw => h.late hw

theorem StoreSound.reset (h : StoreSound s.store) : StoreSound s.resetStore.store := by
  refine ⟨h.1, fun w hw => ?_⟩
  have hl := (List.mem_append.mp (hw.resolve_left (by simp [State.resetStore]))).resolve_right (by simp)
  obtain ⟨v, hv, e⟩ := List.mem_map.mp hl
  cases e
  exact h.writes w hv

/-- The compositor's band after a FULL reset has read nothing (R57). -/
theorem State.fullReset_band (s : State) (k : Ticket) : BandBytesSound (s.fullReset k).comp.work := by
  have hb : ∀ u : State, BandBytesSound u.resetCompositor.comp.work := fun u => by
    unfold State.resetCompositor
    exact BandBytesSound.tryStartBand bandBytesSound_none
  unfold State.fullReset State.fullResetBlocks State.rebuildHeader
  dsimp only
  have hu := hb { s.resetPorts with
    layouts := LayoutStore.powerOn, bal := BalanceUnit.powerOn, ovl := OverlayEngine.powerOn
    modes := ModeController.powerOn, mgmt := Management.powerOn }
  generalize State.resetCompositor _ = u at hu ⊢
  split <;> exact hu

theorem MemoriesSound.fullReset (h : MemoriesSound s) (k : Ticket) : MemoriesSound (s.fullReset k) := by
  have hb := s.fullReset_band k
  obtain ⟨layouts, g, lp, work, next, h0, h1, bal, ovl, modes, veh, tx, mgmt, e⟩ := s.fullReset_frame k
  rw [e] at hb ⊢
  refine memoriesSound_of h.dram (fun p => ?_) hb h.store.reset
  rw [State.port, Quad.get_build]
  exact (h.lines p).mono (keepGranted_subset _ _)

theorem MemoriesSound.viewReset (h : MemoriesSound s) (k : Ticket) : MemoriesSound (s.viewReset k) := by
  have hv : MemoriesSound (forCams State.viewResetPort s) :=
    forCams_induction State.viewResetPort (fun c u hu => hu.putPort (by
      rw [Port.viewReset_bufs]
      exact (hu.lines c).mono (keepGranted_subset _ _))) s h
  obtain ⟨bal, modes, mgmt, e⟩ := s.viewReset_frame k
  rw [e]
  generalize forCams State.viewResetPort s = u at hv ⊢
  exact memoriesSound_of h.dram hv.lines h.band h.store

theorem MemoriesSound.serve (h : MemoriesSound s) (r : Request) : MemoriesSound (s.serve r) := by
  unfold State.serve
  split
  · exact h
  · exact h
  · rename_i q hp
    by_cases hw : ∀ w, q ≠ .reset w
    · by_cases h1 : ∀ o data, q ≠ .storeWrite o data
      · by_cases h2 : ∀ o, q ≠ .storeRead o
        · obtain ⟨layouts, modes, ovl, chans, veh, mgmt, store, e, -, hx⟩ := s.serveReq_frame ⟨r.tag, r.kind⟩ q hw
          rw [e]
          exact h.of_same rfl rfl rfl (hx h1 h2)
        · obtain ⟨o, rfl⟩ := not_forall_not.mp h2
          exact h.serveStoreRead _ o
      · simp only [not_forall, not_not] at h1
        obtain ⟨o, data, rfl⟩ := h1
        exact h.serveStoreWrite _ o data (storeWrite_length hp)
    · obtain ⟨w, rfl⟩ := not_forall_not.mp hw
      change MemoriesSound (s.serveReset ⟨r.tag, r.kind⟩ w)
      unfold State.serveReset
      split
      · exact h.fullReset _
      · split
        · exact h.viewReset _
        · exact h

/-! ## Camera links and the turnover -/

/-- A valid frame leaves the lines that wait (R3, R17). -/
theorem MemoriesSound.validFrame (h : MemoriesSound s) (p : Cam) (f : Flight) (attention : Bool) :
    MemoriesSound (s.validFrame p f attention) := by
  unfold State.validFrame
  dsimp only
  have h1 : MemoriesSound (s.setPort p ((s.port p).storeValid f attention)) := h.setPort (h.lines p)
  have hq : LinesFit (((s.port p).storeValid f attention).onValid f.signature).bufs := by
    rw [Port.onValid_bufs]
    exact h.lines p
  generalize (s.port p).storeValid f attention = q at h1 hq ⊢
  have h2 : MemoriesSound (if (attention && (profileStatus q.profile).isSome) = true then
      (s.setPort p q).askAttention p else s.setPort p q) := by
    split
    · obtain ⟨c, st, res, fil, e⟩ := (s.setPort p q).askAttention_frame p
      rw [e]
      exact h1
    · exact h1
  generalize (if (attention && (profileStatus q.profile).isSome) = true then
      (s.setPort p q).askAttention p else s.setPort p q) = s2 at h2 ⊢
  have h3 : MemoriesSound (s2.putPort p (q.onValid f.signature)) := h2.putPort hq
  generalize s2.putPort p (q.onValid f.signature) = s3 at h3 ⊢
  split
  · unfold State.restoreExposure
    split
    · obtain ⟨c, st, res, fil, e⟩ := s3.handExposure_frame p _
      rw [e]
      exact h3
    · exact h3
  · exact h3

theorem MemoriesSound.frameEndMark (h : MemoriesSound s) (p : Cam) (n : Nat) (attention : Bool) :
    MemoriesSound (s.frameEndMark p n attention) := by
  unfold State.frameEndMark
  dsimp only
  split
  · split
    · exact h
    · split
      · exact h.validFrame p _ attention
      · exact h.setPort (by
          rw [Port.onDiscard_bufs]
          exact (h.lines p).mono (Port.dropFlight_bufs_subset _ _))
  · exact h

theorem MemoriesSound.frameStartMark (h : MemoriesSound s) (p : Cam) : MemoriesSound (s.frameStartMark p) := by
  unfold State.frameStartMark
  dsimp only
  split
  · split
    · exact h.setPort (by
        rw [Port.beginFrame_bufs]
        exact h.lines p)
    · exact h.setPort (by
        rw [Port.beginFrame_bufs, Port.onDiscard_bufs]
        exact (h.lines p).mono (Port.dropFlight_bufs_subset _ _))
  · exact h

/-! ## The turnover -/

theorem MemoriesSound.applyCamTable (h : MemoriesSound s) (d : TableLoad) : MemoriesSound (s.applyCamTable d) := by
  unfold State.applyCamTable
  split
  · obtain ⟨c, st, res, fil, e⟩ := s.applyProfile_frame d.cam d.content
    rw [e]
    exact h.setPort (p := d.cam) (q := (s.port d.cam).applyProfile (s.writingFor d.cam) d.content)
      ((h.lines d.cam).mono (Port.applyProfile_bufs_subset _ _ _))
  · exact h.setPort (h.lines d.cam)
  · exact h

theorem MemoriesSound.applyCamTables (h : MemoriesSound s) (ds : List TableLoad) :
    MemoriesSound (ds.foldl State.applyCamTable s) := by
  induction ds generalizing s with
  | nil => exact h
  | cons d ds ih => exact ih (h.applyCamTable d)

theorem MemoriesSound.turnRings (h : MemoriesSound s) : MemoriesSound s.turnRings :=
  h.build (f := fun p => { s.port p with ring := Ring.turnover (decide ((s.port p).st = .live)) (s.port p).ring })
    (fun _ => List.Subset.refl _) rfl rfl rfl h.store

theorem MemoriesSound.balanced (h : MemoriesSound s) : MemoriesSound s.balanced := by
  have hc := h.turnRings.applyCamTables s.dueTables
  unfold State.balanced
  generalize s.dueTables.foldl State.applyCamTable s.turnRings = u at hc ⊢
  obtain ⟨bal, chans, st, res, fil, e⟩ := u.turnBalance_frame (dueContent s.dueTables .balance)
  rw [e]
  exact hc

theorem MemoriesSound.turnoverWork (h : MemoriesSound s) : MemoriesSound s.turnoverWork := by
  have hb := h.balanced
  obtain ⟨modes, ovl, band, inUse, m, more, b, plan, tx, e, hm⟩ := s.turnoverWork_frame
  rw [e]
  generalize s.balanced = u at hb ⊢
  refine hb.of_store rfl rfl rfl (hb.store.within (Store.Within.push _ more b ?_))
  rcases hm with rfl | rfl <;> simp

/-- Every command keeps the memories sound. -/
theorem keptByCommands_memoriesSound : KeptByCommands MemoriesSound where
  pending _ _ h := h
  tick s h := h.build (t := s.tick) (f := fun p => { s.port p with staleness := (s.port p).staleness.tick })
    (fun _ => List.Subset.refl _) rfl rfl rfl h.store
  loseRequest _ h := h
  pushRequest _ _ h _ _ := h
  serve _ r _ h _ _ := MemoriesSound.serve (s := State.popRequest _ _) h r
  powerOn s h := by
    obtain ⟨mem, e, hm⟩ := s.powerOnAgain_frame
    rw [e]
    refine memoriesSound_of (memFits_nil _ _) (fun p => ?_) (bandBytesSound_fresh 0 [] true)
      ⟨MemFits.maySettle _ _ h.store.1 h.store.writesAhead hm, fun w hw => by simp [State.powerOn, Store.powerOn] at hw⟩
    simp [State.powerOn, State.port, Port.powerOn, LinesFit]
  lockGained s p h := h.putPort (by
    rw [Port.lockGained_bufs]
    exact h.lines p)
  lockLost s p h := by
    have hp := h.putPort (p := p) ((h.lines p).mono ((s.port p).lockLost_bufs_subset (s.writingFor p)))
    unfold State.lockLost
    generalize s.putPort p ((s.port p).lockLost (s.writingFor p)) = u at hp ⊢
    obtain ⟨c, m, e⟩ := u.channelLockLost_frame p
    rw [e]; exact hp
  frameStartMark _ p h := h.frameStartMark p
  lineReceived s p pixels h := by
    unfold State.lineReceived
    split
    · exact (h.setPort ((h.lines p).receiveLine pixels)).grant
    · exact h
  frameEndMark _ p n attention h := h.frameEndMark p n attention
  stalenessExpiry s p h := by
    unfold State.stalenessExpiry
    split
    · exact h.putPort (by
        rw [Port.staleExpiry_bufs]
        exact h.lines p)
    · exact h
  dramWriteComplete _ h := h.dramWriteComplete
  sourceReadComplete _ h := h.sourceReadComplete
  bandCompletion _ b h := h.bandCompletion b
  frameStart s h := MemoriesSound.startBand (MemoriesSound.dropWork (s := s.openFrame) h) 0
  bandStart _ b h := h.bandStart b
  bandEnd _ b h := h.bandEnd b
  turnoverWork _ h := h.turnoverWork
  vehicleRecord s bs h := by
    obtain ⟨m, v, e⟩ := s.vehicleRecord_frame bs
    rw [e]; exact h
  staleExpiry s h := by
    obtain ⟨m, v, e⟩ := s.staleExpiry_frame
    rw [e]; exact h
  lostExpiry s h := by
    obtain ⟨m, v, e⟩ := s.lostExpiry_frame
    rw [e]; exact h
  rawChange s l level h := by
    obtain ⟨m, v, e⟩ := s.rawChange_frame l level
    rw [e]; exact h
  debounceExpiry s l h := by
    obtain ⟨m, v, e⟩ := s.debounceExpiry_frame l
    rw [e]; exact h
  loadTimerExpiry s h := by
    obtain ⟨m, e⟩ := s.loadTimerExpiry_frame
    rw [e]; exact h
  cameraAnswer s p accept h := by
    obtain ⟨c, m, e⟩ := s.cameraAnswer_frame p accept
    rw [e]; exact h
  readByte s p b h := by
    obtain ⟨c, m, e⟩ := s.readByte_frame p b
    rw [e]; exact h
  stepTimerExpiry s p h := by
    obtain ⟨c, m, e⟩ := s.stepTimerExpiry_frame p
    rw [e]; exact h
  stopMarkSent s p h := by
    obtain ⟨c, m, e⟩ := s.stopMarkSent_frame p
    rw [e]; exact h
  pageWriteComplete _ h := h.pageWriteComplete
  writeTimerExpiry _ h := h.writeTimerExpiry
  storeReadComplete _ answered h := h.storeReadComplete answered
  bootWaitExpiry s h := by
    unfold State.bootWaitExpiry
    split <;> exact h
  bootHeaderRead _ answered h := h.bootHeaderRead answered
  bootEntryRead _ answered h := h.bootEntryRead answered

/-- Settles O10: every command keeps both memories and a band's bytes sound, so every step does. -/
theorem everyStepKeepsMemoriesSound : Obligations.EveryStepKeepsMemoriesSound := keptByCommands_memoriesSound.step

end Sys2Proof.Machine
end

section
/-! PROOF. The camera links (R9 to R17): the port's operations written out, and the four statements about lock and
staleness, frame marks and received lines. -/

namespace Sys2Proof.Machine

variable {s : State}

theorem Port.takes_iff (p : Port) : p.takes = true ↔ p.lock = true ∧ p.st ≠ .off := by
  simp [Port.takes]

/-! ## A port's operations, written out -/

theorem Port.onDiscard_eq (p : Port) :
    p.onDiscard = { p with acquire := if p.st = .acquiring then 0 else p.acquire } := by
  unfold Port.onDiscard
  split <;> rfl

theorem Port.dropFlight_of_none {p : Port} (h : p.flight = none) (granted : Bool) : p.dropFlight granted = p := by
  simp [Port.dropFlight, h]

theorem Port.dropFlight_of_some {p : Port} {f : Flight} (h : p.flight = some f) (granted : Bool) :
    p.dropFlight granted = { p with
      flight := none, ring := p.ring.set f.slot ⟨.free, none⟩, bufs := keptLines granted f.slot p.bufs } := by
  simp [Port.dropFlight, h, withdrawWrites_eq, Slot.empty]

/-- A frame that begins in slot `i` (R5, R16). -/
def Port.begunIn (p : Port) (i : Fin 3) : Port :=
  { p with
    flight := some ⟨i, 0, false, false, windowsOf p.windows, p.windowSet, (windowsOf p.windows).map fun _ => []⟩
    ring := p.ring.set i ⟨.filling, none⟩ }

theorem Port.beginFrame_of_lowest {p : Port} {i : Fin 3} (hi : (p.ring.get i).st = .free)
    (hlow : ∀ j < i, (p.ring.get j).st ≠ .free) : p.beginFrame = p.begunIn i := by
  simp [Port.beginFrame, (Ring.find_eq_some_iff p.ring .free i).mpr ⟨hi, hlow⟩, Port.begunIn]

/-- With a FREE slot a frame begins in a FREE slot. -/
theorem Port.beginFrame_of_free {p : Port} {i : Fin 3} (hi : (p.ring.get i).st = .free) :
    ∃ j, (p.ring.get j).st = .free ∧ p.beginFrame = p.begunIn j := by
  obtain ⟨j, hj⟩ := Option.isSome_iff_exists.mp ((Ring.find_isSome_iff p.ring .free).mpr ⟨i, hi⟩)
  obtain ⟨hfree, hlow⟩ := (Ring.find_eq_some_iff p.ring .free j).mp hj
  exact ⟨j, hfree, Port.beginFrame_of_lowest hfree hlow⟩

/-- The port once its frame in flight is discarded (R11, R17, R20). -/
def Port.discarded (p : Port) (granted : Bool) (f : Flight) : Port :=
  { p with
    ring := p.ring.set f.slot ⟨.free, none⟩, flight := none, acquire := if p.st = .acquiring then 0 else p.acquire
    bufs := keptLines granted f.slot p.bufs }

theorem Port.onDiscard_dropFlight {p : Port} {f : Flight} (h : p.flight = some f) (granted : Bool) :
    (p.dropFlight granted).onDiscard = p.discarded granted f := by
  rw [Port.dropFlight_of_some h, Port.onDiscard_eq, Port.discarded]

/-! ## Lock gained and the staleness timer (R9, R12, R14) -/

theorem State.putPort_of_same (p : Cam) {q : Port} (h : q.st = (s.port p).st) : s.putPort p q = s.setPort p q := by
  simp [State.putPort, State.raiseIf, h]

theorem State.putPort_of_change (p : Cam) {q : Port} (h : q.st ≠ (s.port p).st) : s.putPort p q =
    ({ s with mgmt.status := s.mgmt.status ||| BitVec.twoPow 24 p.val } : State).setPort p q := by
  simp [State.putPort, State.raiseIf, h, State.raise, State.setPort, evCamState, eventBit]

theorem Port.lockGained_of_absent {p : Port} (h : p.st = .absent) : p.lockGained =
    { p with lock := true, st := .acquiring, acquire := 0, repeats := 0, staleness := .running 100 } := by
  simp [Port.lockGained, h, Port.toAcquiring, Config.stalenessMs]

theorem Port.lockGained_of_not_absent {p : Port} (h : p.st ≠ .absent) : p.lockGained = { p with lock := true } := by
  simp [Port.lockGained, h]

theorem State.stalenessExpiry_of_running {p : Cam} {n : Nat} (h : (s.port p).staleness = .running n) :
    s.stalenessExpiry p = s.putPort p (s.port p).staleExpiry := by
  simp [State.stalenessExpiry, h, Timer.isRunning]

theorem Port.staleExpiry_of_picture {p : Port} (h : p.st = .live ∨ p.st = .frozen) :
    p.staleExpiry = { p with st := .stale, staleness := .stopped } := by
  rcases h with h | h <;> simp [Port.staleExpiry, h]

theorem Port.staleExpiry_of_acquiring {p : Port} (h : p.st = .acquiring) :
    p.staleExpiry = { p with acquire := 0, staleness := .expired } := by
  simp [Port.staleExpiry, h]

/-- Settles O42: each transition of R9, R12 and R14 is one port written back, with CAM-STATE where its state changes. -/
theorem lockGainedAndStalenessActByState : Obligations.LockGainedAndStalenessActByState := by
  refine ⟨fun p s => ⟨fun h => congrArg Host.Outcome.next ?_, fun h => congrArg Host.Outcome.next ?_⟩,
    fun p s n hn => ⟨fun h => congrArg Host.Outcome.next ?_,
      fun h => congrArg Host.Outcome.next (?_ : s.stalenessExpiry p = _)⟩⟩
  · rw [State.lockGained, Port.lockGained_of_absent h, State.putPort_of_change p (by simp [h])]
  · rw [State.lockGained, Port.lockGained_of_not_absent h]
    exact State.putPort_of_same p rfl
  · have hst : PortState.stale ≠ (s.port p).st := by rcases h with h | h <;> simp [h]
    rw [State.stalenessExpiry_of_running hn, Port.staleExpiry_of_picture h, State.putPort_of_change p hst]
  · rw [State.stalenessExpiry_of_running hn, Port.staleExpiry_of_acquiring h]
    exact State.putPort_of_same p rfl

/-! ## Frame marks (R3, R11, R16) -/

theorem State.frameStartMark_idle {p : Cam} (ht : (s.port p).takes = true) (hf : (s.port p).flight = none) :
    s.frameStartMark p = s.setPort p (s.port p).beginFrame := by
  simp [State.frameStartMark, ht, hf]

theorem State.frameStartMark_in_flight {p : Cam} {f : Flight} (ht : (s.port p).takes = true)
    (hf : (s.port p).flight = some f) :
    s.frameStartMark p = s.setPort p ((s.port p).discarded (s.writingFor p) f).beginFrame := by
  simp [State.frameStartMark, ht, hf, Port.onDiscard_dropFlight hf]

theorem State.frameEndMark_not_valid {p : Cam} {f : Flight} {n : Nat} (ht : (s.port p).takes = true)
    (hf : (s.port p).flight = some f) (hn : f.isValid n = false) (attention : Bool) :
    s.frameEndMark p n attention = s.setPort p ((s.port p).discarded (s.writingFor p) f) := by
  simp [State.frameEndMark, ht, hf, hn, Port.onDiscard_dropFlight hf]

/-- Settles O44: with the frame in flight discarded first, the new frame begins in the lowest FREE slot. -/
theorem frameStartMarkTakesTheLowestFreeSlot : Obligations.FrameStartMarkTakesTheLowestFreeSlot := by
  intro p s i hl ho ring hring hi hlow
  have ht := (s.port p).takes_iff.mpr ⟨hl, ho⟩
  refine ⟨_, rfl, ?_⟩
  obtain ⟨hf, rfl⟩ | ⟨f, hf, rfl⟩ := hring
  · rw [State.frameStartMark_idle ht hf, Port.beginFrame_of_lowest hi hlow]
    simp [Port.begunIn, hf]
  · rw [State.frameStartMark_in_flight ht hf, Port.beginFrame_of_lowest hi hlow]
    simp [Port.begunIn, Port.discarded, hf, State.writingFor]

theorem Flight.isValid_eq_true_iff (f : Flight) (n : Nat) :
    f.isValid n = true ↔ f.lines = 800 ∧ f.badLine = false ∧ n = 800 ∧ f.overrun = false := by
  simp only [Flight.isValid, Bool.and_eq_true, decide_eq_true_iff, Bool.not_eq_true', and_assoc]
  rfl

/-- Settles O47: at either mark the frame in flight is discarded, and the port is `Port.discarded` but for the frame that
begins in the slot which is FREE again. -/
theorem discardedFrameOnlyResetsAcquiring : Obligations.DiscardedFrameOnlyResetsAcquiring := by
  refine ⟨fun p s f hl ho hf => ⟨_, rfl, ?_⟩, fun p n attention s f hl ho hf hbad => ⟨_, rfl, ?_⟩⟩
  · have hfree : ((((s.port p).discarded (s.writingFor p) f).ring).get f.slot).st = .free := by simp [Port.discarded]
    obtain ⟨j, hj, e⟩ := Port.beginFrame_of_free hfree
    rw [State.frameStartMark_in_flight ((s.port p).takes_iff.mpr ⟨hl, ho⟩) hf, e]
    rw [State.port_setPort_self]
    exact ⟨rfl, rfl, rfl, rfl, rfl, rfl, j, _, hj, rfl, rfl, rfl, rfl⟩
  · have hn : f.isValid n = false := by
      rw [← Bool.not_eq_true, Flight.isValid_eq_true_iff]
      rcases hbad with h | h | h | h <;> simp [h]
    rw [State.frameEndMark_not_valid ((s.port p).takes_iff.mpr ⟨hl, ho⟩) hf hn, State.port_setPort_self]
    exact ⟨rfl, rfl, rfl, rfl, rfl, rfl, rfl, rfl, rfl⟩

end Sys2Proof.Machine
end

section
/-! PROOF. Received lines and the arbiter's choice of a writer (R2, R3, R5, R20). -/

namespace Sys2Proof.Machine

variable {s : State}

/-! ## The writer the arbiter grants (R20) -/

theorem mem_portsAfter : ∀ p q : Cam, q ∈ portsAfter p := by decide

theorem State.nextWriter_eq_none_iff : s.nextWriter = none ↔ ∀ p, (s.port p).bufs = [] := by
  simp [State.nextWriter, mem_portsAfter]

/-- The writer is the first port in the cyclic order that has a line waiting. -/
theorem State.nextWriter_of_first {before after : List Cam} {q : Cam}
    (ho : portsAfter s.dram.lastPort = before ++ q :: after) (hq : (s.port q).bufs ≠ [])
    (hb : ∀ r ∈ before, (s.port r).bufs = []) : s.nextWriter = some q := by
  rw [State.nextWriter, ho, List.find?_append, List.find?_eq_none.mpr (fun r hr => by simp [hb r hr])]
  simp [hq]

/-- A port that alone has lines waiting is the writer. -/
theorem State.nextWriter_of_alone {p : Cam} (hp : (s.port p).bufs ≠ []) (hq : ∀ q, q ≠ p → (s.port q).bufs = []) :
    s.nextWriter = some p := by
  cases h : s.nextWriter with
  | none => exact absurd (State.nextWriter_eq_none_iff.mp h p) hp
  | some q =>
    have hb := List.find?_some h
    by_cases hqp : q = p
    · rw [hqp]
    · simp [hq q hqp] at hb

theorem State.grant_of_granted {g : Grant} (h : s.dram.granted = some g) : s.grant = s := by
  simp [State.grant, h]

theorem State.grant_of_writer {p : Cam} (h : s.dram.granted = none) (hp : s.nextWriter = some p) :
    s.grant = { s with dram := { s.dram with granted := some (.write p), lastPort := p } } := by
  simp [State.grant, h, hp]

/-! ## A line at the port (R2, R3, R5) -/

theorem Port.receiveLine_counted {p : Port} {f : Flight} (hf : p.flight = some f)
    (hc : f.overrun = true ∨ 800 ≤ f.lines) (pixels : List (Byte × Byte)) :
    p.receiveLine pixels = { p with flight := some (f.countLine pixels) } := by
  rw [Port.receiveLine, hf]
  refine if_pos ?_
  rw [Bool.or_eq_true, decide_eq_true_iff]
  exact hc

theorem Flight.not_counted_only (f : Flight) (ho : f.overrun = false) (hl : f.lines < 800) :
    ¬(f.overrun || decide (Config.frameHeight ≤ f.lines)) = true := by
  rw [ho, Bool.false_or, decide_eq_true_iff]
  exact Nat.not_le_of_lt hl

theorem Port.receiveLine_overruns {p : Port} {f : Flight} (hf : p.flight = some f) (ho : f.overrun = false)
    (hl : f.lines < 800) (hb : 2 ≤ p.bufs.length) (pixels : List (Byte × Byte)) :
    p.receiveLine pixels = { p with flight := some { f.countLine pixels with overrun := true } } := by
  rw [Port.receiveLine, hf]
  exact (if_neg (f.not_counted_only ho hl)).trans (if_pos hb)

theorem Port.receiveLine_waits {p : Port} {f : Flight} (hf : p.flight = some f) (ho : f.overrun = false)
    (hl : f.lines < 800) (hb : p.bufs.length < 2) (pixels : List (Byte × Byte)) :
    p.receiveLine pixels = { p with
      flight := some ((f.gather pixels).countLine pixels)
      bufs := p.bufs ++ [⟨f.slot, f.lines, lineData pixels⟩] } := by
  rw [Port.receiveLine, hf]
  exact (if_neg (f.not_counted_only ho hl)).trans (if_neg (Nat.not_le_of_lt hb))

/-- The luma of a line inside a latched window joins what the window has gathered (R5). -/
theorem Flight.gather_luma (f : Flight) (pixels : List (Byte × Byte)) {i : Nat} {w : Window} {before : List Byte}
    (hw : f.windows[i]? = some w) (hb : f.luma[i]? = some before) :
    (f.gather pixels).luma[i]? = some (before ++ windowLuma pixels f.lines w) := by
  simp [Flight.gather, List.getElem?_zipWith, hw, hb]

/-! ## A line in the part -/

theorem State.lineReceived_eq {p : Cam} (hl : (s.port p).lock = true) (ho : (s.port p).st ≠ .off)
    (pixels : List (Byte × Byte)) :
    s.lineReceived p pixels = (s.setPort p ((s.port p).receiveLine pixels)).grant := by
  simp [State.lineReceived, (s.port p).takes_iff.mpr ⟨hl, ho⟩]

theorem State.port_grant (s : State) (p : Cam) : s.grant.port p = s.port p := by
  simp [State.port]

theorem State.port_lineReceived {p : Cam} (hl : (s.port p).lock = true) (ho : (s.port p).st ≠ .off)
    (pixels : List (Byte × Byte)) : (s.lineReceived p pixels).port p = (s.port p).receiveLine pixels := by
  rw [State.lineReceived_eq hl ho, State.port_grant, State.port_setPort_self]

/-- What a received line leaves (R20): every other port, and all but the arbiter's choice and the compositor's reads. -/
theorem State.lineReceived_keeps {p : Cam} (hl : (s.port p).lock = true) (ho : (s.port p).st ≠ .off)
    (pixels : List (Byte × Byte)) {t : State} (h : t = s.lineReceived p pixels) :
    (∀ q, q ≠ p → t.port q = s.port q) ∧ t.dram.mem = s.dram.mem ∧ t.layouts = s.layouts ∧ t.bal = s.bal ∧
      t.ovl = s.ovl ∧ t.modes = s.modes ∧ t.veh = s.veh ∧ t.chans = s.chans ∧ t.tx = s.tx ∧ t.mgmt = s.mgmt ∧
      t.store = s.store := by
  obtain ⟨g, lp, work, e, -⟩ := (s.setPort p ((s.port p).receiveLine pixels)).grant_frame
  rw [State.lineReceived_eq hl ho] at h
  refine ⟨fun q hq => by rw [h, State.port_grant, State.port_setPort_ne _ _ _ _ hq], ?_⟩
  rw [h, e]
  exact ⟨rfl, rfl, rfl, rfl, rfl, rfl, rfl, rfl, rfl, rfl⟩

/-- Settles O45: a received line is counted, waits, or overruns, as `Port.receiveLine` has it by the three lemmas above;
the write it leaves waiting is the arbiter's next where DRAM is idle and no other port waits. -/
theorem receivedLineWaitsForItsWrite : Obligations.ReceivedLineWaitsForItsWrite := by
  refine ⟨fun p pixels s f hl ho hf hc => ⟨_, rfl, ?_, State.lineReceived_keeps hl ho pixels rfl⟩,
    fun p pixels s f hl ho hf hov hlines =>
      ⟨s.lineReceived p pixels, rfl, fun hb => ?_, fun hb => ?_, fun hg hq hb => ?_, fun g hg => ?_, ?_,
        State.lineReceived_keeps hl ho pixels rfl⟩⟩
  · rw [State.port_lineReceived hl ho, Port.receiveLine_counted hf hc]
    rfl
  · rw [State.port_lineReceived hl ho, Port.receiveLine_waits hf hov hlines hb]
    refine ⟨rfl, _, rfl, rfl, rfl, hov, rfl, rfl, rfl, ?_, fun i w before hw hbefore => ?_⟩
    · simp [Flight.countLine, Flight.gather]
    · exact f.gather_luma pixels hw hbefore
  · rw [State.port_lineReceived hl ho, Port.receiveLine_overruns hf hov hlines hb]
    exact ⟨rfl, _, rfl, rfl, rfl, rfl⟩
  · rw [State.lineReceived_eq hl ho, Port.receiveLine_waits hf hov hlines hb,
      State.grant_of_writer (s := s.setPort p _) (p := p) hg]
    · exact ⟨rfl, rfl⟩
    · exact State.nextWriter_of_alone (by simp) fun q hqp => by rw [State.port_setPort_ne _ _ _ _ hqp, hq q hqp]
  · rw [State.lineReceived_eq hl ho, State.grant_of_granted (s := s.setPort p _) hg]
    rfl
  · obtain ⟨flight, bufs, e, -⟩ := (s.port p).receiveLine_frame pixels
    rw [State.port_lineReceived hl ho, e]

end Sys2Proof.Machine
end

section
/-! PROOF. A camera write's end (R2, R15, R20). -/

namespace Sys2Proof.Machine

variable {s : State}

/-- The compositor's next read is granted where no port has a line waiting (R20). -/
theorem State.grant_of_read {w : BandWork} {r : SourceRead} {reads : List SourceRead} (h : s.dram.granted = none)
    (hn : s.nextWriter = none) (hw : s.comp.work = some w) (hr : w.reads = r :: reads) :
    s.grant = { s with dram.granted := some (.read r true), comp.work := some { w with reads := reads } } := by
  simp [State.grant, h, hn, hw, hr]

theorem State.grant_of_nothing (h : s.dram.granted = none) (hn : s.nextWriter = none)
    (hw : s.comp.work = none ∨ ∃ w, s.comp.work = some w ∧ w.reads = []) : s.grant = s := by
  obtain hw | ⟨w, hw, hr⟩ := hw
  · simp [State.grant, h, hn, hw]
  · simp [State.grant, h, hn, hw, hr]

/-- The part with the oldest waiting line `b` of port `p` in its slot and DRAM free again (R2, R15, R20). -/
def State.lineStored (s : State) (p : Cam) (b : LineBuf) (rest : List LineBuf) : State :=
  { s.setPort p { s.port p with bufs := rest } with
    dram := { s.dram with
      mem := Memory.writeBytes dramDefault s.dram.mem ((3 * p.val + b.slot.val) * 2048000 + b.line * 2560) b.data
      granted := none } }

theorem State.dramWriteComplete_eq {p : Cam} {b : LineBuf} {rest : List LineBuf}
    (hg : s.dram.granted = some (.write p)) (hb : (s.port p).bufs = b :: rest) :
    s.dramWriteComplete = (s.lineStored p b rest).grant := by
  simp only [State.dramWriteComplete, State.finishWrite, hg, hb]
  rfl

theorem State.lineStored_port (p : Cam) (b : LineBuf) (rest : List LineBuf) :
    (s.lineStored p b rest).port p = { s.port p with bufs := rest } :=
  State.port_setPort_self s p _

theorem State.lineStored_port_ne {p q : Cam} (h : q ≠ p) (b : LineBuf) (rest : List LineBuf) :
    (s.lineStored p b rest).port q = s.port q :=
  State.port_setPort_ne s p q _ h

theorem State.grant_mem (s : State) : s.grant.dram.mem = s.dram.mem := by
  obtain ⟨g, lp, work, e, -⟩ := s.grant_frame
  rw [e]

/-- Bytes written at `a` are read back there. -/
theorem Memory.read_writeBytes_inside {d : Byte} {mem : List Host.Cell} (h : Memory.wf d mem) {vs : List Byte} {k : Nat}
    (hk : k < vs.length) (a : Nat) (e : Byte) : Memory.read d (Memory.writeBytes d mem a vs) (a + k) = vs.getD k e := by
  rw [Memory.read_writeBytes d vs mem a (a + k) h, if_pos ⟨by omega, by omega⟩, Nat.add_sub_cancel_left]
  simp [List.getD, hk]

theorem Memory.read_writeBytes_outside {d : Byte} {mem : List Host.Cell} (h : Memory.wf d mem) {vs : List Byte}
    {a x : Nat} (hx : x < a ∨ a + vs.length ≤ x) : Memory.read d (Memory.writeBytes d mem a vs) x = Memory.read d mem x := by
  rw [Memory.read_writeBytes d vs mem a x h, if_neg (by omega)]

/-- Settles O48: the write's end stores the line and frees DRAM (`State.lineStored`); what follows is the arbiter's
choice there. -/
theorem dramWriteStoresTheLine : Obligations.DramWriteStoresTheLine := by
  intro p s b rest hm hg hb
  have hwf : Memory.wf dramDefault s.dram.mem := hm.dram.1
  have hports : ∀ q, (s.lineStored p b rest).grant.port q = (s.lineStored p b rest).port q :=
    (s.lineStored p b rest).port_grant
  refine ⟨s.dramWriteComplete, rfl, ?_⟩
  rw [State.dramWriteComplete_eq hg hb]
  refine ⟨fun k hk => ?_, fun a ha => ?_, ?_, fun q hq => ?_, fun before q after ho hq hr => ?_, fun hnone => ?_, ?_⟩
  · rw [State.grant_mem]
    exact Memory.read_writeBytes_inside hwf hk _ 0
  · rw [State.grant_mem]
    exact Memory.read_writeBytes_outside hwf ha
  · rw [hports, State.lineStored_port]
  · rw [hports, State.lineStored_port_ne hq]
  · simp only [hports] at hq hr
    rw [State.grant_of_writer rfl (State.nextWriter_of_first (s := s.lineStored p b rest) ho hq hr)]
    exact ⟨rfl, rfl, rfl⟩
  · simp only [hports] at hnone
    have hn := State.nextWriter_eq_none_iff.mpr hnone
    refine ⟨?_, fun w r reads hw hr => ?_, fun hw => ?_⟩
    · obtain ⟨h, -⟩ | ⟨-, q, hq, -⟩ | ⟨-, -, w, r, reads, -, -, e⟩ | ⟨-, -, -, e⟩ := (s.lineStored p b rest).grant_cases
      · exact absurd rfl h
      · rw [hn] at hq
        cases hq
      · rw [e]
        rfl
      · rw [e]
        rfl
    · rw [State.grant_of_read rfl hn hw hr]
      exact ⟨rfl, rfl⟩
    · rw [State.grant_of_nothing rfl hn hw]
      exact ⟨rfl, rfl⟩
  · obtain ⟨g, lp, work, e, -⟩ := (s.lineStored p b rest).grant_frame
    rw [e]
    exact ⟨rfl, rfl, rfl, rfl, rfl, rfl, rfl, rfl, rfl⟩

end Sys2Proof.Machine
end

section
/-! PROOF. Lock lost (R9, R136): the channel's part said whole, and the status bits it raises. -/

namespace Sys2Proof.Machine

variable {s : State}

/-! ## The transaction in flight at a lock lost (R136, R144) -/

/-- The pass-through in flight, whose requester is answered. -/
def Channel.flown (c : Channel) : List Ticket :=
  match c.flight.map Transaction.who with
  | some (.pass k) => [k]
  | _ => []

/-- An exposure write or an attention read is in flight, whose NO-LINK sets CHANNEL-FAULT. -/
def Channel.faultFlown (c : Channel) : Bool :=
  match c.flight.map Transaction.who with
  | none => false
  | some (.pass _) => false
  | some _ => true

/-- The channel IDLE again, with no stop mark sent. -/
def Channel.idled (c : Channel) : Channel := { c with active := false, flight := none, timer := .stopped, out := [] }

theorem Channel.flown_of (c : Channel) (flown : List Ticket)
    (h : (flown = [] ∧ ∀ x k, c.flight = some x → x.who ≠ .pass k) ∨
      (∃ x k, c.flight = some x ∧ x.who = .pass k ∧ flown = [k])) : c.flown = flown := by
  obtain ⟨rfl, h⟩ | ⟨x, k, hx, hk, rfl⟩ := h
  · cases hf : c.flight with
    | none => simp [Channel.flown, hf]
    | some x =>
      cases hw : x.who with
      | pass k => exact absurd hw (h x k hf)
      | exposure v => simp [Channel.flown, hf, hw]
      | attention => simp [Channel.flown, hf, hw]
  · simp [Channel.flown, hx, hk]

theorem Channel.faultFlown_iff (c : Channel) :
    c.faultFlown = true ↔ ∃ x, c.flight = some x ∧ ∀ k, x.who ≠ .pass k := by
  cases hf : c.flight with
  | none => simp [Channel.faultFlown, hf]
  | some x => cases hw : x.who <;> simp [Channel.faultFlown, hf, hw]

theorem Channel.faultWaits_iff (c : Channel) :
    c.faultWaits = true ↔ c.exposure ≠ none ∨ c.attnWaiting = true := by
  simp [Channel.faultWaits, Option.isSome_iff_ne_none]

/-! ## The channel's part of a lock lost (R136, R137) -/

/-- The answer of a requester whose transaction ends NO-LINK. -/
def noLinkAnswer (k : Ticket) : Response := ⟨k.tag, k.kind, .noLink, []⟩

/-- All that was in flight or waited at channel `p` has ended NO-LINK. -/
def State.linkLost (s : State) (p : Cam) : State :=
  let c := s.chan p
  { s with
    chans := s.chans.set p c.idled.drained
    mgmt := { s.mgmt with
      reserved := s.mgmt.reserved - (c.flown.length + c.queue.length)
      filled := s.mgmt.filled ++ (c.flown ++ c.queue.map XferRequest.ticket).map noLinkAnswer
      status := if c.faultFlown || c.faultWaits then s.mgmt.status ||| eventBit (evChannelFault p) else s.mgmt.status } }

theorem State.drain_idled (p : Cam) (h : (s.chan p).flown = []) (hf : (s.chan p).faultFlown = false) :
    s.drain p (s.chan p).idled = s.linkLost p := by
  simp only [State.drain, State.linkLost, h, hf, Bool.false_or, List.length_nil, Nat.zero_add, List.nil_append,
    List.map_map]
  rfl

/-- A pass-through in flight is answered first, then those that wait. -/
theorem State.drain_answered {p : Cam} {k : Ticket} (h : (s.chan p).flown = [k]) (hf : (s.chan p).faultFlown = false) :
    (s.answer k .noLink).drain p (s.chan p).idled = s.linkLost p := by
  simp only [State.drain, State.linkLost, h, hf, Bool.false_or, List.length_singleton, List.cons_append,
    List.nil_append, List.map_cons, List.map_map, ← Nat.sub_sub, State.answer, State.answerWith, List.append_assoc]
  rfl

/-- CHANNEL-FAULT of what is in flight is that of what waits besides. -/
theorem State.drain_raised {p : Cam} (h : (s.chan p).flown = []) (hf : (s.chan p).faultFlown = true) :
    (s.raise (evChannelFault p)).drain p (s.chan p).idled = s.linkLost p := by
  have hs : (if (s.chan p).faultWaits then s.mgmt.status ||| eventBit (evChannelFault p) ||| eventBit (evChannelFault p)
      else s.mgmt.status ||| eventBit (evChannelFault p)) = s.mgmt.status ||| eventBit (evChannelFault p) := by
    split
    · rw [BitVec.or_assoc, BitVec.or_self]
    · rfl
  have hi : (s.chan p).idled.faultWaits = (s.chan p).faultWaits := rfl
  simp only [State.drain, State.linkLost, h, hf, hi, hs, State.raise, Bool.true_or, if_true, List.length_nil,
    Nat.zero_add, List.nil_append, List.map_map]
  rfl

/-- A drain does not read the channel it replaces. -/
theorem State.drain_setChan (p : Cam) (c d : Channel) : (s.setChan p c).drain p d = s.drain p d := by
  simp [State.drain, State.setChan]

theorem State.handResult_noLink_pass (p : Cam) {x : Transaction} {k : Ticket} (h : x.who = .pass k) :
    s.handResult p x .noLink [] = s.answer k .noLink := by
  simp [State.handResult, h, State.answer]

theorem State.handResult_noLink_fault (p : Cam) {x : Transaction} (h : ∀ k, x.who ≠ .pass k) :
    s.handResult p x .noLink [] = s.raise (evChannelFault p) := by
  cases hw : x.who with
  | pass k => exact absurd hw (h k)
  | exposure v => simp [State.handResult, hw]
  | attention => simp [State.handResult, hw]

/-- Once the channel is IDLE and its link unlocked, the arbiter ends all that waits. -/
theorem State.arbitrate_idled (p : Cam) (u : State) (hc : u.chan p = (s.chan p).idled) (hl : (u.port p).lock = false) :
    u.arbitrate p = u.drain p (s.chan p).idled := by
  rw [State.arbitrate_unlocked u p (by rw [hc]; rfl) hl, hc]

theorem State.channelLockLost_eq (p : Cam) (hl : (s.port p).lock = false) : s.channelLockLost p = s.linkLost p := by
  unfold State.channelLockLost
  split
  · rename_i x hx
    change ((s.setChan p (s.chan p).idled).handResult p x .noLink []).arbitrate p = _
    by_cases hw : ∃ k, x.who = .pass k
    · obtain ⟨k, hk⟩ := hw
      rw [State.handResult_noLink_pass p hk, State.arbitrate_idled (s := s) p _ (by simp [State.answer])
        (by simpa [State.answer] using hl), ← State.drain_answered (k := k) (by simp [Channel.flown, hx, hk])
        (by simp [Channel.faultFlown, hx, hk])]
      exact State.drain_setChan (s := s.answer k .noLink) p _ _
    · rw [not_exists] at hw
      rw [State.handResult_noLink_fault p hw, State.arbitrate_idled (s := s) p _ (by simp) (by exact hl), ← State.drain_raised
        ((s.chan p).flown_of [] (Or.inl ⟨rfl, fun y k hy => by rw [hx] at hy; cases hy; exact hw k⟩))
        ((s.chan p).faultFlown_iff.mpr ⟨x, hx, hw⟩)]
      exact State.drain_setChan (s := s.raise (evChannelFault p)) p _ _
  · rename_i hx
    rw [State.arbitrate_idled (s := s) p _ (by simp [Channel.idled, hx]) (by exact hl), State.drain_setChan,
      State.drain_idled p (by simp [Channel.flown, hx]) (by simp [Channel.faultFlown, hx])]

/-! ## The port's part, and the status (R9, R14, R166) -/

theorem getLsbD_eventBit (n e : Nat) (he : e < 24) : (eventBit n).getLsbD e = decide (e = n) := by
  rw [eventBit, BitVec.getLsbD_twoPow]
  by_cases h : e = n
  · subst h; simp [he]
  · simp [h, Ne.symm h]

/-- A bit of the status once an event is raised where a condition holds. -/
theorem getLsbD_raised (c : Prop) [Decidable c] (st : BitVec 24) (n e : Nat) (he : e < 24) :
    (if c then st ||| eventBit n else st).getLsbD e = true ↔ st.getLsbD e = true ∨ (e = n ∧ c) := by
  by_cases hc : c
  · simp [hc, getLsbD_eventBit n e he]
  · simp [hc]

theorem Port.lockLost_st_ne_iff (p : Port) (granted : Bool) :
    (p.lockLost granted).st ≠ p.st ↔ p.st ≠ .off ∧ p.st ≠ .absent := by
  obtain ⟨h, e⟩ | ⟨ho, ha, e⟩ := p.lockLost_cases granted
  · rw [e]
    rcases h with h | h <;> simp [h]
  · rw [e]
    simp [ho, ha, Ne.symm ha]

theorem Port.lockLost_of_off {p : Port} (h : p.st = .off) (granted : Bool) :
    p.lockLost granted = { p with lock := false } := by
  simp [Port.lockLost, h]

/-- A port that takes frames goes to ABSENT, its frame in flight dropped (R9, R17). -/
theorem Port.lockLost_of_taking {p : Port} (ho : p.st ≠ .off) (ha : p.st ≠ .absent) (granted : Bool) :
    p.lockLost granted = { p.dropFlight granted with
      lock := false, st := .absent, staleness := .stopped, acquire := 0, repeats := 0 } := by
  obtain ⟨h, -⟩ | ⟨-, -, e⟩ := p.lockLost_cases granted
  · exact absurd h (by simp [ho, ha])
  · exact e

/-- Dropping a frame touches the port's frame in flight, ring and line buffers alone. -/
theorem Port.dropFlight_frame (p : Port) (granted : Bool) : ∃ ring bufs,
    p.dropFlight granted = { p with flight := none, ring := ring, bufs := bufs } := by
  cases h : p.flight with
  | none => exact ⟨p.ring, p.bufs, by rw [Port.dropFlight_of_none h, ← h]⟩
  | some f => exact ⟨_, _, Port.dropFlight_of_some h granted⟩

/-- Settles O43: the port by R9, then the channel by `State.linkLost`. -/
theorem lockLostEndsFramesAndTransactions : Obligations.LockLostEndsFramesAndTransactions := by
  intro p s
  have ht : s.lockLost p = (s.putPort p ((s.port p).lockLost (s.writingFor p))).linkLost p := by
    rw [State.lockLost, State.channelLockLost_eq]
    simp [State.putPort_eq, State.port]
  rw [State.putPort_eq] at ht
  have hp : (s.lockLost p).port p = (s.port p).lockLost (s.writingFor p) := by
    rw [ht]
    simp [State.linkLost, State.port]
  refine ⟨s.lockLost p, rfl, by rw [hp]; simp, fun ho => ?_, fun ho ha => ?_, ?_, fun flown hflown => ?_,
    fun e he => ?_, fun q hq => ?_, ?_⟩
  · rw [hp, Port.lockLost_of_off ho]
  · rw [hp, Port.lockLost_of_taking ho ha]
    refine ⟨rfl, by simp, rfl, rfl, rfl, ?_, ?_, ?_, fun f hf => ?_, fun hf => ?_⟩
    · obtain ⟨ring, bufs, e⟩ := (s.port p).dropFlight_frame (s.writingFor p)
      rw [e]
    · obtain ⟨ring, bufs, e⟩ := (s.port p).dropFlight_frame (s.writingFor p)
      rw [e]
    · obtain ⟨ring, bufs, e⟩ := (s.port p).dropFlight_frame (s.writingFor p)
      rw [e]
    · rw [Port.dropFlight_of_some hf]
      exact ⟨rfl, rfl⟩
    · rw [Port.dropFlight_of_none hf]
      exact ⟨rfl, rfl⟩
  · rw [ht]
    exact Quad.get_set_self _ _ _
  · rw [ht, ← (s.chan p).flown_of flown hflown]
    rfl
  · rw [ht]
    change (if (s.chan p).faultFlown || (s.chan p).faultWaits then _ else _ : BitVec 24).getLsbD e = true ↔ _
    rw [getLsbD_raised _ _ _ _ he, getLsbD_raised _ _ _ _ he, Port.lockLost_st_ne_iff, Bool.or_eq_true,
      Channel.faultFlown_iff, Channel.faultWaits_iff, or_assoc]
    rfl
  · rw [ht]
    exact ⟨Quad.get_set_ne _ _ _ _ hq, Quad.get_set_ne _ _ _ _ hq⟩
  · rw [ht]
    exact ⟨rfl, rfl, rfl, rfl, rfl, rfl, rfl, rfl, rfl⟩

end Sys2Proof.Machine
end

section
/-! PROOF. A valid frame (R3 to R5, R10 to R14, R17): the attention read and the restore it hands its channel, and the
state machine by state. -/

namespace Sys2Proof.Machine

variable {s : State}

/-! ## What an IDLE channel with nothing waiting does when it is asked (R140, R141, R143) -/

/-- The arbiter starts the one requester put at an IDLE channel of a locked link. -/
theorem State.arbitrate_put {p : Cam} (c : Channel) {ch : Choice} (ha : c.active = false) (hc : c.choose = some ch)
    (hl : (s.port p).lock = true) :
    (s.setChan p c).arbitrate p = s.setChan p ((c.take ch).start (transactionFor (s.port p).profile ch)) := by
  rw [State.arbitrate_starts (s.setChan p c) p ch (by simpa using ha) (by simpa using hc) hl]
  simp [State.port]

/-- An ACTIVE channel's arbiter makes no choice. -/
theorem State.arbitrate_put_active {p : Cam} (c : Channel) (ha : c.active = true) :
    (s.setChan p c).arbitrate p = s.setChan p c :=
  State.arbitrate_active _ p (by simpa using ha)

theorem Channel.askedRead_active {c : Channel} (h : c.active = true) (profile : List Byte) (r : Nat) :
    c.askedRead profile r = { c with attnWaiting := true } := if_pos h

theorem Channel.askedRead_idle {c : Channel} (h : c.active = false) (profile : List Byte) (r : Nat) :
    c.askedRead profile r = c.started (attentionRead profile r) := if_neg (by simp [h])

theorem Channel.handed_active {c : Channel} (h : c.active = true) (profile : List Byte) (x : ExposureControl) (v : Nat) :
    c.handed profile x v = { c with exposure := some v } := if_pos h

theorem Channel.handed_idle {c : Channel} (h : c.active = false) (profile : List Byte) (x : ExposureControl) (v : Nat) :
    c.handed profile x v = { c.started (exposureWrite profile x v) with lastServed := .exposure } := if_neg (by simp [h])

theorem transactionFor_attention {profile : List Byte} {r : Nat} (h : profileStatus profile = some r) :
    transactionFor profile .attention = attentionRead profile r := by
  simp [transactionFor, attentionRead, h]

theorem transactionFor_exposure {profile : List Byte} {x : ExposureControl} (h : profileExposure profile = some x)
    (v : Nat) : transactionFor profile (.exposure v) = exposureWrite profile x v := by
  have hv : BitVec.ofNat 8 (v % 256) = BitVec.ofNat 8 v := BitVec.eq_of_toNat_eq (by simp)
  simp [transactionFor, exposureWrite, h, be16, hv]

/-- The attention read a port asks for (R141). -/
theorem State.askAttention_eq {p : Cam} {r : Nat} (hn : (s.chan p).active = false → (s.chan p).nothingWaits)
    (hl : (s.port p).lock = true) (hr : profileStatus (s.port p).profile = some r) :
    s.askAttention p = s.setChan p ((s.chan p).askedRead (s.port p).profile r) := by
  unfold State.askAttention
  cases ha : (s.chan p).active with
  | true =>
    rw [Channel.askedRead_active ha, State.arbitrate_put_active _ (by exact ha)]
  | false =>
    obtain ⟨-, -, hw⟩ := hn ha
    rw [Channel.askedRead_idle ha, State.arbitrate_put (ch := .attention) _ (by exact ha) (by simp [Channel.choose]) hl,
      transactionFor_attention hr, Channel.take, ← hw]
    rfl

/-- The exposure value a port hands over (R140). -/
theorem State.handExposure_eq {p : Cam} {x : ExposureControl} (v : Nat)
    (hn : (s.chan p).active = false → (s.chan p).nothingWaits)
    (hl : (s.port p).lock = true) (hx : profileExposure (s.port p).profile = some x) :
    s.handExposure p v = s.setChan p ((s.chan p).handed (s.port p).profile x v) := by
  unfold State.handExposure
  cases ha : (s.chan p).active with
  | true =>
    rw [Channel.handed_active ha, State.arbitrate_put_active _ (by exact ha)]
  | false =>
    obtain ⟨hq, he, hw⟩ := hn ha
    rw [Channel.handed_idle ha, State.arbitrate_put (ch := .exposure v) _ (by exact ha) (by simp [Channel.choose, hq, hw]) hl,
      transactionFor_exposure hx, Channel.take, ← he]
    rfl

/-! ## The channel of a port that takes a valid frame -/

/-- The channel once the attention flag has been seen (R141). -/
def Channel.attentionSeen (c : Channel) (profile : List Byte) (attention : Bool) : Channel :=
  match attention, profileStatus profile with
  | true, some r => c.askedRead profile r
  | _, _ => c

/-- The channel once its cached exposure has been handed back to it (R71). -/
def Channel.restored (c : Channel) (profile : List Byte) : Channel :=
  match profileExposure profile, c.cached with
  | some x, some v => c.handed profile x v
  | _, _ => c

theorem Channel.askedRead_asked (c : Channel) (profile : List Byte) (r : Nat) :
    (c.askedRead profile r).active = true ∧ (c.askedRead profile r).cached = c.cached := by
  unfold Channel.askedRead
  split
  · rename_i h
    exact ⟨h, rfl⟩
  · exact ⟨rfl, rfl⟩

/-- An attention read that is asked for leaves an ACTIVE channel: one that is IDLE has nothing waiting still. -/
theorem Channel.attentionSeen_nothingWaits {c : Channel} (hn : c.active = false → c.nothingWaits) (profile : List Byte)
    (attention : Bool) : (c.attentionSeen profile attention).active = false →
      (c.attentionSeen profile attention).nothingWaits := by
  unfold Channel.attentionSeen
  split
  · rename_i r _
    rw [(c.askedRead_asked profile r).1]
    exact fun h => absurd h (by simp)
  · exact hn

theorem Channel.attentionSeen_cached (c : Channel) (profile : List Byte) (attention : Bool) :
    (c.attentionSeen profile attention).cached = c.cached := by
  unfold Channel.attentionSeen
  split
  · exact (c.askedRead_asked profile _).2
  · rfl

/-- The `asked` of O46 is the channel once the attention flag has been seen. -/
theorem Channel.attentionSeen_of (c : Channel) (profile : List Byte) (attention : Bool) (asked : Channel)
    (h : ((attention = false ∨ profileStatus profile = none) ∧ asked = c) ∨
      (∃ r, attention = true ∧ profileStatus profile = some r ∧ asked = c.askedRead profile r)) :
    c.attentionSeen profile attention = asked := by
  obtain ⟨h | h, rfl⟩ | ⟨r, rfl, hr, rfl⟩ := h
  · simp [Channel.attentionSeen, h]
  · simp [Channel.attentionSeen, h]
  · simp [Channel.attentionSeen, hr]

theorem Channel.restored_of_absent {c : Channel} {profile : List Byte}
    (h : c.cached = none ∨ profileExposure profile = none) : c.restored profile = c := by
  unfold Channel.restored
  rcases h with h | h
  · rw [h]
    cases profileExposure profile <;> rfl
  · rw [h]

theorem Channel.restored_of_present {c : Channel} {profile : List Byte} {v : Nat} {x : ExposureControl}
    (hv : c.cached = some v) (hx : profileExposure profile = some x) : c.restored profile = c.handed profile x v := by
  simp [Channel.restored, hv, hx]

/-- The channel's part of the port's own askings. -/
theorem State.seeAttention_eq {p : Cam} (hn : (s.chan p).active = false → (s.chan p).nothingWaits)
    (hl : (s.port p).lock = true) (attention : Bool) :
    (if attention && (profileStatus (s.port p).profile).isSome then s.askAttention p else s) =
      s.setChan p ((s.chan p).attentionSeen (s.port p).profile attention) := by
  cases attention with
  | false => simp [Channel.attentionSeen]
  | true =>
    cases hr : profileStatus (s.port p).profile with
    | none => simp [Channel.attentionSeen, hr]
    | some r => simp [Channel.attentionSeen, hr, State.askAttention_eq hn hl hr]

theorem State.restoreExposure_eq {p : Cam} (hn : (s.chan p).active = false → (s.chan p).nothingWaits)
    (hl : (s.port p).lock = true) :
    s.restoreExposure p = s.setChan p ((s.chan p).restored (s.port p).profile) := by
  unfold State.restoreExposure
  cases hx : profileExposure (s.port p).profile with
  | none => rw [Channel.restored_of_absent (Or.inr hx)]; simp
  | some x =>
    cases hv : (s.chan p).cached with
    | none => rw [Channel.restored_of_absent (Or.inl hv)]; simp
    | some v => rw [Channel.restored_of_present hv hx]; exact s.handExposure_eq v hn hl hx

end Sys2Proof.Machine
end

section
/-! PROOF. A valid frame at its port, by state (R10 to R13), and taken by the part (O46). -/

namespace Sys2Proof.Machine

variable {s : State}

/-! ## The state machine at a valid frame, by state (R10, R13) -/

theorem Port.sameSignature_iff (p : Port) (sig : Option Signature) :
    p.sameSignature sig = true ↔ sig ≠ none ∧ sig = p.lastSig := by
  unfold Port.sameSignature
  cases sig <;> cases p.lastSig <;> simp

theorem Port.onValid_acquiring {p : Port} (h : p.st = .acquiring) (sig : Option Signature) : p.onValid sig = { p with
    acquire := p.acquire + 1, st := if 3 ≤ p.acquire + 1 then .live else .acquiring
    repeats := if 3 ≤ p.acquire + 1 then 0 else p.repeats, staleness := .running 100, lastSig := sig } := by
  simp only [Port.onValid, Port.stepValid, h, Config.acquireLimit, Config.stalenessMs]
  split <;> simp

/-- A repeated signature counts towards the freeze limit (R13). -/
theorem Port.onValid_repeated {p : Port} {sig : Option Signature} (h : p.st = .live)
    (hs : sig ≠ none ∧ sig = p.lastSig) : p.onValid sig = { p with
      repeats := min 255 (p.repeats + 1)
      st := if profileFreezeLimit p.profile ≤ min 255 (p.repeats + 1) then .frozen else .live
      staleness := .running 100, lastSig := sig } := by
  simp only [Port.onValid, Port.stepValid, h, Port.checkSignature, (p.sameSignature_iff sig).mpr hs, if_true,
    Config.stalenessMs]
  split <;> simp

theorem Port.onValid_new {p : Port} {sig : Option Signature} (h : p.st = .live)
    (hs : ¬(sig ≠ none ∧ sig = p.lastSig)) :
    p.onValid sig = { p with repeats := 0, staleness := .running 100, lastSig := sig } := by
  simp [Port.onValid, Port.stepValid, h, Port.checkSignature, mt (p.sameSignature_iff sig).mp hs, Config.stalenessMs]

/-- A STALE port, or a FROZEN one whose picture moves again, is acquired anew (R10). -/
theorem Port.onValid_anew {p : Port} {sig : Option Signature}
    (h : p.st = .stale ∨ (p.st = .frozen ∧ ¬(sig ≠ none ∧ sig = p.lastSig))) : p.onValid sig = { p with
      st := .acquiring, acquire := 1, repeats := 0, staleness := .running 100, lastSig := sig } := by
  obtain h | ⟨h, hs⟩ := h
  · simp [Port.onValid, Port.stepValid, h, Port.toAcquiring, Config.stalenessMs]
  · simp [Port.onValid, Port.stepValid, h, Port.toAcquiring, mt (p.sameSignature_iff sig).mp hs, Config.stalenessMs]

theorem Port.onValid_frozen {p : Port} {sig : Option Signature} (h : p.st = .frozen)
    (hs : sig ≠ none ∧ sig = p.lastSig) : p.onValid sig = { p with staleness := .running 100, lastSig := sig } := by
  simp [Port.onValid, Port.stepValid, h, (p.sameSignature_iff sig).mpr hs, Config.stalenessMs]

/-! ## The frame taken -/

/-- The port once a valid frame is taken. -/
def Port.taken (p : Port) (f : Flight) (attention : Bool) : Port := (p.storeValid f attention).onValid f.signature

/-- A frame taken touches the counts and records of R3 to R5 and R17 as `Port.storeValid` has them, and the state
machine's own fields. -/
theorem Port.taken_frame (p : Port) (f : Flight) (attention : Bool) : ∃ st acquire repeats,
    p.taken f attention = { p.storeValid f attention with
      st := st, acquire := acquire, repeats := repeats, staleness := .running 100, lastSig := f.signature } := by
  obtain ⟨st, acquire, repeats, e, -⟩ := (p.storeValid f attention).onValid_frame f.signature
  exact ⟨st, acquire, repeats, e⟩

theorem Port.storeValid_drops (p : Port) (f : Flight) (attention : Bool) : (p.storeValid f attention).drops =
    if ∃ i, (p.ring.get i).st = .ready then min 65535 (p.drops + 1) else p.drops := by
  simp only [Port.storeValid, Ring.find_isSome_iff]

/-- The channel of a port that takes a valid frame: its attention seen, and its exposure restored where the port goes
LIVE (R71, R141). -/
def Channel.afterValid (c : Channel) (p : Port) (f : Flight) (attention : Bool) : Channel :=
  if p.st = .acquiring ∧ (p.taken f attention).st = .live then (c.attentionSeen p.profile attention).restored p.profile
  else c.attentionSeen p.profile attention

theorem Port.taken_lock (p : Port) (f : Flight) (attention : Bool) : (p.taken f attention).lock = p.lock := by
  obtain ⟨st, acquire, repeats, e⟩ := p.taken_frame f attention
  rw [e]
  rfl

theorem Port.taken_profile (p : Port) (f : Flight) (attention : Bool) : (p.taken f attention).profile = p.profile := by
  obtain ⟨st, acquire, repeats, e⟩ := p.taken_frame f attention
  rw [e]
  rfl

/-- The frame stored and the attention flag seen, before any restore. -/
def State.frameTaken (s : State) (p : Cam) (f : Flight) (attention : Bool) : State :=
  { s with
    ports := s.ports.set p ((s.port p).taken f attention)
    chans := s.chans.set p ((s.chan p).attentionSeen (s.port p).profile attention)
    mgmt := { s.mgmt with status :=
      if ((s.port p).taken f attention).st ≠ (s.port p).st then s.mgmt.status ||| eventBit (evCamState p)
      else s.mgmt.status } }

theorem State.frameTaken_port (p : Cam) (f : Flight) (attention : Bool) :
    (s.frameTaken p f attention).port p = (s.port p).taken f attention := Quad.get_set_self _ _ _

theorem State.frameTaken_chan (p : Cam) (f : Flight) (attention : Bool) :
    (s.frameTaken p f attention).chan p = (s.chan p).attentionSeen (s.port p).profile attention := Quad.get_set_self _ _ _

theorem State.validFrame_eq_restore {p : Cam} (hn : (s.chan p).active = false → (s.chan p).nothingWaits)
    (hl : (s.port p).lock = true) (f : Flight) (attention : Bool) : s.validFrame p f attention =
      if (s.port p).st = .acquiring ∧ ((s.port p).taken f attention).st = .live then
        (s.frameTaken p f attention).restoreExposure p
      else s.frameTaken p f attention := by
  have hsee := State.seeAttention_eq (s := s.setPort p ((s.port p).storeValid f attention)) (p := p)
    hn (by rw [State.port_setPort_self]; exact hl) attention
  rw [State.port_setPort_self] at hsee
  unfold State.validFrame
  dsimp only
  rw [hsee, State.putPort_eq]
  simp only [State.frameTaken, State.setChan, State.setPort, Quad.set_set, State.port, Quad.get_set_self]
  rfl

/-- A valid frame in the part. -/
theorem State.validFrame_eq {p : Cam} (hn : (s.chan p).active = false → (s.chan p).nothingWaits)
    (hl : (s.port p).lock = true) (f : Flight) (attention : Bool) : s.validFrame p f attention =
      (s.frameTaken p f attention).setChan p ((s.chan p).afterValid (s.port p) f attention) := by
  rw [State.validFrame_eq_restore hn hl, Channel.afterValid]
  split
  · rw [State.restoreExposure_eq, State.frameTaken_port, State.frameTaken_chan, Port.taken_profile]
    · rw [State.frameTaken_chan]
      exact Channel.attentionSeen_nothingWaits hn _ _
    · rw [State.frameTaken_port, Port.taken_lock]
      exact hl
  · rw [← State.frameTaken_chan, State.setChan_chan_self]

/-- A channel to which nothing is restored has the attention flag seen, and no more. -/
theorem Channel.afterValid_of_no_restore {c : Channel} {p : Port} {f : Flight} {attention : Bool}
    (h : p.st ≠ .acquiring ∨ (p.taken f attention).st ≠ .live ∨ c.cached = none ∨ profileExposure p.profile = none) :
    c.afterValid p f attention = c.attentionSeen p.profile attention := by
  unfold Channel.afterValid
  split
  · rename_i hlive
    obtain h | h | h := h
    · exact absurd hlive.1 h
    · exact absurd hlive.2 h
    · exact Channel.restored_of_absent (by rwa [Channel.attentionSeen_cached])
  · rfl

theorem Channel.afterValid_of_restore {c : Channel} {p : Port} {f : Flight} {attention : Bool} {v : Nat}
    {x : ExposureControl} (hst : p.st = .acquiring) (hlive : (p.taken f attention).st = .live) (hv : c.cached = some v)
    (hx : profileExposure p.profile = some x) :
    c.afterValid p f attention = (c.attentionSeen p.profile attention).handed p.profile x v := by
  rw [Channel.afterValid, if_pos ⟨hst, hlive⟩, Channel.restored_of_present ((c.attentionSeen_cached _ _).trans hv) hx]

theorem State.frameEndMark_valid {p : Cam} {f : Flight} (ht : (s.port p).takes = true)
    (hf : (s.port p).flight = some f) (hv : f.isValid 800 = true) (attention : Bool) :
    s.frameEndMark p 800 attention = s.validFrame p f attention := by
  simp [State.frameEndMark, ht, hf, hv]

/-- Settles O46: the part after a valid frame is `State.frameTaken` with the channel of `Channel.afterValid`. -/
theorem validFrameIsTaken : Obligations.ValidFrameIsTaken := by
  intro p s f attention hc hl ho ha hf hlines hbad hov sig hsig
  have hn := (channelsConsistent_iff s).mp hc p |>.nothingWaits
  have ht : s.frameEndMark p 800 attention =
      (s.frameTaken p f attention).setChan p ((s.chan p).afterValid (s.port p) f attention) := by
    rw [State.frameEndMark_valid ((s.port p).takes_iff.mpr ⟨hl, ho⟩) hf
      ((f.isValid_eq_true_iff 800).mpr ⟨hlines, hbad, rfl, hov⟩), State.validFrame_eq hn hl]
  have hp : (s.frameEndMark p 800 attention).port p = (s.port p).taken f attention := by
    rw [ht]
    exact State.frameTaken_port p f attention
  have hch : (s.frameEndMark p 800 attention).chan p = (s.chan p).afterValid (s.port p) f attention := by
    rw [ht, State.chan_setChan_self]
  have hsig : f.signature = sig := hsig.symm
  obtain ⟨st, acquire, repeats, e⟩ := (s.port p).taken_frame f attention
  refine ⟨s.frameEndMark p 800 attention, rfl, ?_⟩
  rw [hp]
  refine ⟨by rw [e]; rfl, by rw [e]; rfl, by rw [e]; rfl, ?_, fun i hi => ?_, ?_, by rw [e], by rw [e]; exact hsig,
    fun hst => ?_, fun hst => ⟨fun hs => ?_, fun hs => ?_⟩, fun hst => ?_, fun ⟨hst, hs⟩ => ?_, ?_,
    fun asked hasked => ⟨fun hno => ?_, fun v x hst hlive hv hx => ?_⟩, fun q hq => ?_, by rw [e]; rfl, by rw [e]; rfl,
    by rw [e]; rfl, by rw [e]; exact hl, ?_⟩
  · rw [e]
    exact Ring.get_complete_self _ _ _
  · rw [e]
    exact Ring.get_complete_ne _ _ _ _ hi
  · rw [e]
    exact (s.port p).storeValid_drops f attention
  · rw [Port.taken, Port.onValid_acquiring (p := (s.port p).storeValid f attention) hst]
    exact ⟨rfl, rfl, rfl⟩
  · rw [Port.taken, hsig, Port.onValid_repeated (p := (s.port p).storeValid f attention) hst hs]
    exact ⟨rfl, rfl⟩
  · rw [Port.taken, hsig, Port.onValid_new (p := (s.port p).storeValid f attention) hst hs]
    exact ⟨rfl, hst⟩
  · rw [Port.taken, hsig, Port.onValid_anew (p := (s.port p).storeValid f attention) hst]
    exact ⟨rfl, rfl, rfl⟩
  · rw [Port.taken, hsig, Port.onValid_frozen (p := (s.port p).storeValid f attention) hst hs]
    exact hst
  · rw [ht]
    rfl
  · have hasked := (s.chan p).attentionSeen_of (s.port p).profile attention asked hasked
    rw [hch, Channel.afterValid_of_no_restore hno, hasked]
  · rw [hch, Channel.afterValid_of_restore hst hlive hv hx, (s.chan p).attentionSeen_of _ _ asked hasked]
  · rw [ht]
    exact ⟨Quad.get_set_ne _ _ _ _ hq, (State.chan_setChan_ne _ p q _ hq).trans (Quad.get_set_ne _ _ _ _ hq)⟩
  · rw [ht]
    exact ⟨rfl, rfl, rfl, rfl, rfl, rfl, rfl, rfl, rfl⟩

end Sys2Proof.Machine
end

section
/-! PROOF. The power-on values meet every invariant (R21, O7). -/

namespace Sys2Proof.Machine

theorem elementOk_none : elementOk elementNone = true := by decide

theorem portsConsistent_reset : PortsConsistent State.reset := fun p => by
  rw [State.port, State.reset, State.powerOn, Quad.get_build]
  exact portConsistent_powerOn _

theorem channelsConsistent_reset : ChannelsConsistent State.reset := by
  rw [channelsConsistent_iff]
  intro p
  simp only [State.reset, State.powerOn, State.chan, State.port, Quad.get_build]
  exact channelConsistent_powerOn _

theorem memoriesSound_reset : MemoriesSound State.reset := by
  refine memoriesSound_of (memFits_nil _ _) (fun p => ?_) (bandBytesSound_fresh 0 [] true) ⟨memFits_nil _ _, fun w hw => ?_⟩
  · simp [State.reset, State.powerOn, State.port, Port.powerOn, LinesFit]
  · simp [State.reset, State.powerOn, Store.powerOn] at hw

theorem tablesChecked_reset : TablesChecked State.reset := by
  have hp : ∀ p, State.reset.port p = Port.powerOn false := by decide
  have hslot : ∀ i, State.reset.layouts.slots.get i = ⟨none, Quad.fill none⟩ := fun i => Quad.get_fill _ i
  refine ⟨fun p => ?_, fun p => ?_, by decide, by decide, by decide, by decide, by decide, by decide, fun r hr => ?_,
    fun e he => ?_, fun i m h => ?_, fun i c g h => ?_, fun h => ?_, fun d hd => ?_⟩
  · rw [hp]
    decide
  · rw [hp]
    decide
  · rw [List.eq_of_mem_replicate hr]
    exact elementOk_none
  · cases he
  · rw [hslot] at h
    cases h
  · rw [hslot, Quad.get_fill] at h
    cases h
  · cases h
  · cases hd

theorem gainsInRange_reset : GainsInRange State.reset := by
  unfold GainsInRange
  decide

theorem modesConsistent_reset : ModesConsistent State.reset := by
  refine ⟨fun m i h => ?_, fun i h => ?_, rfl, by decide⟩
  · cases m <;> cases h
  · cases h

theorem halvesInRange_reset : HalvesInRange State.reset :=
  ⟨fun _ hl => absurd hl List.not_mem_nil, fun _ hl => absurd hl List.not_mem_nil⟩

/-- Settles O7, unit by unit. -/
theorem resetMeetsEveryInvariant : Obligations.ResetMeetsEveryInvariant :=
  ⟨portsConsistent_reset, channelsConsistent_reset, by unfold ResponsesAccounted; decide, memoriesSound_reset,
    tablesChecked_reset, gainsInRange_reset, modesConsistent_reset, halvesInRange_reset⟩

end Sys2Proof.Machine
end

section
/-! PROOF. What a turnover latches (R18, R38, R52, R78): the reader's slots stand through the tables of cameras. -/

namespace Sys2Proof.Machine

variable {s : State}

/-! ## The reader's slots stand (R8, R18) -/

/-- A ring in which some slots that are not being read have become FREE, and all else is as it was. -/
def Ring.FreedFrom (r r' : Tri Slot) : Prop :=
  ∀ i, r'.get i = r.get i ∨ ((r.get i).st ≠ .reading ∧ r'.get i = ⟨.free, none⟩)

theorem Ring.FreedFrom.refl (r : Tri Slot) : Ring.FreedFrom r r := fun _ => Or.inl rfl

theorem Ring.FreedFrom.of_eq {r r' : Tri Slot} (h : r' = r) : Ring.FreedFrom r r' := h ▸ Ring.FreedFrom.refl r

theorem Ring.FreedFrom.trans {r r' r'' : Tri Slot} (h : Ring.FreedFrom r r') (h' : Ring.FreedFrom r' r'') :
    Ring.FreedFrom r r'' := fun i => by
  obtain e' | ⟨hn, e'⟩ := h' i
  · rw [e']
    exact h i
  · obtain e | ⟨hn', -⟩ := h i
    · exact Or.inr ⟨e ▸ hn, e'⟩
    · exact Or.inr ⟨hn', e'⟩

/-- A slot being read stands. -/
theorem Ring.FreedFrom.reading {r r' : Tri Slot} (h : Ring.FreedFrom r r') {i : Fin 3} (hi : (r.get i).st = .reading) :
    r'.get i = r.get i := by
  obtain e | ⟨hn, -⟩ := h i
  · exact e
  · exact absurd hi hn

theorem Ring.FreedFrom.free {r r' : Tri Slot} (h : Ring.FreedFrom r r') {i : Fin 3} (hi : r.get i = ⟨.free, none⟩) :
    r'.get i = ⟨.free, none⟩ := by
  obtain e | ⟨-, e⟩ := h i
  · rw [e, hi]
  · exact e

theorem Ring.FreedFrom.release (r : Tri Slot) : Ring.FreedFrom r (Ring.release r .ready) := fun i => by
  rw [Ring.get_release]
  split
  · rename_i h
    exact Or.inr ⟨by simp [h], rfl⟩
  · exact Or.inl rfl

/-- The slot of a frame that is dropped is FILLING, so the reader has no part in it (R17). -/
theorem PortConsistent.dropFlight_freed {p : Port} (h : PortConsistent p) (granted : Bool) :
    Ring.FreedFrom p.ring (p.dropFlight granted).ring := by
  cases hf : p.flight with
  | none => exact Ring.FreedFrom.of_eq (by rw [Port.dropFlight_of_none hf])
  | some f =>
    rw [Port.dropFlight_of_some hf]
    intro i
    rw [Tri.get_set]
    split
    · rename_i hi
      exact Or.inr ⟨by rw [hi, h.filling hf]; simp, rfl⟩
    · exact Or.inl rfl

theorem PortConsistent.applyProfile_freed {p : Port} (h : PortConsistent p) (granted : Bool) (profile : List Byte) :
    Ring.FreedFrom p.ring (p.applyProfile granted profile).ring := by
  obtain ⟨-, e⟩ | ⟨-, -, -, e⟩ | ⟨-, -, -, e⟩ | ⟨-, -, e⟩ := p.applyProfile_cases granted profile <;> rw [e]
  · exact Ring.FreedFrom.refl _
  · exact Ring.FreedFrom.refl _
  · exact Ring.FreedFrom.refl _
  · exact (h.dropFlight_freed granted).trans (Ring.FreedFrom.release _)

theorem State.applyProfile_port (p : Cam) (profile : List Byte) :
    (s.applyProfile p profile).port p = (s.port p).applyProfile (s.writingFor p) profile := by
  obtain ⟨c, st, res, fil, e⟩ := s.applyProfile_frame p profile
  rw [e]
  exact Quad.get_set_self _ _ _

theorem State.applyProfile_port_ne {p q : Cam} (h : q ≠ p) (profile : List Byte) :
    (s.applyProfile p profile).port q = s.port q := by
  obtain ⟨c, st, res, fil, e⟩ := s.applyProfile_frame p profile
  rw [e]
  exact Quad.get_set_ne _ _ _ _ h

theorem PortsConsistent.applyCamTable_freed (h : PortsConsistent s) (d : TableLoad) (p : Cam) :
    Ring.FreedFrom (s.port p).ring ((s.applyCamTable d).port p).ring := by
  unfold State.applyCamTable
  by_cases hp : p = d.cam
  · subst hp
    split
    · rw [State.applyProfile_port]
      exact (h _).applyProfile_freed _ _
    · exact Ring.FreedFrom.of_eq (by rw [State.applyWindows, State.port_setPort_self]; rfl)
    · exact Ring.FreedFrom.refl _
  · split
    · exact Ring.FreedFrom.of_eq (by rw [State.applyProfile_port_ne hp])
    · exact Ring.FreedFrom.of_eq (by rw [State.applyWindows, State.port_setPort_ne _ _ _ _ hp])
    · exact Ring.FreedFrom.refl _

theorem PortsConsistent.applyCamTables_freed (h : PortsConsistent s) (ds : List TableLoad) (p : Cam) :
    Ring.FreedFrom (s.port p).ring ((ds.foldl State.applyCamTable s).port p).ring := by
  induction ds generalizing s with
  | nil => exact Ring.FreedFrom.refl _
  | cons d ds ih => exact (h.applyCamTable_freed d p).trans (ih (h.applyCamTable d))

/-! ## The reader's step (R18) -/

theorem State.turnRings_port (s : State) (p : Cam) : s.turnRings.port p =
    { s.port p with ring := Ring.turnover (decide ((s.port p).st = .live)) (s.port p).ring } :=
  Quad.get_build _ p

/-- A live camera whose ring has a picture is read. -/
theorem Ring.turnover_reads {r : Tri Slot} (h : HasPicture r) : ∃ i, ((Ring.turnover true r).get i).st = .reading := by
  by_cases hn : ∀ i, (r.get i).st ≠ .ready
  · obtain ⟨i, hi | hi⟩ := h
    · exact absurd hi (hn i)
    · exact ⟨i, by rwa [Ring.turnover_live_of_none r hn]⟩
  · obtain ⟨k, hk⟩ := not_forall_not.mp hn
    exact ⟨k, by rw [Ring.get_turnover_live r k hk, hk]⟩

theorem Ring.turnover_ready {r : Tri Slot} {i : Fin 3} (h : (r.get i).st = .ready) :
    (Ring.turnover true r).get i = ⟨.reading, (r.get i).frameNo⟩ := by
  rw [Ring.get_turnover_live r i h, h]

theorem Ring.turnover_replaced {r : Tri Slot} {i j : Fin 3} (h : (r.get i).st = .ready) (hj : (r.get j).st = .reading) :
    (Ring.turnover true r).get j = ⟨.free, none⟩ := by
  rw [Ring.get_turnover_live r i h, hj]
  rfl

theorem Ring.turnover_unread {r : Tri Slot} {i : Fin 3} (h : (r.get i).st = .reading) :
    (Ring.turnover false r).get i = ⟨.free, none⟩ := by
  rw [Ring.get_turnover_not_live, if_pos h]
  rfl

/-- A consistent ring's READING slot is the one found. -/
theorem PortConsistent.find_reading_iff {p : Port} (h : PortConsistent p) (i : Fin 3) :
    Ring.find p.ring .reading = some i ↔ (p.ring.get i).st = .reading := by
  rw [Ring.find_eq_some_iff]
  refine ⟨And.left, fun hi => ⟨hi, fun j hji hj => ?_⟩⟩
  exact absurd (h.2.2.1 j i hj hi) (ne_of_lt hji)

/-! ## The turnover's last steps -/

/-- A turnover with no request waiting, with the state before its last steps in hand. -/
theorem State.turnover_of_queue (h : s.mgmt.queue = []) : ∃ u, u = s.settled ∧ s.turnover =
    ({ (u.latchPlan s.liveNow).latchView s.liveNow with tx.phase := .blanking } : State).buildHeader :=
  ⟨_, rfl, by rw [State.turnover_eq_work _ h, State.turnoverWork_eq]⟩

theorem State.liveNow_get (s : State) (c : Cam) : s.liveNow.get c = decide ((s.port c).st = .live) := Quad.get_build _ c

theorem State.settled_ports (s : State) : s.settled.ports = (s.dueTables.foldl State.applyCamTable s.turnRings).ports := by
  obtain ⟨modes, ovl, band, inUse, m, more, b, e, -⟩ := s.settled_frame
  rw [e, ← State.balanced_ports]

theorem State.settled_comp (s : State) : s.settled.comp = s.comp := by
  obtain ⟨modes, ovl, band, inUse, m, more, b, e, -⟩ := s.settled_frame
  obtain ⟨ports, chans, bal, st, res, fil, e'⟩ := s.balanced_frame
  rw [e, e']

/-- Settles O54: the plan and the view are latched from the settled state, in which the reader's slots are those its step
left (`PortsConsistent.applyCamTables_freed`). -/
theorem turnoverLatchesThePlan : Obligations.TurnoverLatchesThePlan := by
  intro s hq hs
  obtain ⟨u, hu, ht⟩ := State.turnover_of_queue hq
  have hports : u.ports = (s.dueTables.foldl State.applyCamTable s.turnRings).ports := by rw [hu, s.settled_ports]
  have hcomp : u.comp = s.comp := by rw [hu, s.settled_comp]
  have hcons : PortsConsistent u := (hs.turnRings.applyCamTables s.dueTables).of_ports hports
  have hfreed : ∀ c, Ring.FreedFrom (Ring.turnover (decide ((s.port c).st = .live)) (s.port c).ring) (u.port c).ring :=
    fun c => by
    have hport : u.port c = (s.dueTables.foldl State.applyCamTable s.turnRings).port c := congrArg (Quad.get · c) hports
    have h := hs.turnRings.applyCamTables_freed s.dueTables c
    rw [State.turnRings_port] at h
    rw [hport]
    exact h
  have hsource : ∀ c i, (if s.liveNow.get c then Ring.find (u.port c).ring .reading else none) = some i ↔
      (s.port c).st = .live ∧ ((u.port c).ring.get i).st = .reading := fun c i => by
    rw [s.liveNow_get, ← (hcons c).find_reading_iff i]
    by_cases hl : (s.port c).st = .live <;> simp [hl]
  clear hu
  refine ⟨s.turnover, rfl, ?_⟩
  rw [ht]
  refine ⟨rfl, s.liveNow_get, fun c => Quad.get_build _ c, fun c i => ?_, fun c hl => ?_, fun c i hl hi => ?_,
    fun c i hl hn hi => ?_, fun c i hl hi => ?_, rfl, rfl, rfl, rfl, by rw [← hcomp]; rfl, by rw [← hcomp]; rfl⟩
  · exact (iff_of_eq (congrArg (· = some i) (Quad.get_build _ c))).trans (hsource c i)
  · obtain ⟨i, hi⟩ := Ring.turnover_reads (((portConsistent_iff _).mp (hs c)).2.1 hl)
    refine ⟨i, (Quad.get_build _ c).trans ((hsource c i).mpr ⟨hl, ?_⟩)⟩
    have h := hfreed c
    rw [decide_eq_true hl] at h
    rw [h.reading hi, hi]
  · have h := hfreed c
    rw [decide_eq_true hl] at h
    have hr := Ring.turnover_ready hi
    exact ⟨(h.reading (by rw [hr])).trans hr, fun j hj => h.free (Ring.turnover_replaced hi hj)⟩
  · have h := hfreed c
    rw [decide_eq_true hl, Ring.turnover_live_of_none _ hn] at h
    exact h.reading hi
  · have h := hfreed c
    rw [decide_eq_false hl] at h
    exact h.free (Ring.turnover_unread hi)

end Sys2Proof.Machine
end

section
/-! SUPPORT. The status word through a turnover (R166): events are added, none of them CAM-STATE but a port's own. -/

namespace Sys2Proof.Machine

variable {s : State}

/-! ## A status word that grows -/

/-- No status is taken back, and no CAM-STATE is added. -/
structure StatusGrows (a b : BitVec 24) : Prop where
  kept : ∀ e, a.getLsbD e = true → b.getLsbD e = true
  low : ∀ e < 4, b.getLsbD e = a.getLsbD e

theorem StatusGrows.refl (a : BitVec 24) : StatusGrows a a := ⟨fun _ h => h, fun _ _ => rfl⟩

theorem StatusGrows.of_eq {a b : BitVec 24} (h : b = a) : StatusGrows a b := h ▸ StatusGrows.refl a

theorem StatusGrows.trans {a b c : BitVec 24} (h : StatusGrows a b) (h' : StatusGrows b c) : StatusGrows a c :=
  ⟨fun e he => h'.kept e (h.kept e he), fun e he => (h'.low e he).trans (h.low e he)⟩

theorem StatusGrows.raised (a : BitVec 24) {n : Nat} (hn : 4 ≤ n) : StatusGrows a (a ||| eventBit n) :=
  ⟨fun e he => by rw [BitVec.getLsbD_or, he, Bool.true_or],
    fun e he => by rw [BitVec.getLsbD_or, getLsbD_eventBit n e (by omega), decide_eq_false (by omega), Bool.or_false]⟩

/-! ## The channels (R143, R144) -/

theorem State.arbitrate_status (s : State) (p : Cam) : StatusGrows s.mgmt.status (s.arbitrate p).mgmt.status := by
  cases ha : (s.chan p).active with
  | true => exact StatusGrows.of_eq (by rw [s.arbitrate_active p ha])
  | false =>
    cases hl : (s.port p).lock with
    | false =>
      rw [s.arbitrate_unlocked p ha hl]
      unfold State.drain
      dsimp only
      split
      · exact StatusGrows.raised _ (by simp only [evChannelFault]; omega)
      · exact StatusGrows.refl _
    | true =>
      cases hc : (s.chan p).choose with
      | none => exact StatusGrows.of_eq (by rw [s.arbitrate_nothing p ((Channel.choose_eq_none _).mp hc)])
      | some ch => exact StatusGrows.of_eq (by rw [s.arbitrate_starts p ch ha hc hl]; rfl)

theorem State.askAttention_status (s : State) (p : Cam) : StatusGrows s.mgmt.status (s.askAttention p).mgmt.status :=
  State.arbitrate_status (s.setChan p { s.chan p with attnWaiting := true }) p

theorem State.handExposure_status (s : State) (p : Cam) (v : Nat) :
    StatusGrows s.mgmt.status (s.handExposure p v).mgmt.status :=
  State.arbitrate_status (s.setChan p { s.chan p with exposure := some v }) p

/-! ## The balance unit -/

theorem State.nudgeTest_status (s : State) (c : Cam) : StatusGrows s.mgmt.status (s.nudgeTest c).mgmt.status := by
  unfold State.nudgeTest
  split
  · split
    · exact StatusGrows.refl _
    · split
      · exact StatusGrows.refl _
      · exact State.handExposure_status (s.setBal c (s.camBal c).nudged) c _
  · exact StatusGrows.refl _

theorem State.settleAndNudge_status (s : State) (c : Cam) :
    StatusGrows s.mgmt.status (s.settleAndNudge c).mgmt.status := by
  unfold State.settleAndNudge
  dsimp only
  split
  · exact State.nudgeTest_status (s.setBal c (s.camBal c).settleStep) c
  · exact StatusGrows.refl _

theorem forCams_statusGrows (s : State) : StatusGrows s.mgmt.status (forCams State.settleAndNudge s).mgmt.status :=
  forCams_induction (P := fun u => StatusGrows s.mgmt.status u.mgmt.status) State.settleAndNudge
    (fun c u h => h.trans (u.settleAndNudge_status c)) s (StatusGrows.refl _)

theorem State.balanceTurnover_status (s : State) : StatusGrows s.mgmt.status s.balanceTurnover.mgmt.status := by
  have e : s.gainTurnover.mgmt = s.mgmt := rfl
  have h := forCams_statusGrows s.gainTurnover
  rwa [e] at h

theorem State.turnBalance_status (s : State) (table : Option (List Byte)) :
    StatusGrows s.mgmt.status (s.turnBalance table).mgmt.status := by
  have h := s.balanceTurnover_status
  unfold State.turnBalance
  generalize s.balanceTurnover = u at h ⊢
  cases table with
  | none => exact h
  | some bs => exact h

/-! ## The mode -/

theorem State.setMode_status (s : State) (m : Mode) : StatusGrows s.mgmt.status (s.setMode m).mgmt.status := by
  unfold State.setMode
  split
  · exact StatusGrows.refl _
  · exact StatusGrows.raised _ (by decide)

/-- A mode chosen in a state whose management unit is `s`'s. -/
theorem State.setMode_status_of {s u : State} (h : u.mgmt = s.mgmt) (m : Mode) :
    StatusGrows s.mgmt.status (u.setMode m).mgmt.status := h ▸ u.setMode_status m

theorem State.keepHeld_status {s u : State} (h : u.mgmt = s.mgmt) :
    StatusGrows s.mgmt.status u.keepHeld.mgmt.status := by
  unfold State.keepHeld
  exact State.setMode_status_of (by exact h) _

theorem State.choose_status {s u : State} (h : u.mgmt = s.mgmt) : StatusGrows s.mgmt.status u.choose.mgmt.status := by
  unfold State.choose
  exact State.setMode_status_of (by exact h) _

theorem State.modeTurnover_status (s : State) : StatusGrows s.mgmt.status s.modeTurnover.mgmt.status := by
  unfold State.modeTurnover
  dsimp only
  split
  · exact State.keepHeld_status (by rfl)
  · split
    · exact StatusGrows.refl _
    · exact State.choose_status (by rfl)

/-! ## The turnover -/

theorem State.settled_status (s : State) :
    StatusGrows (s.dueTables.foldl State.applyCamTable s.turnRings).mgmt.status s.settled.mgmt.status := by
  unfold State.settled State.applyTables
  generalize s.dueTables.foldl State.applyCamTable s.turnRings = u
  refine (u.turnBalance_status (dueContent s.dueTables .balance)).trans ?_
  generalize u.turnBalance (dueContent s.dueTables .balance) = v
  refine StatusGrows.trans ?_ (State.modeTurnover_status _)
  obtain ⟨r, ovl, band, res, fil, e⟩ := v.otherTables_frame (dueContent s.dueTables .modeRules)
    (dueContent s.dueTables .bands) (dueContent s.dueTables .palette) (dueContent s.dueTables .glyphs)
    (dueContent s.dueTables .overlay)
  rw [e]
  generalize hw : ({ v with
    modes.rules := r, ovl := ovl, veh.band := band, mgmt := { v.mgmt with reserved := res, filled := fil } } : State) = w
  obtain ⟨l, res', fil', e2⟩ := w.finishLoad_frame
  obtain ⟨more, b, e3, -⟩ := w.finishLoad.finishBootTable_frame
  exact StatusGrows.of_eq (by rw [e3, e2, ← hw])

theorem State.turnover_status (h : s.mgmt.queue = []) :
    StatusGrows (s.dueTables.foldl State.applyCamTable s.turnRings).mgmt.status s.turnover.mgmt.status := by
  have hs := s.settled_status
  obtain ⟨u, hu, ht⟩ := State.turnover_of_queue h
  rw [← hu] at hs
  rw [ht]
  exact hs

end Sys2Proof.Machine
end

section
/-! PROOF. A Camera Profile at a turnover (R4, R8, R67, R72): its own camera's port, channel and balance records. -/

namespace Sys2Proof.Machine

variable {s : State}

/-! ## The turnover with one profile due -/

theorem State.applyCamTables_profile {d : TableLoad} (hd : s.dueTables = [d]) (ht : d.table = .cameraProfile) :
    s.dueTables.foldl State.applyCamTable s.turnRings = s.turnRings.applyProfile d.cam d.content := by
  simp [hd, State.applyCamTable, ht]

theorem State.dueContent_balance_of_profile {d : TableLoad} (ht : d.table = .cameraProfile) :
    dueContent [d] .balance = none := by
  simp [dueContent, ht]

theorem State.balanced_profile {d : TableLoad} (hd : s.dueTables = [d]) (ht : d.table = .cameraProfile) :
    s.balanced = (s.turnRings.applyProfile d.cam d.content).balanceTurnover := by
  unfold State.balanced
  rw [State.applyCamTables_profile hd ht, hd, State.dueContent_balance_of_profile ht]
  rfl

theorem State.turnover_ports (hq : s.mgmt.queue = []) :
    s.turnover.ports = (s.dueTables.foldl State.applyCamTable s.turnRings).ports := by
  rw [State.turnover_eq_work _ hq, State.turnoverWork_ports]

theorem State.turnover_chans (hq : s.mgmt.queue = []) : s.turnover.chans = s.balanced.chans := by
  rw [State.turnover_eq_work _ hq, State.turnoverWork_chans]

theorem State.turnover_bal (hq : s.mgmt.queue = []) : s.turnover.bal = s.balanced.bal := by
  rw [State.turnover_eq_work _ hq, State.turnoverWork_bal]

/-! ## The nudges of a turnover, seen from one camera (R68 to R70) -/

/-- Another camera's settle count and nudge touch neither the channel nor the records of this one. -/
theorem State.nudgeTest_other {c q : Cam} (h : q ≠ c) (s : State) :
    (s.nudgeTest c).chan q = s.chan q ∧ (s.nudgeTest c).camBal q = s.camBal q := by
  unfold State.nudgeTest
  split
  · split
    · exact ⟨rfl, rfl⟩
    · split
      · exact ⟨rfl, rfl⟩
      · rename_i v _ _
        obtain ⟨ch, st, res, fil, e⟩ := (s.setBal c (s.camBal c).nudged).handExposure_frame c v
        rw [e]
        exact ⟨Quad.get_set_ne _ _ _ _ h, State.camBal_setBal_ne s c q _ h⟩
  · exact ⟨rfl, rfl⟩

theorem State.settleAndNudge_other {c q : Cam} (h : q ≠ c) (s : State) :
    (s.settleAndNudge c).chan q = s.chan q ∧ (s.settleAndNudge c).camBal q = s.camBal q := by
  have hs : (s.setBal c (s.camBal c).settleStep).camBal q = s.camBal q := State.camBal_setBal_ne s c q _ h
  unfold State.settleAndNudge
  dsimp only
  split
  · obtain ⟨hc, hb⟩ := State.nudgeTest_other h (s.setBal c (s.camBal c).settleStep)
    exact ⟨hc, hb.trans hs⟩
  · exact ⟨rfl, hs⟩

/-- Records with no settle count and runs too short for a nudge (R68, R69). -/
def Balance.AtRest (b : Balance) : Prop := b.settle = 0 ∧ b.high < 30 ∧ b.low < 30

theorem nudgeValue_of_atRest {b : Balance} (h : b.AtRest) (x : ExposureControl) (cached : Nat) :
    nudgeValue x cached b = none := by
  obtain ⟨-, hh, hl⟩ := h
  have hh' : ¬Config.nudgeRun ≤ b.high := Nat.not_le_of_lt hh
  have hl' : ¬Config.nudgeRun ≤ b.low := Nat.not_le_of_lt hl
  rw [nudgeValue, if_neg hh', if_neg hl']

theorem Balance.settleStep_of_atRest {b : Balance} (h : b.AtRest) : b.settleStep = b := by
  simp [Balance.settleStep, h.1]
  cases b
  simp_all [Balance.AtRest]

/-- A camera whose records are at rest is not nudged. -/
theorem State.settleAndNudge_atRest {c : Cam} (s : State) (h : (s.camBal c).AtRest) : s.settleAndNudge c = s := by
  have hs : s.setBal c (s.camBal c).settleStep = s := by
    rw [Balance.settleStep_of_atRest h]
    simp [State.setBal, State.camBal]
  unfold State.settleAndNudge
  dsimp only
  rw [hs]
  split
  · unfold State.nudgeTest
    split
    · rw [nudgeValue_of_atRest h]
    · rfl
  · rfl

/-- The records of a camera at rest after the gain work stand, and so does its channel, through all four cameras' work. -/
theorem State.balanceTurnover_atRest {c : Cam} (s : State) (h : (s.gainTurnover.camBal c).AtRest) :
    s.balanceTurnover.chan c = s.chan c ∧ s.balanceTurnover.camBal c = s.gainTurnover.camBal c := by
  unfold State.balanceTurnover
  refine forCams_induction (P := fun u => u.chan c = s.chan c ∧ u.camBal c = s.gainTurnover.camBal c)
    State.settleAndNudge (fun e u hu => ?_) s.gainTurnover ⟨rfl, rfl⟩
  by_cases hce : c = e
  · subst hce
    rwa [State.settleAndNudge_atRest u (by rw [hu.2]; exact h)]
  · obtain ⟨hc, hb⟩ := State.settleAndNudge_other hce u
    exact ⟨hc.trans hu.1, hb.trans hu.2⟩

/-! ## The runs of a camera whose profile is applied (R68, R72) -/

theorem State.gainTurnover_camBal (s : State) (c : Cam) : s.gainTurnover.camBal c =
    (s.camBal c).turnover (balancePartner s.bal.table c) s.comp.plan s.comp.seam s.comp.incomplete c :=
  Quad.get_build _ c

theorem computedNow_iff (s : State) (c p : Cam) :
    computedNow s.comp.plan s.comp.seam s.comp.incomplete c p = true ↔ s.targetComputed c p := by
  simp only [computedNow, State.targetComputed, Bool.and_eq_true, Bool.not_eq_true', decide_eq_true_iff, and_assoc]
  rfl

/-- The runs that one computed target makes from 0 (R68). -/
theorem Balance.run_of_zero {b : Balance} (hh : b.high = 0) (hl : b.low = 0) (t : Nat) :
    b.run t = { b with high := if 448 ≤ t then 1 else 0, low := if t ≤ 160 then 1 else 0 } := by
  unfold Balance.run
  split
  · rename_i h
    have h' : 448 ≤ t := h
    simp [h', hh, show ¬t ≤ 160 by omega]
  · rename_i h
    have h' : ¬448 ≤ t := h
    split
    · rename_i hlow
      have hlow' : t ≤ 160 := hlow
      simp [hlow', hl]
    · rename_i hlow
      have hlow' : ¬t ≤ 160 := hlow
      simp [hlow']

/-- The gain work from runs at 0: of a reference they stay 0, of a follower they count this turnover's computed target. -/
theorem Balance.turnover_quiet (s : State) (b : Balance) (c : Cam) (u : Balance)
    (hu : u = b.quiet.turnover (balancePartner s.bal.table c) s.comp.plan s.comp.seam s.comp.incomplete c) :
    u.AtRest ∧ (balancePartner s.bal.table c = none → u.high = 0 ∧ u.low = 0) ∧
      ∀ p, balancePartner s.bal.table c = some p →
        u.high = (if s.targetComputed c p ∧ 448 ≤ u.target then 1 else 0) ∧
        u.low = (if s.targetComputed c p ∧ u.target ≤ 160 then 1 else 0) := by
  cases hp : balancePartner s.bal.table c with
  | none =>
    subst hu
    simp [hp, Balance.turnover, Balance.quiet, Balance.AtRest]
  | some p =>
    by_cases hc : s.targetComputed c p
    · simp only [hp, Balance.turnover, (computedNow_iff s c p).mpr hc, if_true] at hu
      generalize targetFigure _ _ _ = t at hu
      rw [Balance.run_of_zero rfl rfl] at hu
      subst hu
      refine ⟨⟨rfl, ?_, ?_⟩, by simp, fun p' hp' => ?_⟩
      · dsimp only
        split <;> decide
      · dsimp only
        split <;> decide
      · cases hp'
        simp only [(fun q => and_iff_right hc : ∀ q, (s.targetComputed c p ∧ q) ↔ q), and_self]
    · have hf := Bool.eq_false_iff.mpr (mt (computedNow_iff s c p).mp hc)
      simp only [hp, Balance.turnover, hf, Bool.false_eq_true, if_false] at hu
      subst hu
      refine ⟨⟨rfl, Nat.zero_lt_succ _, Nat.zero_lt_succ _⟩, by simp, fun p' hp' => ?_⟩
      cases hp'
      simp only [(fun q => iff_of_false (fun h => hc h.1) not_false : ∀ q, (s.targetComputed c p ∧ q) ↔ False), if_false]
      exact ⟨rfl, rfl⟩

end Sys2Proof.Machine
end

section
/-! PROOF. A Camera Profile at a turnover (O58, first part): the port, the channel with its attention read, the status. -/

namespace Sys2Proof.Machine

variable {s : State}

/-! ## The port, by its Enabled field (R8) -/

theorem Port.applyProfile_same {p : Port} {profile : List Byte} (h : profileEnabled profile = profileEnabled p.profile)
    (granted : Bool) : p.applyProfile granted profile = { p with profile := profile } := by
  unfold Port.applyProfile
  rw [h]
  cases profileEnabled p.profile <;> rfl

theorem Port.applyProfile_enabled {p : Port} {profile : List Byte} (ho : profileEnabled p.profile = false)
    (hn : profileEnabled profile = true) (granted : Bool) : p.applyProfile granted profile =
      if p.lock then ({ p with profile := profile } : Port).toAcquiring 0
      else { p with profile := profile, st := .absent, staleness := .stopped } := by
  unfold Port.applyProfile
  rw [ho, hn]

theorem Port.applyProfile_disabled {p : Port} {profile : List Byte} (ho : profileEnabled p.profile = true)
    (hn : profileEnabled profile = false) (granted : Bool) : p.applyProfile granted profile = { p.dropFlight granted with
      profile := profile, st := .off, staleness := .stopped, ring := Ring.release (p.dropFlight granted).ring .ready } := by
  obtain ⟨h, -⟩ | ⟨h, -⟩ | ⟨h, -⟩ | ⟨-, -, e⟩ := p.applyProfile_cases granted profile
  · simp [ho, hn] at h
  · simp [ho] at h
  · simp [ho] at h
  · exact e

/-- A consistent port's ring once its frame is dropped and its READY slot released holds nothing but what is read. -/
theorem PortConsistent.released_ring {p : Port} (h : PortConsistent p) (granted : Bool) (i : Fin 3) :
    ((Ring.release (p.dropFlight granted).ring .ready).get i).st = .free ∨
      ((Ring.release (p.dropFlight granted).ring .ready).get i).st = .reading := by
  have hd := ((portConsistent_iff _).mp (h.dropFlight granted)).1.1 i
  rw [Port.dropFlight_flight] at hd
  rw [Ring.get_release]
  cases hst : ((p.dropFlight granted).ring.get i).st with
  | free => simp [hst]
  | filling => exact absurd (hd.mp hst) (by simp)
  | ready => simp [Slot.empty]
  | reading => simp [hst]

/-! ## The attention read of a status register newly named (R4, R141) -/

theorem State.unreadAttention_iff (s : State) (p : Cam) (profile : List Byte) :
    s.unreadAttention p profile = true ↔ (s.port p).attention = true ∧ profileStatus (s.port p).profile = none ∧
      ∃ r, profileStatus profile = some r := by
  simp [State.unreadAttention, Option.isSome_iff_exists, and_assoc]

theorem State.profiled_port (s : State) (p : Cam) (profile : List Byte) :
    (s.profiled p profile).port p = (s.port p).applyProfile (s.writingFor p) profile := Quad.get_set_self _ _ _

theorem State.profiled_chan (s : State) (p : Cam) (profile : List Byte) :
    (s.profiled p profile).chan p = (s.chan p).applyProfile profile := Quad.get_set_self _ _ _

@[simp] theorem Port.applyProfile_profile (p : Port) (granted : Bool) (profile : List Byte) :
    (p.applyProfile granted profile).profile = profile := by
  obtain ⟨-, e⟩ | ⟨-, -, -, e⟩ | ⟨-, -, -, e⟩ | ⟨-, -, e⟩ := p.applyProfile_cases granted profile <;> rw [e]
  rfl

theorem Channel.applyProfile_nothingWaits {c : Channel} (h : c.nothingWaits) (profile : List Byte) :
    (c.applyProfile profile).nothingWaits := by
  obtain ⟨hq, he, hw⟩ := h
  exact ⟨hq, rfl, by simp [Channel.applyProfile, hw]⟩

/-- An ACTIVE channel takes the asking whatever its link. -/
theorem State.askAttention_active {p : Cam} (h : (s.chan p).active = true) (profile : List Byte) (r : Nat) :
    s.askAttention p = s.setChan p ((s.chan p).askedRead profile r) := by
  unfold State.askAttention
  rw [Channel.askedRead_active h, State.arbitrate_put_active _ (by exact h)]

/-- On an unlocked link the attention read ends NO-LINK at selection: the channel stands and CHANNEL-FAULT is set (R136,
R144). -/
theorem State.askAttention_unlocked {p : Cam} (ha : (s.chan p).active = false) (hn : (s.chan p).nothingWaits)
    (hl : (s.port p).lock = false) : (s.askAttention p).chan p = s.chan p ∧
      (s.askAttention p).mgmt.status = s.mgmt.status ||| eventBit (evChannelFault p) := by
  obtain ⟨hq, he, hw⟩ := hn
  unfold State.askAttention
  rw [State.arbitrate_unlocked _ p (by simpa using ha) (by exact hl), State.chan_setChan_self]
  refine ⟨?_, ?_⟩
  · rw [State.chan_drain]
    generalize s.chan p = c at *
    cases c
    simp_all [Channel.drained]
  · simp [State.drain, Channel.faultWaits]

/-! ## What the turnover makes of it -/

/-- The runs and the settle count of a camera whose profile is applied, after the turnover's gain work and nudge tests, and
its channel, which no nudge reaches. -/
theorem State.turnover_profile_balance {d : TableLoad} (hq : s.mgmt.queue = []) (hd : s.dueTables = [d])
    (ht : d.table = .cameraProfile) :
    s.turnover.camBal d.cam = (s.camBal d.cam).quiet.turnover (balancePartner s.bal.table d.cam) s.comp.plan s.comp.seam
      s.comp.incomplete d.cam ∧
    s.turnover.chan d.cam = (s.turnRings.applyProfile d.cam d.content).chan d.cam := by
  obtain ⟨c, st, res, fil, e⟩ := s.turnRings.applyProfile_frame d.cam d.content
  have hb : (s.turnRings.applyProfile d.cam d.content).gainTurnover.camBal d.cam =
      (s.camBal d.cam).quiet.turnover (balancePartner s.bal.table d.cam) s.comp.plan s.comp.seam s.comp.incomplete
        d.cam := by
    rw [State.gainTurnover_camBal, e]
    simp only [State.camBal, Quad.get_set_self]
    rfl
  have hrest := (Balance.turnover_quiet s (s.camBal d.cam) d.cam _ hb).1
  obtain ⟨hc, hbal⟩ := State.balanceTurnover_atRest (s.turnRings.applyProfile d.cam d.content) hrest
  rw [State.camBal, State.turnover_bal hq, State.chan, State.turnover_chans hq, State.balanced_profile hd ht]
  exact ⟨hbal.trans hb, hc⟩

theorem State.turnover_profile_port {d : TableLoad} (hq : s.mgmt.queue = []) (hd : s.dueTables = [d])
    (ht : d.table = .cameraProfile) : s.turnover.port d.cam =
      ({ s.port d.cam with ring := Ring.turnover (decide ((s.port d.cam).st = .live)) (s.port d.cam).ring } : Port).applyProfile
        (s.writingFor d.cam) d.content := by
  rw [State.port, State.turnover_ports hq, State.applyCamTables_profile hd ht]
  exact (State.applyProfile_port d.cam d.content).trans (by rw [State.turnRings_port]; rfl)

/-- The status bit of CAM-STATE, and CHANNEL-FAULT where the attention read meets an unlocked link. -/
theorem State.turnover_profile_status {d : TableLoad} (hq : s.mgmt.queue = []) (hd : s.dueTables = [d])
    (ht : d.table = .cameraProfile) :
    StatusGrows (s.turnRings.applyProfile d.cam d.content).mgmt.status s.turnover.mgmt.status := by
  rw [← State.applyCamTables_profile hd ht]
  exact State.turnover_status hq

end Sys2Proof.Machine
end

section
/-! PROOF. A Balance Table at a turnover (R60), and O58 put together. -/

namespace Sys2Proof.Machine

variable {s : State}

/-! ## A load and a boot table that are not due touch nothing of the balance unit's work -/

/-- The state with no table due. -/
def State.noneDue (s : State) : State := { s with mgmt.load.st := .idle, store.boot.due := none }

theorem State.noneDue_handResult (s : State) (p : Cam) (t : Transaction) (r : Result) (data : List Byte) :
    s.noneDue.handResult p t r data = (s.handResult p t r data).noneDue := by
  unfold State.handResult
  split
  · rfl
  · split
    · split <;> rfl
    · rfl
  · split <;> rfl

theorem State.noneDue_arbitrateN (p : Cam) : ∀ (n : Nat) (s : State),
    State.arbitrateN p n s.noneDue = (State.arbitrateN p n s).noneDue
  | 0, _ => rfl
  | n + 1, s => by
    have hc : s.noneDue.chan p = s.chan p := rfl
    have hp : s.noneDue.port p = s.port p := rfl
    rw [State.arbitrateN, State.arbitrateN, hc, hp]
    split
    · rfl
    · split
      · rfl
      · rename_i ch _
        split
        · rfl
        · have hs : s.noneDue.setChan p ((s.chan p).take ch) = (s.setChan p ((s.chan p).take ch)).noneDue := rfl
          rw [hs, State.noneDue_handResult, State.noneDue_arbitrateN p n]

theorem State.noneDue_handExposure (s : State) (p : Cam) (v : Nat) :
    s.noneDue.handExposure p v = (s.handExposure p v).noneDue :=
  State.noneDue_arbitrateN p (((s.setChan p { s.chan p with exposure := some v }).chan p).queue.length + 2)
    (s.setChan p { s.chan p with exposure := some v })

theorem State.noneDue_nudgeTest (s : State) (c : Cam) : s.noneDue.nudgeTest c = (s.nudgeTest c).noneDue := by
  have hc : s.noneDue.chan c = s.chan c := rfl
  have hp : s.noneDue.port c = s.port c := rfl
  have hb : s.noneDue.camBal c = s.camBal c := rfl
  unfold State.nudgeTest
  rw [hc, hp, hb]
  split
  · split
    · rfl
    · split
      · rfl
      · exact State.noneDue_handExposure (s.setBal c (s.camBal c).nudged) c _
  · rfl

theorem State.noneDue_settleAndNudge (s : State) (c : Cam) :
    s.noneDue.settleAndNudge c = (s.settleAndNudge c).noneDue := by
  have hs : s.noneDue.setBal c (s.noneDue.camBal c).settleStep = (s.setBal c (s.camBal c).settleStep).noneDue := rfl
  unfold State.settleAndNudge
  dsimp only
  rw [hs, State.noneDue_nudgeTest]
  split
  · rename_i h
    exact (if_pos h).symm ▸ rfl
  · rename_i h
    exact (if_neg h).symm ▸ rfl

theorem State.noneDue_balanceTurnover (s : State) : s.noneDue.balanceTurnover = s.balanceTurnover.noneDue := by
  have hg : s.noneDue.gainTurnover = s.gainTurnover.noneDue := rfl
  simp only [State.balanceTurnover, forCams, hg, State.noneDue_settleAndNudge]

/-! ## A Balance Table due (R60) -/

theorem State.balanced_balance {d : TableLoad} (hd : s.dueTables = [d]) (ht : d.table = .balance) :
    s.balanced = s.turnRings.balanceTurnover.applyBalanceTable d.content := by
  have hf : s.dueTables.foldl State.applyCamTable s.turnRings = s.turnRings := by simp [hd, State.applyCamTable, ht]
  have hc : dueContent s.dueTables .balance = some d.content := by simp [hd, dueContent, ht]
  unfold State.balanced
  rw [hf, hc, State.turnBalance]

theorem State.noneDue_balanced (s : State) : s.noneDue.balanced = s.turnRings.balanceTurnover.noneDue := by
  have hd : s.noneDue.dueTables = [] := rfl
  have hr : s.noneDue.turnRings = s.turnRings.noneDue := rfl
  unfold State.balanced
  rw [hd, hr, ← State.noneDue_balanceTurnover]
  rfl

theorem State.balanceTurnover_table (s : State) : s.balanceTurnover.bal.table = s.bal.table := by
  obtain ⟨cams, chans, st, res, fil, e⟩ := s.balanceTurnover_frame
  rw [e]

/-- A reference takes its manual gain (R60). -/
theorem Balance.newTable_reference {old new : List Byte} {c : Cam} (h : balancePartner new c = none) (b : Balance) :
    (b.newTable old new c).gain = balanceManual new c ∧ (b.newTable old new c).target = balanceManual new c := by
  simp [Balance.newTable, h]

theorem Balance.newTable_follower {old new : List Byte} {c : Cam} (h : balancePartner new c ≠ none) (b : Balance) :
    (b.newTable old new c).gain = b.gain ∧ (b.newTable old new c).target = b.target := by
  obtain ⟨p, hp⟩ := Option.ne_none_iff_exists'.mp h
  simp only [Balance.newTable, hp]
  split <;> exact ⟨rfl, rfl⟩

/-- The runs end with the partner they were counted against, and the settle count stands. -/
theorem Balance.newTable_runs (b : Balance) (old new : List Byte) (c : Cam) :
    (b.newTable old new c).settle = b.settle ∧
    (b.newTable old new c).high = (if balancePartner old c ≠ balancePartner new c then 0 else b.high) ∧
    (b.newTable old new c).low = (if balancePartner old c ≠ balancePartner new c then 0 else b.low) := by
  unfold Balance.newTable
  dsimp only
  by_cases h : balancePartner old c ≠ balancePartner new c
  · rw [if_pos h, if_pos h, if_pos h]
    split <;> exact ⟨rfl, rfl, rfl⟩
  · rw [if_neg h, if_neg h, if_neg h]
    split <;> exact ⟨rfl, rfl, rfl⟩

/-- The records after a turnover with a Balance Table due are those it would leave with none, under the new table. -/
theorem State.turnover_balance {d : TableLoad} (hq : s.mgmt.queue = []) (hd : s.dueTables = [d])
    (ht : d.table = .balance) : s.turnover.bal.table = d.content ∧ s.turnover.chans = s.noneDue.turnover.chans ∧
      ∀ c, s.turnover.camBal c = (s.noneDue.turnover.camBal c).newTable s.bal.table d.content c := by
  have hb := s.turnRings.balanceTurnover_table
  simp only [State.camBal, State.turnover_bal hq, State.turnover_chans hq, State.turnover_bal (s := s.noneDue) hq,
    State.turnover_chans (s := s.noneDue) hq, State.balanced_balance hd ht, State.noneDue_balanced]
  generalize s.turnRings.balanceTurnover = u at hb
  refine ⟨rfl, rfl, fun c => ?_⟩
  have hb' : u.bal.table = s.bal.table := hb
  rw [← hb']
  exact Quad.get_build _ c

/-! ## The port of an applied profile, after the reader's step has left the ring `R` -/

section
variable {old t : Port} {R : Tri Slot} {granted : Bool} {profile : List Byte}

theorem Port.profiled_same (ht : t = ({ old with ring := R } : Port).applyProfile granted profile)
    (h : profileEnabled profile = profileEnabled old.profile) : t = { old with profile := profile, ring := t.ring } := by
  rw [Port.applyProfile_same (p := { old with ring := R }) h] at ht
  rw [ht]

theorem Port.profiled_locked (ht : t = ({ old with ring := R } : Port).applyProfile granted profile)
    (ho : profileEnabled old.profile = false) (hn : profileEnabled profile = true) (hl : old.lock = true) :
    t = { old with
      profile := profile, ring := t.ring, st := .acquiring, acquire := 0, repeats := 0, staleness := .running 100 } := by
  rw [Port.applyProfile_enabled (p := { old with ring := R }) ho hn, if_pos hl] at ht
  rw [ht]
  rfl

theorem Port.profiled_unlocked (ht : t = ({ old with ring := R } : Port).applyProfile granted profile)
    (ho : profileEnabled old.profile = false) (hn : profileEnabled profile = true) (hl : old.lock = false) :
    t = { old with profile := profile, ring := t.ring, st := .absent, staleness := .stopped } := by
  rw [Port.applyProfile_enabled (p := { old with ring := R }) ho hn, if_neg (by simp [hl])] at ht
  rw [ht]

/-- A port that goes to OFF keeps of its frames what is being read alone, and withdraws the waiting lines of the frame it
ends (R8, R20). -/
theorem Port.profiled_off (ht : t = ({ old with ring := R } : Port).applyProfile granted profile)
    (hp : PortConsistent { old with ring := R })
    (ho : profileEnabled old.profile = true) (hn : profileEnabled profile = false) :
    t = { old with
      profile := profile, ring := t.ring, st := .off, flight := none, staleness := .stopped, bufs := t.bufs } ∧
    (old.flight = none → t.bufs = old.bufs) ∧
    (∀ f, old.flight = some f → t.bufs = keptLines granted f.slot old.bufs) ∧
    ∀ i, (t.ring.get i).st = .free ∨ (t.ring.get i).st = .reading := by
  rw [Port.applyProfile_disabled (p := { old with ring := R }) ho hn] at ht
  refine ⟨?_, fun hf => ?_, fun f hf => ?_, ?_⟩
  · obtain ⟨ring, bufs, e⟩ := ({ old with ring := R } : Port).dropFlight_frame granted
    rw [ht, e]
  · rw [ht, Port.dropFlight_of_none (p := { old with ring := R }) hf]
  · rw [ht, Port.dropFlight_of_some (p := { old with ring := R }) hf]
  · rw [ht]
    exact hp.released_ring granted

end

/-! ## The channel and the status of an applied profile -/

theorem State.applyProfile_status (s : State) (p : Cam) (profile : List Byte) :
    StatusGrows (s.profiled p profile).mgmt.status (s.applyProfile p profile).mgmt.status := by
  rw [State.applyProfile_eq]
  split
  · exact State.askAttention_status _ p
  · exact StatusGrows.refl _

theorem State.applyProfile_of_read {p : Cam} {profile : List Byte} (h : (s.port p).attention = false ∨
    profileStatus (s.port p).profile ≠ none ∨ profileStatus profile = none) :
    s.applyProfile p profile = s.profiled p profile := by
  rw [State.applyProfile_eq, if_neg]
  rw [State.unreadAttention_iff]
  rintro ⟨ha, ho, r, hr⟩
  obtain h | h | h := h
  · simp [ha] at h
  · exact h ho
  · simp [hr] at h

theorem State.applyProfile_of_unread {p : Cam} {profile : List Byte} {r : Nat} (ha : (s.port p).attention = true)
    (ho : profileStatus (s.port p).profile = none) (hr : profileStatus profile = some r) :
    s.applyProfile p profile = (s.profiled p profile).askAttention p := by
  rw [State.applyProfile_eq, if_pos ((s.unreadAttention_iff p profile).mpr ⟨ha, ho, r, hr⟩)]

/-- The attention read asked for at channel `base`, ACTIVE or on a locked link. -/
theorem State.askAttention_chan {p : Cam} {base : Channel} {profile : List Byte} {r : Nat} (hb : s.chan p = base)
    (hn : base.active = false → base.nothingWaits) (hp : (s.port p).profile = profile)
    (hl : base.active = true ∨ (s.port p).lock = true) (hr : profileStatus profile = some r) :
    (s.askAttention p).chan p = base.askedRead profile r := by
  subst hb hp
  obtain ha | hl := hl
  · rw [State.askAttention_active ha, State.chan_setChan_self]
  · rw [State.askAttention_eq hn hl hr, State.chan_setChan_self]

/-! ## O58 -/

/-- Settles O58: the first part from the applied profile's port, channel and balance records and the status that grows
through the turnover, the second from `State.turnover_balance`. -/
theorem profileAndBalanceTableTakeEffect : Obligations.ProfileAndBalanceTableTakeEffect := by
  refine ⟨fun s d old base hq hd ht hp hc hold hbase => ?_, fun s u d hq hd ht hu => ?_⟩
  · have hport := State.turnover_profile_port hq hd ht
    obtain ⟨hbal, hchan⟩ := State.turnover_profile_balance hq hd ht
    have hstatus := State.turnover_profile_status hq hd ht
    have hruns := Balance.turnover_quiet s (s.camBal d.cam) d.cam _ hbal
    have hbase' : (s.turnRings.profiled d.cam d.content).chan d.cam = base := by
      rw [State.profiled_chan, hbase]
      rfl
    have hst : (s.turnRings.profiled d.cam d.content).mgmt.status =
        if (s.turnover.port d.cam).st ≠ old.st then s.mgmt.status ||| eventBit (evCamState d.cam) else s.mgmt.status := by
      rw [hport, hold]
      simp only [State.profiled, State.turnRings_port]
      rfl
    have hgrow := (State.applyProfile_status s.turnRings d.cam d.content).trans hstatus
    obtain ⟨hattention, hprofile, hlock⟩ : (s.turnRings.port d.cam).attention = old.attention ∧
        (s.turnRings.port d.cam).profile = old.profile ∧ (s.turnRings.port d.cam).lock = old.lock := by
      rw [State.turnRings_port, hold]
      exact ⟨rfl, rfl, rfl⟩
    have hidle : base.active = false → base.nothingWaits := fun hi => by
      rw [hbase] at hi ⊢
      exact Channel.applyProfile_nothingWaits ((channelsConsistent_iff s).mp hc d.cam |>.nothingWaits hi) d.content
    generalize hR : Ring.turnover (decide ((s.port d.cam).st = .live)) (s.port d.cam).ring = R at hport
    have hpR : PortConsistent { s.port d.cam with ring := R } := by
      have h := hp.turnRings d.cam
      rwa [State.turnRings_port, hR] at h
    rw [← hold] at hport hpR hR
    refine ⟨s.turnover, rfl, Port.profiled_same hport,
      fun ho hn => ⟨Port.profiled_locked hport ho hn, Port.profiled_unlocked hport ho hn⟩, fun ho hn => ?_, ?_, fun hno => ?_,
      fun r ha ho hn => ⟨fun hl => ?_, fun hi hl => ?_⟩, ?_, hruns.2.1, hruns.2.2⟩
    · obtain ⟨h1, h2, h3, h4⟩ := Port.profiled_off hport hpR ho hn
      refine ⟨h1, h2, h3, h4, fun hl i hi => ?_⟩
      rw [decide_eq_true hl] at hR
      have hr : R.get i = ⟨.reading, (old.ring.get i).frameNo⟩ := hR ▸ Ring.turnover_ready hi
      rw [hport]
      exact ((hpR.applyProfile_freed _ _).reading (by rw [hr])).trans hr
    · rw [hgrow.low d.cam.val d.cam.isLt, hst, Bool.eq_iff_iff, getLsbD_raised _ _ _ _ (by omega)]
      simp [evCamState]
    · rw [hchan, State.applyProfile_of_read (by rwa [hattention, hprofile]), hbase']
    · rw [hchan, State.applyProfile_of_unread (by rwa [hattention]) (by rwa [hprofile]) hn]
      exact State.askAttention_chan hbase' hidle (by rw [State.profiled_port, Port.applyProfile_profile])
        (by rwa [State.profiled_port, Port.applyProfile_lock, hlock]) hn
    · rw [State.applyProfile_of_unread (by rwa [hattention]) (by rwa [hprofile]) hn] at hchan hstatus
      obtain ⟨hstands, hfault⟩ := State.askAttention_unlocked (p := d.cam) (by rwa [hbase'])
        (by rw [hbase']; exact hidle hi) (by rwa [State.profiled_port, Port.applyProfile_lock, hlock])
      refine ⟨by rw [hchan, hstands, hbase'], hstatus.kept _ ?_⟩
      have hbit : 8 + d.cam.val < 24 := by omega
      rw [hfault, BitVec.getLsbD_or, getLsbD_eventBit _ _ hbit]
      simp [evChannelFault]
    · exact hruns.1.1
  · have hu' : s.noneDue.turnover = u := Host.Outcome.next.inj hu
    obtain ⟨htable, hchans, hcams⟩ := State.turnover_balance hq hd ht
    rw [hu'] at hchans hcams
    refine ⟨s.turnover, rfl, htable, hchans, fun c => ?_⟩
    rw [hcams c]
    obtain ⟨hsettle, hhigh, hlow⟩ := (u.camBal c).newTable_runs s.bal.table d.content c
    refine ⟨hsettle, fun h => Balance.newTable_reference h _, fun h => Balance.newTable_follower h _, fun h => ?_,
      fun h => ?_⟩
    · rw [hhigh, hlow, if_pos (Ne.symm h)]
      exact ⟨rfl, if_pos (Ne.symm h)⟩
    · rw [hhigh, hlow, if_neg (not_not.mpr h.symm), if_neg (not_not.mpr h.symm)]
      exact ⟨rfl, rfl⟩

end Sys2Proof.Machine
end

section
/-! PROOF. The content checks of record tables (R6, R7, R26, R28, R77, R81, R103, R164, R170). -/

namespace Sys2Proof.Machine

/-! ## The first bad record (R164, R170) -/

theorem firstBad_eq_some_iff (n : Nat) (bad : Nat → Bool) (i : Nat) :
    firstBad n bad = some i ↔ i < n ∧ bad i = true ∧ ∀ j < i, bad j = false := by
  rw [firstBad, List.find?_range_eq_some, List.mem_range]
  simp only [Bool.not_eq_true']
  exact and_left_comm

theorem firstBad_eq_none_iff (n : Nat) (bad : Nat → Bool) : firstBad n bad = none ↔ ∀ i < n, bad i = false := by
  rw [firstBad, List.find?_range_eq_none]
  simp only [Bool.not_eq_true']

/-- A record fails its owner's test, or is missing or incomplete, exactly when it is not whole and good. -/
theorem record_bad_iff {size : Nat} {ok : List Byte → Bool} {good : List Byte → Prop}
    (h : ∀ r : List Byte, r.length = size → (ok r = true ↔ good r)) (bs : List Byte) (i : Nat) :
    (decide (bs.length < size * (i + 1)) || !ok (sliceOf bs (size * i) size)) = false ↔ RecordGood size good bs i := by
  rw [Bool.or_eq_false_iff, decide_eq_false_iff_not, Nat.not_lt, Bool.not_eq_false', RecordGood]
  refine and_congr_right fun hlen => h _ ?_
  rw [sliceOf, List.length_take, List.length_drop]
  rw [Nat.mul_succ] at hlen
  omega

theorem record_bad_iff_not {size : Nat} {ok : List Byte → Bool} {good : List Byte → Prop}
    (h : ∀ r : List Byte, r.length = size → (ok r = true ↔ good r)) (bs : List Byte) (i : Nat) :
    (decide (bs.length < size * (i + 1)) || !ok (sliceOf bs (size * i) size)) = true ↔ ¬RecordGood size good bs i := by
  rw [← record_bad_iff h bs i, Bool.not_eq_false]

/-- A table of `n` records is checked in index order, where its owner's test of one record says what the rule does. -/
theorem recordsCheck_checks {n size : Nat} {ok : List Byte → Bool} {good : List Byte → Prop}
    (h : ∀ r : List Byte, r.length = size → (ok r = true ↔ good r)) (bs : List Byte) :
    ChecksRecords n size good bs (recordsCheck n size ok bs) := by
  have hnone := firstBad_eq_none_iff n fun i => decide (bs.length < size * (i + 1)) || !ok (sliceOf bs (size * i) size)
  have hsome := firstBad_eq_some_iff n fun i => decide (bs.length < size * (i + 1)) || !ok (sliceOf bs (size * i) size)
  simp only [record_bad_iff h, record_bad_iff_not h] at hnone hsome
  unfold recordsCheck
  generalize firstBad n (fun i => decide (bs.length < size * (i + 1)) || !ok (sliceOf bs (size * i) size)) = first
    at hnone hsome
  cases first with
  | some k =>
    obtain ⟨hk, hbad, hgood⟩ := (hsome k).mp rfl
    refine ⟨iff_of_false (by simp) fun hall => hbad (hall.2 k hk), fun i => ?_⟩
    constructor
    · rintro ⟨rfl⟩
      exact ⟨hgood, Or.inl ⟨hk, hbad⟩⟩
    · rintro ⟨hi, ⟨hin, hib⟩ | ⟨rfl, -⟩⟩
      · exact (hsome i).mpr ⟨hin, hib, hi⟩
      · exact absurd (hi k hk) hbad
  | none =>
    have hall := hnone.mp rfl
    have hlen : size * n ≤ bs.length := by
      cases n with
      | zero => simp
      | succ m => exact (hall m (Nat.lt_succ_self m)).1
    dsimp only
    split
    · rename_i hlong
      refine ⟨iff_of_false (by simp) fun he => absurd he.1 (Nat.ne_of_gt hlong), fun i => ?_⟩
      constructor
      · rintro ⟨rfl⟩
        exact ⟨hall, Or.inr ⟨rfl, hlong⟩⟩
      · rintro ⟨-, ⟨hin, hib⟩ | ⟨rfl, -⟩⟩
        · exact absurd (hall i hin) hib
        · rfl
    · rename_i hshort
      refine ⟨iff_of_true rfl ⟨Nat.le_antisymm (Nat.not_lt.mp hshort) hlen, hall⟩, fun i => ?_⟩
      refine iff_of_false (by simp) ?_
      rintro ⟨-, ⟨hin, hib⟩ | ⟨-, hlong⟩⟩
      · exact hib (hall i hin)
      · exact hshort hlong

/-! ## The owners' tests of one record, by their rules -/

theorem tileOk_iff (r : List Byte) : tileOk r = true ↔ TileGood r := by
  simp only [tileOk, TileGood, Bool.and_eq_true, Bool.or_eq_true, decide_eq_true_iff]
  tauto

theorem vertexOk_iff (r : List Byte) : vertexOk r = true ↔ VertexGood r := by
  simp only [vertexOk, VertexGood, Bool.and_eq_true, Bool.or_eq_true, decide_eq_true_iff]

theorem profileOk_iff (r : List Byte) : profileOk r = true ↔ ProfileGood r := by
  simp only [profileOk, ProfileGood, Bool.and_eq_true, Bool.or_eq_true, decide_eq_true_iff]
  omega

theorem modeRulesOk_iff (r : List Byte) : modeRulesOk r = true ↔ RulesGood r := by
  simp only [modeRulesOk, Bool.and_eq_true, decide_eq_true_iff, and_assoc]
  rfl

theorem paletteOk_iff (r : List Byte) : paletteOk r = true ↔ byteAt r 3 ≤ 16 := by
  rw [paletteOk, decide_eq_true_iff]

theorem rectOk_iff (r : List Byte) (o : Nat) : rectOk (rectAt r o) = true ↔ RectGood r o := by
  simp only [rectOk, coordOk, Bool.and_eq_true, decide_eq_true_iff, and_assoc]
  rfl

/-- Two masks of six bits have no bit in common exactly where their conjunction is 0. -/
theorem and_eq_zero_iff_testBit {a b : Nat} (ha : a < 64) :
    a &&& b = 0 ↔ ∀ k < 6, ¬(a.testBit k = true ∧ b.testBit k = true) := by
  constructor
  · intro h k _ hk
    have := congrArg (Nat.testBit · k) h
    simp [Nat.testBit_and, hk.1, hk.2] at this
  · intro h
    refine Nat.eq_of_testBit_eq fun k => ?_
    rw [Nat.zero_testBit, Nat.testBit_and]
    by_cases hk : k < 6
    · have := h k hk
      simpa using this
    · have ha' : a.testBit k = false :=
        Nat.testBit_lt_two_pow (ha.trans_le (Nat.pow_le_pow_right (by decide) (Nat.not_lt.mp hk) : 2 ^ 6 ≤ 2 ^ k))
      rw [ha', Bool.false_and]

theorem guideOk_iff (r : List Byte) : guideOk r = true ↔ byteAt r 8 ≤ 2 ∧ 1 ≤ byteAt r 9 ∧ byteAt r 9 ≤ 8 := by
  simp only [guideOk, Bool.and_eq_true, decide_eq_true_iff]

theorem zoneOk_iff (r : List Byte) : zoneOk r = true ↔ byteAt r 8 ≤ 7 ∧ 0 < u16At r 9 ∧ u16At r 9 < u16At r 11 ∧
    u16At r 11 < u16At r 13 ∧ u16At r 13 ≤ 500 ∧ byteAt r 15 ≤ 15 ∧ byteAt r 16 ≤ 15 ∧ byteAt r 17 ≤ 15 ∧ RectGood r 18 ∧
    byteAt r 26 ≤ 1 := by
  simp only [zoneOk, Bool.and_eq_true, decide_eq_true_iff, rectOk_iff, and_assoc]

theorem iconOk_iff (r : List Byte) : iconOk r = true ↔
    byteAt r 8 ≤ 31 ∧ -2048 ≤ s16At r 9 ∧ s16At r 9 ≤ 2047 ∧ -2048 ≤ s16At r 11 ∧ s16At r 11 ≤ 2047 := by
  simp only [iconOk, coordOk, Bool.and_eq_true, decide_eq_true_iff, and_assoc]

theorem frameOk_iff (r : List Byte) : frameOk r = true ↔ RectGood r 8 ∧ 1 ≤ byteAt r 16 ∧ byteAt r 16 ≤ 16 := by
  simp only [frameOk, Bool.and_eq_true, decide_eq_true_iff, rectOk_iff]

/-- An element's kind, and the fields its kind has (R76). -/
def KindGood (r : List Byte) : Prop :=
  byteAt r 0 ≤ 4 ∧ (byteAt r 0 = 1 → guideOk r = true) ∧ (byteAt r 0 = 2 → zoneOk r = true) ∧
    (byteAt r 0 = 3 → iconOk r = true) ∧ (byteAt r 0 = 4 → frameOk r = true)

/-- The part of the element check that looks at the kind's own fields. -/
def kindOk (r : List Byte) : Bool :=
  match byteAt r 0 with
  | 0 => true
  | 1 => guideOk r
  | 2 => zoneOk r
  | 3 => iconOk r
  | 4 => frameOk r
  | _ => false

theorem kindOk_iff (r : List Byte) : kindOk r = true ↔ KindGood r := by
  unfold kindOk KindGood
  split <;> rename_i h <;> simp_all
  omega

theorem elementOk_eq (r : List Byte) : elementOk r =
    (decide (r.length = 32) && decide (byteAt r 1 ≤ 7) && decide (byteAt r 2 < 32) && decide (byteAt r 3 < 64) &&
      decide (byteAt r 4 < 64) && decide (byteAt r 5 < 16) && decide (byteAt r 6 < 16) && decide (byteAt r 7 ≤ 15) &&
      decide (byteAt r 3 &&& byteAt r 4 = 0) && kindOk r) := rfl

/-- The element check is the rule's (R75 to R77). -/
theorem elementOk_iff (r : List Byte) : elementOk r = true ↔ r.length = 32 ∧ ElementGood r := by
  rw [elementOk_eq]
  simp only [Bool.and_eq_true, decide_eq_true_iff, kindOk_iff, KindGood, guideOk_iff, zoneOk_iff, iconOk_iff, frameOk_iff,
    and_assoc]
  refine and_congr_right fun _ => ?_
  unfold ElementGood
  constructor
  · rintro ⟨h1, h2, h3, h4, h5, h6, h7, h8, h0, hk⟩
    exact ⟨h0, h1, h2, h3, h4, h5, h6, h7, (and_eq_zero_iff_testBit h3).mp h8, hk⟩
  · rintro ⟨h0, h1, h2, h3, h4, h5, h6, h7, h8, hk⟩
    exact ⟨h1, h2, h3, h4, h5, h6, h7, (and_eq_zero_iff_testBit h3).mpr h8, h0, hk⟩

/-! ## Check Windows (R6) -/

theorem byteAt_slice (bs : List Byte) {off size i : Nat} (h : i < size) :
    byteAt ((bs.drop off).take size) i = byteAt bs (off + i) := by
  simp [byteAt, List.getD, h, List.getElem?_drop]

theorem u16At_slice (bs : List Byte) {off size i : Nat} (h : i + 1 < size) :
    u16At ((bs.drop off).take size) i = u16At bs (off + i) := by
  rw [u16At, byteAt_slice bs (by omega), byteAt_slice bs h]
  rfl

theorem windowOk_iff (bs : List Byte) (i : Nat) :
    windowOk (windowAt bs i) = true ↔ WindowGood ((bs.drop (8 * i)).take 8) := by
  simp only [windowOk, WindowGood, Bool.and_eq_true, decide_eq_true_iff, and_assoc, u16At_slice bs
    (show 0 + 1 < 8 by decide), u16At_slice bs (show 2 + 1 < 8 by decide), u16At_slice bs (show 4 + 1 < 8 by decide),
    u16At_slice bs (show 6 + 1 < 8 by decide)]
  rfl

theorem window_bad_iff (bs : List Byte) (i : Nat) :
    (decide (4 ≤ i) || decide (bs.length < 8 * (i + 1)) || !windowOk (windowAt bs i)) = false ↔
      i < 4 ∧ RecordGood 8 WindowGood bs i := by
  simp only [Bool.or_eq_false_iff, decide_eq_false_iff_not, Bool.not_eq_false', windowOk_iff, RecordGood, Nat.not_le,
    Nat.not_lt, and_assoc]

theorem windowsCheck_eq_none_iff (bs : List Byte) : windowsCheck bs = none ↔
    ∃ n ≤ 4, bs.length = 8 * n ∧ ∀ i < n, RecordGood 8 WindowGood bs i := by
  rw [windowsCheck, firstBad_eq_none_iff]
  simp only [window_bad_iff]
  constructor
  · intro h
    obtain h0 | h0 := Nat.eq_zero_or_pos ((bs.length + 7) / 8)
    · exact ⟨0, by omega, by omega, by simp⟩
    · obtain ⟨h4, hlen, -⟩ := h ((bs.length + 7) / 8 - 1) (by omega)
      exact ⟨(bs.length + 7) / 8, by omega, by omega, fun i hi => (h i hi).2⟩
  · rintro ⟨n, hn, hlen, hall⟩ i hi
    exact ⟨by omega, hall i (by omega)⟩

theorem windowsCheck_eq_some_iff (bs : List Byte) (i : Nat) : windowsCheck bs = some i ↔
    (∀ j < i, j < 4 ∧ RecordGood 8 WindowGood bs j) ∧ 8 * i < bs.length ∧ (4 ≤ i ∨ ¬RecordGood 8 WindowGood bs i) := by
  rw [windowsCheck, firstBad_eq_some_iff, ← Bool.not_eq_false]
  simp only [window_bad_iff]
  have hlt : i < (bs.length + 7) / 8 ↔ 8 * i < bs.length := by omega
  rw [hlt, not_and_or, Nat.not_lt]
  tauto

end Sys2Proof.Machine
end

section
/-! PROOF. The Balance Table's cycles of partners (R59) and the targets of a load (R162). -/

namespace Sys2Proof.Machine

/-! ## Partners, link by link -/

/-- The camera that entry `a` names, where the entry is whole. -/
def partnerOf (bs : List Byte) (a : Cam) : Option Cam :=
  if bs.length < 3 * (a.val + 1) then none else balancePartner bs a

/-- One link, from no camera to no camera. -/
def partnerLink (bs : List Byte) (a : Option Cam) : Option Cam := a.bind (partnerOf bs)

theorem index4_eq_some_iff (n : Nat) (i : Fin 4) : index4 n = some i ↔ n = i.val := by
  unfold index4
  split
  · rw [Option.some_inj, Fin.ext_iff]
  · exact iff_of_false (by simp) (by omega)

theorem index4_eq_none_iff (n : Nat) : index4 n = none ↔ 3 < n := by
  unfold index4
  split <;> simp <;> omega

theorem namesPartner_iff (bs : List Byte) (a b : Cam) : NamesPartner bs a b ↔ partnerOf bs a = some b := by
  unfold NamesPartner partnerOf
  split
  · exact iff_of_false (by omega) (by simp)
  · rw [balancePartner, index4_eq_some_iff]
    exact and_iff_right (by omega)

theorem partnersReach_of_none {bs : List Byte} {a : Cam} (h : partnerOf bs a = none) (c : Cam) (n : Nat) :
    partnersReach bs c (n + 1) a = false := by
  unfold partnerOf at h
  rw [partnersReach]
  split
  · rfl
  · rename_i hlen
    rw [if_neg hlen] at h
    rw [h]

theorem partnersReach_of_some {bs : List Byte} {a q : Cam} (h : partnerOf bs a = some q) (c : Cam) (n : Nat) :
    partnersReach bs c (n + 1) a = (decide (q = c) || partnersReach bs c n q) := by
  unfold partnerOf at h
  rw [partnersReach]
  split
  · rename_i hlen
    rw [if_pos hlen] at h
    cases h
  · rename_i hlen
    rw [if_neg hlen] at h
    rw [h]

theorem partnerLink_iterate_none (bs : List Byte) (k : Nat) : (partnerLink bs)^[k] none = none :=
  Function.iterate_fixed rfl k

/-- The links of a search are those of the iterated map. -/
theorem partnersReach_iff (bs : List Byte) (c : Cam) : ∀ (n : Nat) (a : Cam),
    partnersReach bs c n a = true ↔ ∃ k < n, (partnerLink bs)^[k + 1] (some a) = some c
  | 0, a => by simp [partnersReach]
  | n + 1, a => by
    have hstep : ∀ k, (partnerLink bs)^[k + 1] (some a) = (partnerLink bs)^[k] (partnerOf bs a) := fun k =>
      Function.iterate_succ_apply _ k _
    simp only [hstep]
    cases h : partnerOf bs a with
    | none => simp [partnersReach_of_none h, partnerLink_iterate_none]
    | some q =>
      rw [partnersReach_of_some h, Bool.or_eq_true, decide_eq_true_iff, partnersReach_iff bs c n q]
      constructor
      · rintro (rfl | ⟨k, hk, e⟩)
        · exact ⟨0, Nat.succ_pos n, rfl⟩
        · exact ⟨k + 1, Nat.succ_lt_succ hk, e⟩
      · rintro ⟨k, hk, e⟩
        cases k with
        | zero => exact Or.inl (Option.some.inj e)
        | succ k => exact Or.inr ⟨k, Nat.lt_of_succ_lt_succ hk, e⟩

/-- A chain of partners is a number of links. -/
theorem transGen_namesPartner_iff (bs : List Byte) (a c : Cam) :
    Relation.TransGen (NamesPartner bs) a c ↔ ∃ k, (partnerLink bs)^[k + 1] (some a) = some c := by
  constructor
  · intro h
    induction h with
    | single h => exact ⟨0, (namesPartner_iff bs _ _).mp h⟩
    | tail _ h ih =>
      obtain ⟨k, hk⟩ := ih
      refine ⟨k + 1, ?_⟩
      rw [Function.iterate_succ_apply', hk]
      exact (namesPartner_iff bs _ _).mp h
  · rintro ⟨k, hk⟩
    induction k generalizing c with
    | zero => exact Relation.TransGen.single ((namesPartner_iff bs _ _).mpr hk)
    | succ k ih =>
      rw [Function.iterate_succ_apply'] at hk
      obtain ⟨b, hb, hbc⟩ := Option.bind_eq_some_iff.mp hk
      exact (ih b hb).tail ((namesPartner_iff bs _ _).mpr hbc)

/-- A cycle through a camera passes four cameras at most, so four links are enough to find it. -/
theorem partnersReach_four_iff (bs : List Byte) (c : Cam) :
    partnersReach bs c 4 c = true ↔ Relation.TransGen (NamesPartner bs) c c := by
  rw [partnersReach_iff, transGen_namesPartner_iff]
  refine ⟨fun ⟨k, _, h⟩ => ⟨k, h⟩, fun ⟨k, h⟩ => ?_⟩
  have hper : Function.IsPeriodicPt (partnerLink bs) (k + 1) (some c) := h
  have hpos := hper.minimalPeriod_pos (Nat.succ_pos k)
  have hsome : ∀ i, (partnerLink bs)^[i] (some c) ≠ none := fun i hi => by
    have hback : (partnerLink bs)^[(k + 1) * (i + 1)] (some c) = some c := hper.mul_const (i + 1)
    have hle : i ≤ (k + 1) * (i + 1) := by nlinarith
    rw [← Nat.sub_add_cancel hle, Function.iterate_add_apply, hi, partnerLink_iterate_none] at hback
    cases hback
  have hcard : Function.minimalPeriod (partnerLink bs) (some c) ≤ 4 := by
    have hmaps : Set.MapsTo (fun i => (partnerLink bs)^[i] (some c))
        (Finset.range (Function.minimalPeriod (partnerLink bs) (some c))) (Finset.univ.erase (none : Option Cam)) :=
      fun i _ => by simp [hsome i]
    have hinj := Function.iterate_injOn_Iio_minimalPeriod (f := partnerLink bs) (x := some c)
    have := Finset.card_le_card_of_injOn _ hmaps (by simpa using hinj)
    simpa using this
  refine ⟨Function.minimalPeriod (partnerLink bs) (some c) - 1, by omega, ?_⟩
  rw [Nat.sub_add_cancel hpos]
  exact Function.isPeriodicPt_minimalPeriod _ _

/-! ## The Balance Table's check (R59) -/

theorem balanceBad_iff (bs : List Byte) (c : Cam) : balanceBad bs c = true ↔ ¬EntryGood bs c := by
  rw [← not_iff_not, not_not, Bool.not_eq_true, balanceBad]
  simp only [Bool.or_eq_false_iff, decide_eq_false_iff_not, Bool.not_eq_false', decide_eq_true_iff, Nat.not_lt,
    ← Bool.not_eq_true (partnersReach bs c 4 c), partnersReach_four_iff, EntryGood, and_assoc]
  rfl

theorem allCams_find_eq_some_iff (bad : Cam → Bool) (c : Cam) :
    allCams.find? bad = some c ↔ bad c = true ∧ ∀ d < c, bad d = false := by
  revert bad c
  decide

theorem allCams_find_eq_none_iff (bad : Cam → Bool) : allCams.find? bad = none ↔ ∀ c, bad c = false := by
  simp [allCams, Fin.forall_fin_succ]

theorem balanceCheck_spec (bs : List Byte) :
    (balanceCheck bs = none ↔ bs.length = 12 ∧ ∀ c, EntryGood bs c) ∧
    ∀ i, balanceCheck bs = some i ↔
      (∃ c : Cam, c.val = i ∧ ¬EntryGood bs c ∧ ∀ d < c, EntryGood bs d) ∨
        (i = 4 ∧ 12 < bs.length ∧ ∀ c, EntryGood bs c) := by
  have hgood : ∀ c, balanceBad bs c = false ↔ EntryGood bs c := fun c => by
    rw [← not_iff_not, Bool.not_eq_false, balanceBad_iff]
  have hsome := allCams_find_eq_some_iff (balanceBad bs)
  have hnone := allCams_find_eq_none_iff (balanceBad bs)
  simp only [balanceBad_iff, hgood] at hsome hnone
  unfold balanceCheck
  cases hf : allCams.find? (balanceBad bs) with
  | some c =>
    obtain ⟨hbad, hlow⟩ := (hsome c).mp hf
    refine ⟨iff_of_false (by simp) fun h => hbad (h.2 c), fun i => ?_⟩
    constructor
    · rintro ⟨rfl⟩
      exact Or.inl ⟨c, rfl, hbad, hlow⟩
    · rintro (⟨e, rfl, he⟩ | ⟨-, -, hall⟩)
      · rw [(hsome e).mpr he] at hf
        cases hf
        rfl
      · exact absurd (hall c) hbad
  | none =>
    have hall := hnone.mp hf
    have hlen : 12 ≤ bs.length := (hall 3).1
    have hno : ∀ c, ¬¬EntryGood bs c := fun c => not_not.mpr (hall c)
    dsimp only
    split
    · rename_i hlong
      refine ⟨iff_of_false (by simp) fun h => absurd h.1 (by omega), fun i => ?_⟩
      constructor
      · rintro ⟨rfl⟩
        exact Or.inr ⟨rfl, hlong, hall⟩
      · rintro (⟨c, -, hbad, -⟩ | ⟨rfl, -⟩)
        · exact absurd (hall c) hbad
        · rfl
    · rename_i hshort
      refine ⟨iff_of_true rfl ⟨by omega, hall⟩, fun i => iff_of_false (by simp) ?_⟩
      rintro (⟨c, -, hbad, -⟩ | ⟨-, hlong, -⟩)
      · exact hbad (hall c)
      · omega

/-! ## Targets (R162) -/

/-- The ten table codes, with their tables' limits (formats section). -/
def tableCodes : List (Nat × Table × Nat × Bool) :=
  [(1, .tileMap, 3456, true), (2, .warpGrid, 2508, true), (3, .cameraProfile, 19, false),
    (4, .checkWindows, 32, false), (5, .balance, 12, false), (6, .bands, 2971, false), (7, .palette, 64, false),
    (8, .glyphs, 8192, false), (9, .overlay, 2048, false), (10, .modeRules, 7, false)]

theorem tableOf_eq_none_iff (n : Nat) : tableOf n = none ↔ n = 0 ∨ 10 < n := by
  obtain h | h := Nat.lt_or_ge n 11
  · interval_cases n <;> simp [tableOf]
  · obtain ⟨m, rfl⟩ := Nat.exists_eq_add_of_le' h
    simp [tableOf]

theorem tableOf_mem {n : Nat} {t : Table} (h : tableOf n = some t) : (n, t, t.limit, t.isLayout) ∈ tableCodes := by
  unfold tableOf at h
  split at h <;> cases h <;> decide

/-- A table's target is out of range where a byte that the table reads names no slot or camera. -/
theorem targetOf_eq_none_iff {n : Nat} {t : Table} (h : tableOf n = some t) (slot camera : Nat) :
    targetOf t slot camera = none ↔ (n ≤ 2 ∧ 3 < slot) ∨ (2 ≤ n ∧ n ≤ 4 ∧ 3 < camera) := by
  unfold tableOf at h
  split at h <;> cases h <;>
    simp [targetOf, index4_eq_none_iff, Option.bind_eq_none_iff, index4_eq_some_iff]
  constructor
  · intro hslot
    by_cases hs : slot < 4
    · exact Or.inr (hslot ⟨slot, hs⟩ rfl)
    · exact Or.inl (Nat.lt_of_not_le (by omega))
  · rintro (hs | hc) i rfl
    · exact absurd i.isLt (by omega)
    · exact hc

/-- A target in range is what the table's bytes name. -/
theorem targetOf_some {n : Nat} {t : Table} (h : tableOf n = some t) {slot camera : Nat} {i : Fin 4} {c : Cam}
    (ht : targetOf t slot camera = some (i, c)) :
    (n ≤ 2 → i.val = slot) ∧ (2 ≤ n → n ≤ 4 → c.val = camera) := by
  unfold tableOf at h
  split at h <;> cases h <;>
    simp [targetOf, index4_eq_some_iff, Option.bind_eq_some_iff] at ht ⊢
  · exact ht.1.symm
  · exact ⟨ht.1.symm, ht.2.symm⟩
  · exact ht.1.symm
  · exact ht.1.symm

theorem destOf_eq_none_iff (table slot camera : Byte) : destOf table slot camera = none ↔
    table.toNat = 0 ∨ 10 < table.toNat ∨ (table.toNat ≤ 2 ∧ 3 < slot.toNat) ∨
      (2 ≤ table.toNat ∧ table.toNat ≤ 4 ∧ 3 < camera.toNat) := by
  unfold destOf
  cases h : tableOf table.toNat with
  | none =>
    have := (tableOf_eq_none_iff _).mp h
    exact iff_of_true rfl (by omega)
  | some t =>
    have hn : ¬(table.toNat = 0 ∨ 10 < table.toNat) := fun hn => by simp [(tableOf_eq_none_iff _).mpr hn] at h
    dsimp only
    rw [Option.map_eq_none_iff, targetOf_eq_none_iff h]
    omega

theorem destOf_some {table slot camera : Byte} {d : TableLoad} (h : destOf table slot camera = some d) :
    d.content = [] ∧ (table.toNat ≤ 2 → d.slot.val = slot.toNat) ∧
      (2 ≤ table.toNat → table.toNat ≤ 4 → d.cam.val = camera.toNat) ∧
      (table.toNat, d.table, d.table.limit, d.table.isLayout) ∈ tableCodes := by
  unfold destOf at h
  cases ht : tableOf table.toNat with
  | none => simp [ht] at h
  | some t =>
    rw [ht] at h
    obtain ⟨⟨i, c⟩, htarget, rfl⟩ := Option.map_eq_some_iff.mp h
    obtain ⟨hslot, hcam⟩ := targetOf_some ht htarget
    exact ⟨rfl, hslot, hcam, tableOf_mem ht⟩

end Sys2Proof.Machine
end

section
/-! SUPPORT. Readers of byte encodings: a reader reads exactly what an encoding of a good value starts with. -/

namespace Sys2Proof.Machine

/-! ## Bytes and numbers (R170) -/

theorem byteAt_cons (b : Byte) (bs : List Byte) : byteAt (b :: bs) 0 = b.toNat := rfl

theorem byteAt_ofNat {n : Nat} (h : n < 256) (bs : List Byte) : byteAt (BitVec.ofNat 8 n :: bs) 0 = n := by
  rw [byteAt_cons, BitVec.toNat_ofNat, Nat.mod_eq_of_lt h]

theorem byteAt_lt (bs : List Byte) (i : Nat) : byteAt bs i < 256 := (bs.getD i 0).isLt

theorem u16At_cons (a b : Byte) (bs : List Byte) : u16At (a :: b :: bs) 0 = a.toNat * 256 + b.toNat := rfl

theorem u16At_be16 {n : Nat} (h : n < 65536) (bs : List Byte) : u16At (be16 n ++ bs) 0 = n := by
  rw [be16, List.cons_append, List.cons_append, u16At_cons, BitVec.toNat_ofNat, BitVec.toNat_ofNat]
  omega

/-- Two bytes are the encoding of the number they hold. -/
theorem be16_u16At (a b : Byte) (bs : List Byte) : be16 (u16At (a :: b :: bs) 0) = [a, b] := by
  have hb := b.isLt
  have ha : (a.toNat * 256 + b.toNat) / 256 = a.toNat := by omega
  have hlow : BitVec.ofNat 8 (a.toNat * 256 + b.toNat) = b := BitVec.eq_of_toNat_eq (by simpa using hb)
  rw [u16At_cons, be16, ha, hlow, BitVec.ofNat_toNat, BitVec.setWidth_eq]

theorem u16At_lt (bs : List Byte) (i : Nat) : u16At bs i < 65536 := by
  have h0 := byteAt_lt bs i
  have h1 := byteAt_lt bs (i + 1)
  rw [u16At]
  omega

theorem s16At_beInt {n : Int} (h : -32768 ≤ n) (h' : n ≤ 32767) (bs : List Byte) : s16At (beInt n ++ bs) 0 = n := by
  unfold s16At beInt
  rw [u16At_be16 (by omega)]
  split <;> omega

theorem beInt_s16At (a b : Byte) (bs : List Byte) : beInt (s16At (a :: b :: bs) 0) = [a, b] := by
  have hlt := u16At_lt (a :: b :: bs) 0
  have hn : (s16At (a :: b :: bs) 0 % 65536).toNat = u16At (a :: b :: bs) 0 := by
    unfold s16At
    split <;> omega
  rw [beInt, hn, be16_u16At]

theorem s16At_range (bs : List Byte) (i : Nat) : -32768 ≤ s16At bs i ∧ s16At bs i ≤ 32767 := by
  have := u16At_lt bs i
  unfold s16At
  split <;> omega

theorem byteAt_drop (bs : List Byte) (k i : Nat) : byteAt (bs.drop k) i = byteAt bs (k + i) := by
  simp [byteAt, List.getD, List.getElem?_drop]

theorem u16At_drop (bs : List Byte) (k i : Nat) : u16At (bs.drop k) i = u16At bs (k + i) := by
  simp only [u16At, byteAt_drop, Nat.add_assoc]

theorem s16At_drop (bs : List Byte) (k i : Nat) : s16At (bs.drop k) i = s16At bs (k + i) := by
  simp only [s16At, u16At_drop]

/-! ## Readers -/

/-- The reader reads the encoding of a good value at the head of the bytes, and nothing else. -/
def Reads {α : Type} (read : List Byte → Option (α × List Byte)) (good : α → Prop) (encode : α → List Byte) : Prop :=
  ∀ bs x rest, read bs = some (x, rest) ↔ good x ∧ bs = encode x ++ rest

theorem Reads.eq_none_iff {α : Type} {read : List Byte → Option (α × List Byte)} {good : α → Prop}
    {encode : α → List Byte} (h : Reads read good encode) (bs : List Byte) :
    read bs = none ↔ ¬∃ x rest, good x ∧ bs = encode x ++ rest := by
  simp only [← h bs, Option.eq_none_iff_forall_ne_some, Prod.forall, not_exists, ne_eq]

/-- Reads `n` values one after another. -/
def readMany {α : Type} (read : List Byte → Option (α × List Byte)) : Nat → List Byte → Option (List α × List Byte)
  | 0, bs => some ([], bs)
  | n + 1, bs => (read bs).bind fun x => (readMany read n x.2).map fun y => (x.1 :: y.1, y.2)

theorem readMany_succ_of_none {α : Type} {read : List Byte → Option (α × List Byte)} {bs : List Byte}
    (h : read bs = none) (n : Nat) : readMany read (n + 1) bs = none := by
  rw [readMany, h, Option.bind_none]

theorem readMany_succ_of_some {α : Type} {read : List Byte → Option (α × List Byte)} {bs rest : List Byte} {x : α}
    (h : read bs = some (x, rest)) (n : Nat) :
    readMany read (n + 1) bs = (readMany read n rest).map fun y => (x :: y.1, y.2) := by
  rw [readMany, h, Option.bind_some]

theorem Reads.many {α : Type} {read : List Byte → Option (α × List Byte)} {good : α → Prop} {encode : α → List Byte}
    (h : Reads read good encode) (n : Nat) :
    Reads (readMany read n) (fun xs => xs.length = n ∧ ∀ x ∈ xs, good x) (fun xs => xs.flatMap encode) := by
  induction n with
  | zero =>
    intro bs xs rest
    constructor
    · rintro ⟨rfl⟩
      exact ⟨⟨rfl, by simp⟩, rfl⟩
    · rintro ⟨⟨hlen, -⟩, rfl⟩
      rw [List.length_eq_zero_iff] at hlen
      subst hlen
      rfl
  | succ n ih =>
    intro bs xs rest
    simp only [readMany, Option.bind_eq_some_iff, Option.map_eq_some_iff, Prod.exists]
    constructor
    · rintro ⟨x, mid, hx, ys, rest', hys, he⟩
      cases he
      obtain ⟨hgood, rfl⟩ := (h _ _ _).mp hx
      obtain ⟨⟨hlen, hall⟩, rfl⟩ := (ih _ _ _).mp hys
      exact ⟨⟨by rw [List.length_cons, hlen], List.forall_mem_cons.mpr ⟨hgood, hall⟩⟩, by simp⟩
    · rintro ⟨⟨hlen, hall⟩, rfl⟩
      cases xs with
      | nil => cases hlen
      | cons x ys =>
        obtain ⟨hx, hys⟩ := List.forall_mem_cons.mp hall
        exact ⟨x, ys.flatMap encode ++ rest, (h _ _ _).mpr ⟨hx, by simp⟩, ys, rest,
          (ih _ _ _).mpr ⟨⟨Nat.succ.inj hlen, hys⟩, rfl⟩, rfl⟩

/-- Reads a count in a range, then that many values. -/
def readCounted {α : Type} (low high : Nat) (read : List Byte → Option (α × List Byte)) (bs : List Byte) :
    Option (List α × List Byte) :=
  if bs.length < 1 ∨ byteAt bs 0 < low ∨ high < byteAt bs 0 then none else readMany read (byteAt bs 0) (bs.drop 1)

theorem Reads.counted {α : Type} {read : List Byte → Option (α × List Byte)} {good : α → Prop} {encode : α → List Byte}
    (h : Reads read good encode) (low : Nat) {high : Nat} (hh : high < 256) :
    Reads (readCounted low high read) (fun xs => (low ≤ xs.length ∧ xs.length ≤ high) ∧ ∀ x ∈ xs, good x)
      (fun xs => BitVec.ofNat 8 xs.length :: xs.flatMap encode) := by
  intro bs xs rest
  unfold readCounted
  cases bs with
  | nil => simp
  | cons b bs =>
    rw [byteAt_cons, List.drop_one, List.tail_cons, List.length_cons]
    split
    · rename_i hout
      refine iff_of_false (by simp) ?_
      rintro ⟨⟨hlen, -⟩, he⟩
      have hb : b = BitVec.ofNat 8 xs.length := (List.cons.inj he).1
      rw [hb, BitVec.toNat_ofNat, Nat.mod_eq_of_lt (by omega)] at hout
      omega
    · rename_i hin
      rw [h.many b.toNat bs xs rest]
      constructor
      · rintro ⟨⟨hlen, hall⟩, rfl⟩
        refine ⟨⟨by omega, hall⟩, ?_⟩
        dsimp only
        rw [hlen, BitVec.ofNat_toNat, BitVec.setWidth_eq, List.cons_append]
      · rintro ⟨⟨hlen, hall⟩, he⟩
        obtain ⟨hb, hbs⟩ := List.cons.inj he
        refine ⟨⟨?_, hall⟩, hbs⟩
        rw [hb, BitVec.toNat_ofNat, Nat.mod_eq_of_lt (by omega)]

end Sys2Proof.Machine
end

section
/-! PROOF. The Band Table's check (R92, R93, R170): its reader, step by step, against the encoding. -/

namespace Sys2Proof.Machine

/-! ## Points, polylines and curve sets -/

def PointGood (p : Int × Int) : Prop := -2048 ≤ p.1 ∧ p.1 ≤ 2047 ∧ -2048 ≤ p.2 ∧ p.2 ≤ 2047

def pointBytes (p : Int × Int) : List Byte := beInt p.1 ++ beInt p.2

def PolylineGood (points : List (Int × Int)) : Prop :=
  (2 ≤ points.length ∧ points.length ≤ 16) ∧ ∀ p ∈ points, PointGood p

def polylineBytes (points : List (Int × Int)) : List Byte :=
  BitVec.ofNat 8 points.length :: points.flatMap pointBytes

/-- One point, as `readPoints` reads each. -/
def readPoint (bs : List Byte) : Option ((Int × Int) × List Byte) :=
  if bs.length < 4 then none
  else if coordOk (s16At bs 0) && coordOk (s16At bs 2) then some ((s16At bs 0, s16At bs 2), bs.drop 4) else none

/-- One polyline, as `readPolylines` reads each. -/
def readPolyline (bs : List Byte) : Option (List (Int × Int) × List Byte) := readCounted 2 16 readPoint bs

/-- One curve set, as `readCurveSets` reads each. -/
def readCurveSet (bs : List Byte) : Option (List (List (Int × Int)) × List Byte) := readCounted 0 3 readPolyline bs

theorem readPoints_eq (n : Nat) (bs : List Byte) : readPoints n bs = readMany readPoint n bs := by
  induction n generalizing bs with
  | zero => rfl
  | succ n ih =>
    rw [readPoints, readMany, readPoint]
    split
    · rfl
    · split
      · rw [ih, Option.bind_some]
        cases readMany readPoint n (bs.drop 4) <;> rfl
      · rfl

theorem readPolylines_eq (n : Nat) (bs : List Byte) : readPolylines n bs = readMany readPolyline n bs := by
  induction n generalizing bs with
  | zero => rfl
  | succ n ih =>
    rw [readPolylines, readMany, readPolyline, readCounted, readPoints_eq]
    split
    · rfl
    · cases readMany readPoint (byteAt bs 0) (bs.drop 1) with
      | none => rfl
      | some x =>
        dsimp only
        rw [ih, Option.bind_some]
        cases readMany readPolyline n x.2 <;> rfl

theorem coordOk_iff (i : Int) : coordOk i = true ↔ -2048 ≤ i ∧ i ≤ 2047 := by
  rw [coordOk, decide_eq_true_iff]

theorem reads_point : Reads readPoint PointGood pointBytes := by
  intro bs p rest
  unfold readPoint
  split
  · rename_i hlen
    refine iff_of_false (by simp) ?_
    rintro ⟨-, rfl⟩
    simp [pointBytes, beInt, be16] at hlen
    omega
  · rename_i hlen
    obtain ⟨a, b, c, d, tl, rfl⟩ : ∃ a b c d tl, bs = a :: b :: c :: d :: tl := by
      match bs, hlen with
      | a :: b :: c :: d :: tl, _ => exact ⟨a, b, c, d, tl, rfl⟩
      | [], h | [_], h | [_, _], h | [_, _, _], h => simp at h
    have h2 : s16At (a :: b :: c :: d :: tl) 2 = s16At (c :: d :: tl) 0 := (s16At_drop _ 2 0).symm
    simp only [h2, Bool.and_eq_true, coordOk_iff]
    constructor
    · intro h
      split at h
      · rename_i hgood
        cases h
        refine ⟨⟨hgood.1.1, hgood.1.2, hgood.2.1, hgood.2.2⟩, ?_⟩
        simp [pointBytes, beInt_s16At]
      · cases h
    · rintro ⟨⟨hx, hx', hy, hy'⟩, he⟩
      have h0 : s16At (a :: b :: c :: d :: tl) 0 = p.1 := by
        rw [he, pointBytes, List.append_assoc, s16At_beInt (by omega) (by omega)]
      have htl : c :: d :: tl = beInt p.2 ++ rest := (List.cons.inj (List.cons.inj he).2).2
      have h1 : s16At (c :: d :: tl) 0 = p.2 := by rw [htl, s16At_beInt (by omega) (by omega)]
      have hrest : tl = rest := (List.cons.inj (List.cons.inj htl).2).2
      rw [h0, h1, if_pos ⟨⟨hx, hx'⟩, hy, hy'⟩, hrest]
      rfl

theorem reads_polyline : Reads readPolyline PolylineGood polylineBytes := reads_point.counted 2 (by decide)

theorem reads_curveSet : Reads readCurveSet curveSetGood curveSetBytes := by
  intro bs sets rest
  rw [readCurveSet, reads_polyline.counted 0 (by decide) bs sets rest]
  refine and_congr_left fun _ => ?_
  simp [curveSetGood, PolylineGood, PointGood, and_assoc]

/-! ## The curve sets of a table -/

theorem readCurveSet_eq (bs : List Byte) : readCurveSet bs =
    if bs.length < 1 ∨ 3 < byteAt bs 0 then none else readPolylines (byteAt bs 0) (bs.drop 1) := by
  rw [readCurveSet, readCounted, readPolylines_eq]
  simp only [Nat.not_lt_zero, false_or]

theorem readCurveSets_succ_of_none {bs : List Byte} (h : readCurveSet bs = none) (n i : Nat) :
    readCurveSets (n + 1) i bs = .error i := by
  rw [readCurveSet_eq] at h
  rw [readCurveSets]
  split
  · rfl
  · rename_i hin
    rw [if_neg hin] at h
    rw [h]

theorem readCurveSets_succ_of_some {bs rest : List Byte} {ps : List (List (Int × Int))}
    (h : readCurveSet bs = some (ps, rest)) (n i : Nat) :
    readCurveSets (n + 1) i bs = (readCurveSets n (i + 1) rest).map fun y => (ps :: y.1, y.2) := by
  rw [readCurveSet_eq] at h
  rw [readCurveSets]
  split
  · rename_i hout
    rw [if_pos hout] at h
    cases h
  · rename_i hin
    rw [if_neg hin] at h
    rw [h]
    dsimp only
    cases readCurveSets n (i + 1) rest <;> rfl

theorem readCurveSets_eq_ok_iff (n i : Nat) (bs : List Byte) (x : List (List (List (Int × Int))) × List Byte) :
    readCurveSets n i bs = .ok x ↔ readMany readCurveSet n bs = some x := by
  induction n generalizing i bs x with
  | zero => simp [readCurveSets, readMany]
  | succ n ih =>
    cases h : readCurveSet bs with
    | none => simp [readCurveSets_succ_of_none h, readMany_succ_of_none h]
    | some y =>
      rw [readCurveSets_succ_of_some (ps := y.1) (rest := y.2) h, readMany_succ_of_some (x := y.1) (rest := y.2) h,
        Option.map_eq_some_iff]
      simp only [← ih (i + 1)]
      cases readCurveSets n (i + 1) y.2 <;> simp [Except.map]

/-- The reading stops at the first band whose curve set is not there. -/
theorem readCurveSets_eq_error_iff (n i : Nat) (bs : List Byte) (j : Nat) : readCurveSets n i bs = .error j ↔
    ∃ m < n, j = i + m ∧ ∃ sets rest, readMany readCurveSet m bs = some (sets, rest) ∧ readCurveSet rest = none := by
  induction n generalizing i bs with
  | zero => simp [readCurveSets]
  | succ n ih =>
    cases h : readCurveSet bs with
    | none =>
      rw [readCurveSets_succ_of_none h]
      constructor
      · rintro ⟨rfl⟩
        exact ⟨0, Nat.succ_pos n, rfl, [], bs, rfl, h⟩
      · rintro ⟨m, -, rfl, sets, rest, hm, -⟩
        cases m with
        | zero => rfl
        | succ m => rw [readMany_succ_of_none h] at hm; cases hm
    | some y =>
      have hmap : (readCurveSets (n + 1) i bs = .error j) ↔ readCurveSets n (i + 1) y.2 = .error j := by
        rw [readCurveSets_succ_of_some (ps := y.1) (rest := y.2) h]
        cases readCurveSets n (i + 1) y.2 <;> simp [Except.map]
      rw [hmap, ih]
      constructor
      · rintro ⟨m, hm, rfl, sets, rest, hsets, hnone⟩
        refine ⟨m + 1, Nat.succ_lt_succ hm, by omega, y.1 :: sets, rest, ?_, hnone⟩
        rw [readMany_succ_of_some (x := y.1) (rest := y.2) h, hsets]
        rfl
      · rintro ⟨m, hm, rfl, sets, rest, hsets, hnone⟩
        cases m with
        | zero =>
          cases hsets
          rw [h] at hnone
          cases hnone
        | succ m =>
          rw [readMany_succ_of_some (x := y.1) (rest := y.2) h] at hsets
          obtain ⟨z, hz, he⟩ := Option.map_eq_some_iff.mp hsets
          cases he
          exact ⟨m, Nat.lt_of_succ_lt_succ hm, by omega, z.1, z.2, hz, hnone⟩

end Sys2Proof.Machine
end

section
/-! PROOF. The Band Table's header fields, and its whole check (R92, R93, R170). -/

namespace Sys2Proof.Machine

/-! ## The edges -/

/-- One edge. -/
def readEdge (bs : List Byte) : Option (Int × List Byte) :=
  if bs.length < 2 then none else some (s16At bs 0, bs.drop 2)

theorem readEdge_of_le {bs : List Byte} (h : 2 ≤ bs.length) : readEdge bs = some (s16At bs 0, bs.drop 2) :=
  if_neg (Nat.not_lt_of_le h)

theorem reads_edge : Reads readEdge (fun e => -32768 ≤ e ∧ e ≤ 32767) beInt := by
  intro bs e rest
  unfold readEdge
  split
  · rename_i hlen
    refine iff_of_false (by simp) ?_
    rintro ⟨-, rfl⟩
    simp [beInt, be16] at hlen
  · rename_i hlen
    obtain ⟨a, b, tl, rfl⟩ : ∃ a b tl, bs = a :: b :: tl := by
      match bs, hlen with
      | a :: b :: tl, _ => exact ⟨a, b, tl, rfl⟩
      | [], h | [_], h => simp at h
    constructor
    · rintro ⟨rfl⟩
      exact ⟨s16At_range _ 0, by rw [beInt_s16At]; rfl⟩
    · rintro ⟨⟨he, he'⟩, hbs⟩
      have hrest : tl = rest := (List.cons.inj (List.cons.inj hbs).2).2
      rw [hbs, s16At_beInt he he']
      rfl

/-- The edges of a table, read one by one, are those `edgesOf` takes at their offsets. -/
theorem readMany_edge (m : Nat) (bs : List Byte) (h : 2 * m ≤ bs.length) :
    readMany readEdge m bs = some ((List.range m).map fun i => s16At bs (2 * i), bs.drop (2 * m)) := by
  induction m generalizing bs with
  | zero => rfl
  | succ m ih =>
    have hshift : ∀ i, s16At bs (2 * (i + 1)) = s16At (bs.drop 2) (2 * i) := fun i => by
      rw [s16At_drop]
      congr 1
      omega
    rw [readMany_succ_of_some (readEdge_of_le (by omega)), ih _ (by rw [List.length_drop]; omega),
      List.range_succ_eq_map, List.map_cons, List.map_map]
    simp only [Function.comp_def, hshift, List.drop_drop, Option.map_some]
    rw [show 2 + 2 * m = 2 * (m + 1) by omega]

/-! ## The header fields -/

/-- The header fields, as `readBands` checks and takes them. -/
def readHeader (bs : List Byte) : Option (BandHeader × List Byte) :=
  if bandsHeaderOk bs then
    some (⟨edgesOf (byteAt bs 0) bs, byteAt bs 1, byteAt bs 2⟩, bs.drop (3 + 2 * (byteAt bs 0 - 1)))
  else none

/-- The edges stand behind the three bytes in front of them. -/
theorem edgesOf_cons (n : Nat) (a b c : Byte) (tl : List Byte) :
    edgesOf n (a :: b :: c :: tl) = (List.range (n - 1)).map fun i => s16At tl (2 * i) := by
  refine List.map_congr_left fun i _ => ?_
  exact (s16At_drop (a :: b :: c :: tl) 3 (2 * i)).symm

theorem bandsHeaderOk_iff (a b c : Byte) (tl : List Byte) : bandsHeaderOk (a :: b :: c :: tl) = true ↔
    (1 ≤ a.toNat ∧ a.toNat ≤ 15) ∧ 2 * (a.toNat - 1) ≤ tl.length ∧ b.toNat ≤ 50 ∧ c.toNat ≤ 15 ∧
      (∀ e ∈ edgesOf a.toNat (a :: b :: c :: tl), -450 ≤ e ∧ e ≤ 450) ∧
      (edgesOf a.toNat (a :: b :: c :: tl)).Pairwise (· < ·) := by
  have h0 : byteAt (a :: b :: c :: tl) 0 = a.toNat := rfl
  have h1 : byteAt (a :: b :: c :: tl) 1 = b.toNat := rfl
  have h2 : byteAt (a :: b :: c :: tl) 2 = c.toNat := rfl
  have hlen : (a :: b :: c :: tl).length = tl.length + 3 := rfl
  have h3 : 3 ≤ tl.length + 3 := by omega
  have h4 : 3 + 2 * (a.toNat - 1) ≤ tl.length + 3 ↔ 2 * (a.toNat - 1) ≤ tl.length := by omega
  simp only [bandsHeaderOk, h0, h1, h2, hlen, Bool.and_eq_true, decide_eq_true_iff, List.all_eq_true, and_assoc, h3, h4,
    true_and]

theorem exists_three_cons {bs : List Byte} (h : 3 ≤ bs.length) : ∃ a b c tl, bs = a :: b :: c :: tl := by
  match bs, h with
  | a :: b :: c :: tl, _ => exact ⟨a, b, c, tl, rfl⟩

theorem bandsHeaderOk_length {bs : List Byte} (h : bandsHeaderOk bs = true) : 3 ≤ bs.length := by
  by_contra hlen
  simp [bandsHeaderOk, hlen] at h

/-- Header fields in range are read back from their bytes. -/
theorem readHeader_bytes {h : BandHeader} (hg : h.good) (rest : List Byte) :
    readHeader (h.bytes ++ rest) = some (h, rest) := by
  obtain ⟨hlen, hrange, hincr, hhyst, hcol⟩ := hg
  have hbytes : h.bytes ++ rest = BitVec.ofNat 8 (h.edges.length + 1) :: BitVec.ofNat 8 h.hysteresis ::
      BitVec.ofNat 8 h.colour :: (h.edges.flatMap beInt ++ rest) := rfl
  have hn : (BitVec.ofNat 8 (h.edges.length + 1)).toNat = h.edges.length + 1 := by
    rw [BitVec.toNat_ofNat, Nat.mod_eq_of_lt (by omega)]
  have hh : (BitVec.ofNat 8 h.hysteresis).toNat = h.hysteresis := by
    rw [BitVec.toNat_ofNat, Nat.mod_eq_of_lt (by omega)]
  have hc : (BitVec.ofNat 8 h.colour).toNat = h.colour := by
    rw [BitVec.toNat_ofNat, Nat.mod_eq_of_lt (by omega)]
  have hread : readMany readEdge h.edges.length (h.edges.flatMap beInt ++ rest) = some (h.edges, rest) :=
    (reads_edge.many _ _ _ _).mpr ⟨⟨rfl, fun e he => by have := hrange e he; omega⟩, rfl⟩
  have hfit : 2 * h.edges.length ≤ (h.edges.flatMap beInt ++ rest).length := by
    simp [List.length_flatMap, beInt, be16]
    omega
  rw [readMany_edge _ _ hfit] at hread
  obtain ⟨hedges, hrest⟩ := Prod.mk.inj (Option.some.inj hread)
  have hedges' : edgesOf (h.edges.length + 1) (h.bytes ++ rest) = h.edges := by
    rw [hbytes, edgesOf_cons, Nat.add_sub_cancel, hedges]
  have hok : bandsHeaderOk (h.bytes ++ rest) = true := by
    rw [hbytes, bandsHeaderOk_iff, hn, hh, hc, ← hbytes, hedges', Nat.add_sub_cancel]
    exact ⟨⟨by omega, by omega⟩, hfit, hhyst, hcol, hrange, hincr⟩
  have h0 : byteAt (h.bytes ++ rest) 0 = h.edges.length + 1 := hn
  have h1 : byteAt (h.bytes ++ rest) 1 = h.hysteresis := hh
  have h2 : byteAt (h.bytes ++ rest) 2 = h.colour := hc
  have hdrop : (h.bytes ++ rest).drop (3 + 2 * h.edges.length) = rest := by
    rw [Nat.add_comm, hbytes]
    exact hrest
  rw [readHeader, if_pos hok, h0, h1, h2, hedges', Nat.add_sub_cancel, hdrop]

theorem reads_header : Reads readHeader BandHeader.good BandHeader.bytes := by
  intro bs h rest
  constructor
  · intro hread
    unfold readHeader at hread
    split at hread
    · rename_i hok
      obtain ⟨a, b, c, tl, rfl⟩ := exists_three_cons (bandsHeaderOk_length hok)
      obtain ⟨hn, hfit, hhyst, hcol, hrange, hincr⟩ := (bandsHeaderOk_iff a b c tl).mp hok
      have hedges := readMany_edge (a.toNat - 1) tl hfit
      rw [← edgesOf_cons a.toNat a b c tl] at hedges
      obtain ⟨⟨hlen, -⟩, htl⟩ := (reads_edge.many _ _ _ _).mp hedges
      have hdrop : (a :: b :: c :: tl).drop (3 + 2 * (a.toNat - 1)) = tl.drop (2 * (a.toNat - 1)) := by
        rw [Nat.add_comm]
        rfl
      have hread' : (⟨edgesOf a.toNat (a :: b :: c :: tl), b.toNat, c.toNat⟩, tl.drop (2 * (a.toNat - 1))) = (h, rest) := by
        rw [← hdrop]
        exact Option.some.inj hread
      cases hread'
      refine ⟨⟨by dsimp only; omega, hrange, hincr, hhyst, hcol⟩, ?_⟩
      have hcount : (edgesOf a.toNat (a :: b :: c :: tl)).length + 1 = a.toNat := by omega
      simp only [BandHeader.bytes, hcount, BitVec.ofNat_toNat, BitVec.setWidth_eq, List.cons_append, List.nil_append]
      rw [← htl]
    · cases hread
  · rintro ⟨hg, rfl⟩
    exact readHeader_bytes hg rest

/-! ## The whole table -/

theorem readBands_of_no_header {bs : List Byte} (h : readHeader bs = none) : readBands bs = .error 0 := by
  have hok : ¬bandsHeaderOk bs = true := fun hok => by
    rw [readHeader, if_pos hok] at h
    cases h
  rw [readBands, if_neg hok]

/-- With its header fields good, a content is read as `readBands` reads the bands behind them. -/
theorem readBands_of_header {bs rest : List Byte} {h : BandHeader} (hh : readHeader bs = some (h, rest)) :
    (∀ j, readCurveSets (h.edges.length + 1) 0 rest = .error j → readBands bs = .error j) ∧
    (∀ sets, readCurveSets (h.edges.length + 1) 0 rest = .ok (sets, []) →
      readBands bs = .ok ⟨h.hysteresis, h.colour, h.edges, sets⟩) ∧
    (∀ sets b tl, readCurveSets (h.edges.length + 1) 0 rest = .ok (sets, b :: tl) →
      readBands bs = .error (h.edges.length + 1)) := by
  obtain ⟨hg, hbs⟩ := (reads_header bs h rest).mp hh
  have hcount : byteAt bs 0 = h.edges.length + 1 := by
    obtain ⟨hlen, -⟩ := hg
    rw [hbs]
    exact byteAt_ofNat (by omega) _
  unfold readHeader at hh
  split at hh
  · rename_i hok
    cases hh
    rw [← hcount] at *
    unfold readBands
    rw [if_pos hok]
    refine ⟨fun j e => ?_, fun sets e => ?_, fun sets b tl e => ?_⟩ <;> rw [e]
  · cases hh

/-- The bands behind a good header, of which the first `m` are read and `rest` follows. -/
theorem readMany_curveSet_iff (m : Nat) (bs : List Byte) (sets : List (List (List (Int × Int)))) (rest : List Byte) :
    readMany readCurveSet m bs = some (sets, rest) ↔
      (sets.length = m ∧ ∀ ps ∈ sets, curveSetGood ps) ∧ bs = sets.flatMap curveSetBytes ++ rest :=
  reads_curveSet.many m bs sets rest

/-- A content is accepted exactly when it is the encoding of a table in range, which is then the table read. -/
theorem readBands_eq_ok_iff (bs : List Byte) (t : BandTable) : readBands bs = .ok t ↔ t.good ∧ bs = t.bytes := by
  constructor
  · intro ht
    cases hh : readHeader bs with
    | none =>
      rw [readBands_of_no_header hh] at ht
      cases ht
    | some x =>
      obtain ⟨h, rest⟩ := x
      obtain ⟨herror, hdone, hleft⟩ := readBands_of_header hh
      obtain ⟨hg, hbs⟩ := (reads_header bs h rest).mp hh
      cases hsets : readCurveSets (h.edges.length + 1) 0 rest with
      | error j =>
        rw [herror j hsets] at ht
        cases ht
      | ok y =>
        obtain ⟨sets, left⟩ := y
        cases left with
        | cons b tl =>
          rw [hleft sets b tl hsets] at ht
          cases ht
        | nil =>
          rw [hdone sets hsets] at ht
          cases ht
          obtain ⟨⟨hlen, hall⟩, hrest⟩ := (readMany_curveSet_iff _ _ _ _).mp ((readCurveSets_eq_ok_iff _ _ _ _).mp hsets)
          exact ⟨⟨hg, hlen, hall⟩, by rw [hbs, hrest, List.append_nil]; rfl⟩
  · rintro ⟨⟨hg, hlen, hall⟩, rfl⟩
    have hh := readHeader_bytes hg (t.curves.flatMap curveSetBytes)
    refine (readBands_of_header hh).2.1 t.curves ((readCurveSets_eq_ok_iff _ _ _ _).mpr ?_)
    exact (readMany_curveSet_iff _ _ _ _).mpr ⟨⟨hlen, hall⟩, (List.append_nil _).symm⟩

/-- A failing content names the first band that is not there, the header fields counting with band 0 and bytes left over
with the band count (R93, R170). -/
theorem readBands_eq_error_iff (bs : List Byte) (i : Nat) : readBands bs = .error i ↔
    (i = 0 ∧ ¬∃ (h : BandHeader) (rest : List Byte), h.good ∧ bs = h.bytes ++ rest) ∨
    ∃ (h : BandHeader) (sets : List (List (List (Int × Int)))) (rest : List Byte), h.good ∧ (∀ ps ∈ sets, curveSetGood ps) ∧
      bs = h.bytes ++ sets.flatMap curveSetBytes ++ rest ∧ sets.length = i ∧
      ((i < h.edges.length + 1 ∧ ¬∃ ps rest', curveSetGood ps ∧ rest = curveSetBytes ps ++ rest') ∨
        (i = h.edges.length + 1 ∧ rest ≠ [])) := by
  constructor
  · intro hi
    cases hh : readHeader bs with
    | none =>
      rw [readBands_of_no_header hh] at hi
      cases hi
      exact Or.inl ⟨rfl, (reads_header.eq_none_iff bs).mp hh⟩
    | some x =>
      obtain ⟨h, rest⟩ := x
      obtain ⟨herror, hdone, hleft⟩ := readBands_of_header hh
      obtain ⟨hg, hbs⟩ := (reads_header bs h rest).mp hh
      right
      cases hsets : readCurveSets (h.edges.length + 1) 0 rest with
      | error j =>
        rw [herror j hsets] at hi
        cases hi
        obtain ⟨m, hm, rfl, sets, rest', hread, hnone⟩ := (readCurveSets_eq_error_iff _ _ _ _).mp hsets
        obtain ⟨⟨hlen, hall⟩, hrest⟩ := (readMany_curveSet_iff _ _ _ _).mp hread
        exact ⟨h, sets, rest', hg, hall, by rw [hbs, hrest, List.append_assoc], by omega,
          Or.inl ⟨by omega, (reads_curveSet.eq_none_iff rest').mp hnone⟩⟩
      | ok y =>
        obtain ⟨sets, left⟩ := y
        cases left with
        | nil =>
          rw [hdone sets hsets] at hi
          cases hi
        | cons b tl =>
          rw [hleft sets b tl hsets] at hi
          cases hi
          obtain ⟨⟨hlen, hall⟩, hrest⟩ := (readMany_curveSet_iff _ _ _ _).mp ((readCurveSets_eq_ok_iff _ _ _ _).mp hsets)
          exact ⟨h, sets, b :: tl, hg, hall, by rw [hbs, hrest, List.append_assoc], hlen, Or.inr ⟨rfl, by simp⟩⟩
  · rintro (⟨rfl, hno⟩ | ⟨h, sets, rest, hg, hall, rfl, hlen, hend⟩)
    · exact readBands_of_no_header ((reads_header.eq_none_iff bs).mpr hno)
    · rw [List.append_assoc]
      obtain ⟨herror, -, hleft⟩ := readBands_of_header (readHeader_bytes hg (sets.flatMap curveSetBytes ++ rest))
      have hread : readMany readCurveSet i (sets.flatMap curveSetBytes ++ rest) = some (sets, rest) :=
        (readMany_curveSet_iff _ _ _ _).mpr ⟨⟨hlen, hall⟩, rfl⟩
      obtain ⟨hi, hno⟩ | ⟨rfl, hne⟩ := hend
      · exact herror i ((readCurveSets_eq_error_iff _ _ _ _).mpr
          ⟨i, hi, (Nat.zero_add i).symm, sets, rest, hread, (reads_curveSet.eq_none_iff rest).mpr hno⟩)
      · obtain ⟨b, tl, rfl⟩ := List.exists_cons_of_ne_nil hne
        exact hleft sets b tl ((readCurveSets_eq_ok_iff _ _ _ _).mpr hread)

theorem bandTableOf_bytes {t : BandTable} (h : t.good) : bandTableOf t.bytes = t := by
  rw [bandTableOf, (readBands_eq_ok_iff _ t).mpr ⟨h, rfl⟩]

end Sys2Proof.Machine
end

section
/-! PROOF. Glyph records (R88, R89): runs, one record, and the reading of all. -/

namespace Sys2Proof.Machine

/-! ## Runs -/

theorem readRuns_repeat {b : Byte} (h : b.toNat < 128) (bs : List Byte) :
    readRuns .head (b :: bs) = readRuns (.rep (b.toNat + 1)) bs := by
  rw [readRuns, if_pos h]

theorem readRuns_literal {b : Byte} (h : ¬b.toNat < 128) (bs : List Byte) :
    readRuns .head (b :: bs) = readRuns (.lit (b.toNat - 128 + 1)) bs := by
  rw [readRuns, if_neg h]

theorem readRuns_rep_iff (n : Nat) (bs : List Byte) (codes : List Nat) : readRuns (.rep n) bs = some codes ↔
    ∃ c rest codes', c ≤ 15 ∧ bs = BitVec.ofNat 8 c :: rest ∧ readRuns .head rest = some codes' ∧
      codes = List.replicate n c ++ codes' := by
  cases bs with
  | nil => simp [readRuns]
  | cons b bs =>
    rw [readRuns]
    split
    · rename_i hb
      rw [Option.map_eq_some_iff]
      constructor
      · rintro ⟨codes', hread, rfl⟩
        exact ⟨b.toNat, bs, codes', hb, by rw [BitVec.ofNat_toNat, BitVec.setWidth_eq], hread, rfl⟩
      · rintro ⟨c, rest, codes', hc, he, hread, rfl⟩
        obtain ⟨rfl, rfl⟩ := List.cons.inj he
        refine ⟨codes', hread, ?_⟩
        rw [BitVec.toNat_ofNat, Nat.mod_eq_of_lt (by omega)]
    · rename_i hb
      refine iff_of_false (by simp) ?_
      rintro ⟨c, rest, codes', hc, he, -⟩
      obtain ⟨rfl, -⟩ := List.cons.inj he
      rw [BitVec.toNat_ofNat, Nat.mod_eq_of_lt (by omega)] at hb
      exact hb hc

/-- One code of a literal run, before the last and at it. -/
theorem readRuns_lit_cons_iff (n : Nat) (b : Byte) (bs : List Byte) (codes : List Nat) :
    readRuns (.lit (n + 1)) (b :: bs) = some codes ↔ b.toNat ≤ 15 ∧
      ∃ codes', readRuns (if n = 0 then .head else .lit n) bs = some codes' ∧ codes = b.toNat :: codes' := by
  have hlast : (n + 1 ≤ 1) = (n = 0) := propext (by omega)
  rw [readRuns, Nat.add_sub_cancel]
  simp only [hlast]
  split
  · rename_i hb
    rw [Option.map_eq_some_iff, and_iff_right hb]
    simp only [eq_comm]
  · rename_i hb
    exact iff_of_false (by simp) fun h => hb h.1

theorem toNat_ofNat_code {c : Nat} (h : c ≤ 15) : (BitVec.ofNat 8 c).toNat = c := by
  rw [BitVec.toNat_ofNat, Nat.mod_eq_of_lt (by omega)]

/-- A literal run of `n + 1` codes. -/
theorem readRuns_lit_iff (n : Nat) (bs : List Byte) (codes : List Nat) : readRuns (.lit (n + 1)) bs = some codes ↔
    ∃ cs rest codes', cs.length = n + 1 ∧ (∀ c ∈ cs, c ≤ 15) ∧ bs = cs.map (BitVec.ofNat 8) ++ rest ∧
      readRuns .head rest = some codes' ∧ codes = cs ++ codes' := by
  induction n generalizing bs codes with
  | zero =>
    cases bs with
    | nil =>
      refine iff_of_false (by simp [readRuns]) ?_
      rintro ⟨cs, rest, codes', hlen, -, he, -⟩
      simp [List.length_eq_one_iff] at hlen
      obtain ⟨c, rfl⟩ := hlen
      cases he
    | cons b bs =>
      rw [readRuns_lit_cons_iff]
      constructor
      · rintro ⟨hb, codes', hread, rfl⟩
        exact ⟨[b.toNat], bs, codes', rfl, by simpa using hb, by simp, hread, rfl⟩
      · rintro ⟨cs, rest, codes', hlen, hall, he, hread, rfl⟩
        obtain ⟨c, rfl⟩ := List.length_eq_one_iff.mp hlen
        obtain ⟨rfl, rfl⟩ := List.cons.inj he
        have hc : c ≤ 15 := hall c (by simp)
        rw [toNat_ofNat_code hc]
        exact ⟨hc, codes', hread, rfl⟩
  | succ n ih =>
    cases bs with
    | nil =>
      refine iff_of_false (by simp [readRuns]) ?_
      rintro ⟨cs, rest, codes', hlen, -, he, -⟩
      have := congrArg List.length he
      simp [hlen] at this
      omega
    | cons b bs =>
      rw [readRuns_lit_cons_iff, if_neg (Nat.succ_ne_zero n)]
      constructor
      · rintro ⟨hb, codes₁, hread, rfl⟩
        obtain ⟨cs, rest, codes', hlen, hall, rfl, hrest, rfl⟩ := (ih bs codes₁).mp hread
        exact ⟨b.toNat :: cs, rest, codes', by rw [List.length_cons, hlen], List.forall_mem_cons.mpr ⟨hb, hall⟩, by simp,
          hrest, rfl⟩
      · rintro ⟨cs, rest, codes', hlen, hall, he, hread, rfl⟩
        obtain ⟨c, cs, rfl⟩ := List.exists_cons_of_length_eq_add_one hlen
        obtain ⟨hc, hcs⟩ := List.forall_mem_cons.mp hall
        obtain ⟨rfl, rfl⟩ := List.cons.inj he
        rw [toNat_ofNat_code hc]
        exact ⟨hc, cs ++ codes', (ih _ _).mpr ⟨cs, rest, codes', Nat.succ.inj hlen, hcs, rfl, hread, rfl⟩, rfl⟩

/-- A run in range is read back from its bytes, and the reading goes on behind it. -/
theorem readRuns_run_iff {r : GlyphRun} (h : r.good) (rest : List Byte) (codes : List Nat) :
    readRuns .head rest = some codes → readRuns .head (r.bytes ++ rest) = some (r.codes ++ codes) := by
  intro hread
  obtain ⟨hlow, hhigh, hall⟩ := h
  cases r with
  | repeated n c =>
    rw [GlyphRun.codes, List.length_replicate] at hlow hhigh
    have hc : c ≤ 15 := hall c (by simp [GlyphRun.codes]; omega)
    have hn : (BitVec.ofNat 8 (n - 1)).toNat = n - 1 := by rw [BitVec.toNat_ofNat, Nat.mod_eq_of_lt (by omega)]
    rw [GlyphRun.bytes, List.cons_append, readRuns_repeat (by omega), hn, Nat.sub_add_cancel hlow, readRuns_rep_iff]
    exact ⟨c, rest, codes, hc, rfl, hread, rfl⟩
  | literal cs =>
    rw [GlyphRun.codes] at hlow hhigh hall
    have hn : (BitVec.ofNat 8 (128 + (cs.length - 1))).toNat = 128 + (cs.length - 1) := by
      rw [BitVec.toNat_ofNat, Nat.mod_eq_of_lt (by omega)]
    rw [GlyphRun.bytes, List.cons_append, readRuns_literal (by omega), hn, Nat.add_sub_cancel_left, readRuns_lit_iff]
    exact ⟨cs, rest, codes, by omega, hall, rfl, hread, rfl⟩

/-- What is read is the bytes of runs in range, and their codes. -/
theorem readRuns_head_iff (bs : List Byte) (codes : List Nat) : readRuns .head bs = some codes ↔
    ∃ runs : List GlyphRun, (∀ r ∈ runs, r.good) ∧ bs = runs.flatMap GlyphRun.bytes ∧
      codes = runs.flatMap GlyphRun.codes := by
  constructor
  · intro h
    induction hn : bs.length using Nat.strong_induction_on generalizing bs codes with
    | _ n ih =>
      cases bs with
      | nil =>
        rw [readRuns] at h
        cases h
        exact ⟨[], by simp, rfl, rfl⟩
      | cons b bs =>
        by_cases hb : b.toNat < 128
        · rw [readRuns_repeat hb, readRuns_rep_iff] at h
          obtain ⟨c, rest, codes', hc, rfl, hread, rfl⟩ := h
          obtain ⟨runs, hall, rfl, rfl⟩ := ih _ (by simp at hn; omega) _ _ hread rfl
          refine ⟨.repeated (b.toNat + 1) c :: runs, List.forall_mem_cons.mpr ⟨⟨?_, ?_, ?_⟩, hall⟩, ?_, rfl⟩
          · simp [GlyphRun.codes]
          · simp [GlyphRun.codes]; omega
          · simp [GlyphRun.codes, hc]
          · simp [GlyphRun.bytes]
        · rw [readRuns_literal hb, readRuns_lit_iff] at h
          obtain ⟨cs, rest, codes', hlen, hcs, rfl, hread, rfl⟩ := h
          obtain ⟨runs, hall, rfl, rfl⟩ := ih _ (by simp at hn; omega) _ _ hread rfl
          have hlt := b.isLt
          have hb' : BitVec.ofNat 8 (128 + (cs.length - 1)) = b := by
            rw [show 128 + (cs.length - 1) = b.toNat by omega, BitVec.ofNat_toNat, BitVec.setWidth_eq]
          refine ⟨.literal cs :: runs, List.forall_mem_cons.mpr ⟨⟨?_, ?_, hcs⟩, hall⟩, ?_, rfl⟩
          · rw [GlyphRun.codes]; omega
          · rw [GlyphRun.codes]; omega
          · simp [GlyphRun.bytes, hb']
  · rintro ⟨runs, hall, rfl, rfl⟩
    induction runs with
    | nil => rfl
    | cons r runs ih =>
      obtain ⟨hr, hrs⟩ := List.forall_mem_cons.mp hall
      exact readRuns_run_iff hr _ _ (ih hrs)

/-! ## One record (R89) -/

theorem GlyphRun.bytes_length_le {r : GlyphRun} (h : r.good) : r.bytes.length ≤ 2 * r.codes.length := by
  obtain ⟨hlow, -⟩ := h
  cases r with
  | repeated n c =>
    rw [GlyphRun.codes, List.length_replicate] at hlow ⊢
    rw [GlyphRun.bytes, List.length_cons, List.length_singleton]
    omega
  | literal cs =>
    rw [GlyphRun.codes] at hlow ⊢
    rw [GlyphRun.bytes, List.length_cons, List.length_map]
    omega

theorem runs_bytes_length_le {runs : List GlyphRun} (h : ∀ r ∈ runs, r.good) :
    (runs.flatMap GlyphRun.bytes).length ≤ 2 * (runs.flatMap GlyphRun.codes).length := by
  induction runs with
  | nil => simp
  | cons r runs ih =>
    obtain ⟨hr, hrs⟩ := List.forall_mem_cons.mp h
    have h1 := GlyphRun.bytes_length_le hr
    have h2 := ih hrs
    rw [List.flatMap_cons, List.flatMap_cons, List.length_append, List.length_append]
    omega

/-- A good record's run bytes fit their two-byte count: a glyph has 64 by 64 codes at most. -/
theorem GlyphGood.bytes_length_lt {g : Glyph} {runs : List GlyphRun} (h : GlyphGood g runs) :
    (runs.flatMap GlyphRun.bytes).length < 65536 := by
  obtain ⟨-, -, hw, -, hh, hruns, hcodes, hlen⟩ := h
  have hle := runs_bytes_length_le hruns
  rw [← hcodes, hlen] at hle
  have : g.width * g.height ≤ 64 * 64 := Nat.mul_le_mul hw hh
  omega

theorem glyphBytes_append (g : Glyph) (runs : List GlyphRun) (rest : List Byte) : glyphBytes g runs ++ rest =
    BitVec.ofNat 8 g.index :: BitVec.ofNat 8 g.width :: BitVec.ofNat 8 g.height ::
      (be16 (runs.flatMap GlyphRun.bytes).length ++ (runs.flatMap GlyphRun.bytes ++ rest)) := by
  simp [glyphBytes]

theorem exists_five_cons {bs : List Byte} (h : ¬bs.length < 5) :
    ∃ a b c d e tl, bs = a :: b :: c :: d :: e :: tl := by
  match bs, Nat.not_lt.mp h with
  | a :: b :: c :: d :: e :: tl, _ => exact ⟨a, b, c, d, e, tl, rfl⟩

/-- What is read is a good record not seen before. -/
theorem readGlyph_sound {seen : List Nat} {bs : List Byte} {g : Glyph} {rest : List Byte}
    (h : readGlyph seen bs = some (g, rest)) :
    ∃ runs, GlyphGood g runs ∧ g.index ∉ seen ∧ bs = glyphBytes g runs ++ rest := by
  unfold readGlyph at h
  split at h
  · cases h
  rename_i hlen
  rw [not_or] at hlen
  split at h
  · cases h
  rename_i hfields
  simp only [not_or, Nat.not_lt] at hfields
  obtain ⟨hindex, hseen, hw, hw', hh, hh'⟩ := hfields
  split at h
  · cases h
  rename_i codes hcodes
  split at h
  · rename_i hcount
    cases h
    obtain ⟨runs, hruns, hbytes, hcs⟩ := (readRuns_head_iff _ _).mp hcodes
    refine ⟨runs, ⟨hindex, hw, hw', hh, hh', hruns, hcs, hcount⟩, hseen, ?_⟩
    obtain ⟨a, b, c, d, e, tl, rfl⟩ := exists_five_cons hlen.1
    have hn : u16At (a :: b :: c :: d :: e :: tl) 3 = u16At (d :: e :: tl) 0 := rfl
    have hfit : u16At (d :: e :: tl) 0 ≤ tl.length := by
      have := hlen.2
      rw [hn] at this
      simp only [List.length_cons] at this
      omega
    have hslice : tl.take (u16At (d :: e :: tl) 0) = runs.flatMap GlyphRun.bytes := by
      rw [← hbytes, hn]
      rfl
    have hbytesLen : (runs.flatMap GlyphRun.bytes).length = u16At (d :: e :: tl) 0 := by
      rw [← hslice, List.length_take, Nat.min_eq_left hfit]
    have hdrop : (a :: b :: c :: d :: e :: tl).drop (5 + u16At (d :: e :: tl) 0) = tl.drop (u16At (d :: e :: tl) 0) := by
      rw [← List.drop_drop]
      rfl
    rw [glyphBytes_append, hbytesLen, be16_u16At, hn, hdrop, ← hslice]
    simp [byteAt]
  · cases h

/-- A good record not seen before is read. -/
theorem readGlyph_complete {seen : List Nat} {g : Glyph} {runs : List GlyphRun} (hg : GlyphGood g runs)
    (hseen : g.index ∉ seen) (rest : List Byte) : readGlyph seen (glyphBytes g runs ++ rest) = some (g, rest) := by
  have hlt := hg.bytes_length_lt
  obtain ⟨hindex, hw, hw', hh, hh', hruns, hcodes, hcount⟩ := hg
  have h0 : byteAt (glyphBytes g runs ++ rest) 0 = g.index := by
    rw [glyphBytes_append]
    exact byteAt_ofNat (by omega) _
  have h1 : byteAt (glyphBytes g runs ++ rest) 1 = g.width := by
    rw [glyphBytes_append]
    exact (byteAt_drop (_ :: _) 1 0).symm.trans (byteAt_ofNat (by omega) _)
  have h2 : byteAt (glyphBytes g runs ++ rest) 2 = g.height := by
    rw [glyphBytes_append]
    exact (byteAt_drop (_ :: _) 2 0).symm.trans (byteAt_ofNat (by omega) _)
  have h3 : u16At (glyphBytes g runs ++ rest) 3 = (runs.flatMap GlyphRun.bytes).length := by
    rw [glyphBytes_append]
    exact (u16At_drop (_ :: _ :: _ :: _) 3 0).symm.trans (u16At_be16 hlt _)
  have hlen : (glyphBytes g runs ++ rest).length = 5 + (runs.flatMap GlyphRun.bytes).length + rest.length := by
    rw [glyphBytes_append]
    simp [be16]
    omega
  have hdrop : (glyphBytes g runs ++ rest).drop 5 = runs.flatMap GlyphRun.bytes ++ rest := by
    rw [glyphBytes_append]
    rfl
  have hslice : sliceOf (glyphBytes g runs ++ rest) 5 (runs.flatMap GlyphRun.bytes).length =
      runs.flatMap GlyphRun.bytes := by
    rw [sliceOf, hdrop, List.take_left]
  have hread : readRuns .head (runs.flatMap GlyphRun.bytes) = some g.codes :=
    (readRuns_head_iff _ _).mpr ⟨runs, hruns, rfl, hcodes⟩
  unfold readGlyph
  rw [h0, h1, h2, h3, hslice, hread, if_neg (by omega), if_neg (by simp only [not_or]; exact ⟨by omega, hseen, by omega, by omega, by omega, by omega⟩)]
  dsimp only
  rw [if_pos hcount, ← List.drop_drop, hdrop, List.drop_left]

/-- The record read is a good one not seen before, by its bytes. -/
theorem readGlyph_eq_some_iff (seen : List Nat) (bs : List Byte) (g : Glyph) (rest : List Byte) :
    readGlyph seen bs = some (g, rest) ↔ ∃ runs, GlyphGood g runs ∧ g.index ∉ seen ∧ bs = glyphBytes g runs ++ rest :=
  ⟨readGlyph_sound, fun ⟨_, hg, hseen, he⟩ => he ▸ readGlyph_complete hg hseen rest⟩

end Sys2Proof.Machine
end

section
/-! PROOF. The GLYPHS check (R89), and O22 put together. -/

namespace Sys2Proof.Machine

/-! ## Records one after another -/

/-- The bytes of glyph records. -/
def glyphsBytes (gs : List (Glyph × List GlyphRun)) : List Byte := gs.flatMap fun g => glyphBytes g.1 g.2

/-- Good records whose indices differ, from one another and from those seen. -/
def GlyphRecords (seen : List Nat) (gs : List (Glyph × List GlyphRun)) : Prop :=
  (∀ g ∈ gs, GlyphGood g.1 g.2) ∧ (gs.map fun g => g.1.index).Nodup ∧ ∀ n ∈ gs.map fun g => g.1.index, n ∉ seen

theorem glyphRecords_nil (seen : List Nat) : GlyphRecords seen [] := ⟨by simp, by simp, by simp⟩

theorem glyphRecords_cons_iff (seen : List Nat) (g : Glyph × List GlyphRun) (gs : List (Glyph × List GlyphRun)) :
    GlyphRecords seen (g :: gs) ↔ GlyphGood g.1 g.2 ∧ g.1.index ∉ seen ∧ GlyphRecords (g.1.index :: seen) gs := by
  rw [GlyphRecords, GlyphRecords, List.forall_mem_cons, List.map_cons, List.nodup_cons, List.forall_mem_cons]
  constructor
  · rintro ⟨⟨hg, hgs⟩, ⟨hno, hnd⟩, hns, hall⟩
    exact ⟨hg, hns, hgs, hnd, fun n hn => List.not_mem_cons_of_ne_of_not_mem (fun e => hno (e ▸ hn)) (hall n hn)⟩
  · rintro ⟨hg, hns, hgs, hnd, hall⟩
    exact ⟨⟨hg, hgs⟩, ⟨fun hn => List.ne_of_not_mem_cons (hall _ hn) rfl, hnd⟩, hns,
      fun n hn => List.not_mem_of_not_mem_cons (hall n hn)⟩

theorem glyphRecords_nil_seen_iff (gs : List (Glyph × List GlyphRun)) : GlyphRecords [] gs ↔
    (∀ g ∈ gs, GlyphGood g.1 g.2) ∧ (gs.map fun g => g.1.index).Nodup := by
  simp [GlyphRecords]

/-- The indices seen differ and are 31 at most, and the records still allowed make up 33 with them. -/
def SeenFits (fuel : Nat) (seen : List Nat) : Prop := seen.Nodup ∧ (∀ n ∈ seen, n ≤ 31) ∧ fuel + seen.length = 33

/-- Indices of 31 at most that differ are 32 at most, so one more record is always allowed. -/
theorem SeenFits.pos {fuel : Nat} {seen : List Nat} (h : SeenFits fuel seen) : 0 < fuel := by
  obtain ⟨hnd, hle, hlen⟩ := h
  have hsub : seen.toFinset ⊆ Finset.range 32 := fun n hn => by
    have := hle n (List.mem_toFinset.mp hn)
    exact Finset.mem_range.mpr (by omega)
  have hcard := Finset.card_le_card hsub
  rw [List.toFinset_card_of_nodup hnd, Finset.card_range] at hcard
  omega

theorem SeenFits.cons {fuel : Nat} {seen : List Nat} (h : SeenFits (fuel + 1) seen) {n : Nat} (hn : n ≤ 31)
    (hns : n ∉ seen) : SeenFits fuel (n :: seen) := by
  obtain ⟨hnd, hle, hlen⟩ := h
  exact ⟨List.nodup_cons.mpr ⟨hns, hnd⟩, List.forall_mem_cons.mpr ⟨hn, hle⟩, by rw [List.length_cons]; omega⟩

theorem readGlyphsFrom_nil (fuel : Nat) (seen : List Nat) (i : Nat) : readGlyphsFrom fuel seen i [] = .ok [] := by
  cases fuel <;> rfl

theorem readGlyphsFrom_of_none {bs : List Byte} (hne : bs ≠ []) {seen : List Nat} (h : readGlyph seen bs = none)
    (fuel i : Nat) : readGlyphsFrom (fuel + 1) seen i bs = .error i := by
  rw [readGlyphsFrom, if_neg hne, h]

theorem readGlyphsFrom_of_some {bs rest : List Byte} (hne : bs ≠ []) {seen : List Nat} {g : Glyph}
    (h : readGlyph seen bs = some (g, rest)) (fuel i : Nat) : readGlyphsFrom (fuel + 1) seen i bs =
      (readGlyphsFrom fuel (g.index :: seen) (i + 1) rest).map (g :: ·) := by
  rw [readGlyphsFrom, if_neg hne, h]
  dsimp only
  cases readGlyphsFrom fuel (g.index :: seen) (i + 1) rest <;> rfl

theorem glyphBytes_ne_nil (g : Glyph) (runs : List GlyphRun) (rest : List Byte) : glyphBytes g runs ++ rest ≠ [] := by
  rw [glyphBytes_append]
  exact List.cons_ne_nil _ _

theorem glyphsBytes_cons (g : Glyph × List GlyphRun) (gs : List (Glyph × List GlyphRun)) (rest : List Byte) :
    glyphsBytes (g :: gs) ++ rest = glyphBytes g.1 g.2 ++ (glyphsBytes gs ++ rest) := by
  simp [glyphsBytes]

/-- A good record in front is read, and the reading goes on behind it. -/
theorem readGlyphsFrom_cons {seen : List Nat} {g : Glyph} {runs : List GlyphRun} (hg : GlyphGood g runs)
    (hns : g.index ∉ seen) {fuel : Nat} (hs : SeenFits fuel seen) (i : Nat) (rest : List Byte) :
    ∃ fuel', SeenFits fuel' (g.index :: seen) ∧ readGlyphsFrom fuel seen i (glyphBytes g runs ++ rest) =
      (readGlyphsFrom fuel' (g.index :: seen) (i + 1) rest).map (g :: ·) := by
  obtain ⟨fuel', rfl⟩ := Nat.exists_eq_succ_of_ne_zero (Nat.ne_of_gt hs.pos)
  exact ⟨fuel', hs.cons hg.1 hns,
    readGlyphsFrom_of_some (glyphBytes_ne_nil g runs rest) (readGlyph_complete hg hns rest) fuel' i⟩

/-- The bytes of good records are read back. -/
theorem readGlyphsFrom_complete {seen : List Nat} {gs : List (Glyph × List GlyphRun)} (h : GlyphRecords seen gs)
    {fuel : Nat} (hs : SeenFits fuel seen) (i : Nat) :
    readGlyphsFrom fuel seen i (glyphsBytes gs) = .ok (gs.map Prod.fst) := by
  induction gs generalizing seen fuel i with
  | nil => exact readGlyphsFrom_nil fuel seen i
  | cons g gs ih =>
    obtain ⟨hg, hns, hgs⟩ := (glyphRecords_cons_iff seen g gs).mp h
    obtain ⟨fuel', hs', e⟩ := readGlyphsFrom_cons hg hns hs i (glyphsBytes gs)
    rw [glyphsBytes, List.flatMap_cons]
    exact e.trans (by rw [ih hgs hs']; rfl)

/-- Good records are read until one is not there, which is named by their number. -/
theorem readGlyphsFrom_stops {seen : List Nat} {gs : List (Glyph × List GlyphRun)} (h : GlyphRecords seen gs)
    {rest : List Byte} (hne : rest ≠ []) (hno : readGlyph ((gs.map fun g => g.1.index).reverse ++ seen) rest = none)
    {fuel : Nat} (hs : SeenFits fuel seen) (i : Nat) :
    readGlyphsFrom fuel seen i (glyphsBytes gs ++ rest) = .error (i + gs.length) := by
  induction gs generalizing seen fuel i with
  | nil =>
    obtain ⟨fuel', rfl⟩ := Nat.exists_eq_succ_of_ne_zero (Nat.ne_of_gt hs.pos)
    exact readGlyphsFrom_of_none hne hno fuel' i
  | cons g gs ih =>
    obtain ⟨hg, hns, hgs⟩ := (glyphRecords_cons_iff seen g gs).mp h
    obtain ⟨fuel', hs', e⟩ := readGlyphsFrom_cons hg hns hs i (glyphsBytes gs ++ rest)
    rw [List.map_cons, List.reverse_cons, List.append_assoc, List.singleton_append] at hno
    rw [glyphsBytes_cons, e, ih hgs hno hs', List.length_cons, Nat.add_assoc, Nat.add_comm 1]
    rfl

/-- Every content is good records, or good records and something else behind them. -/
theorem glyphRecords_cases (n : Nat) (seen : List Nat) (bs : List Byte) (hn : bs.length ≤ n) :
    (∃ gs, GlyphRecords seen gs ∧ bs = glyphsBytes gs) ∨
    ∃ gs rest, GlyphRecords seen gs ∧ bs = glyphsBytes gs ++ rest ∧ rest ≠ [] ∧
      readGlyph ((gs.map fun g => g.1.index).reverse ++ seen) rest = none := by
  induction n generalizing seen bs with
  | zero => exact Or.inl ⟨[], glyphRecords_nil seen, List.length_eq_zero_iff.mp (Nat.le_zero.mp hn)⟩
  | succ n ih =>
    by_cases hne : bs = []
    · exact Or.inl ⟨[], glyphRecords_nil seen, hne⟩
    · cases hread : readGlyph seen bs with
      | none => exact Or.inr ⟨[], bs, glyphRecords_nil seen, rfl, hne, hread⟩
      | some x =>
        obtain ⟨runs, hg, hns, rfl⟩ := readGlyph_sound (g := x.1) (rest := x.2) hread
        have hlen : x.2.length ≤ n := by
          rw [glyphBytes_append, List.length_cons, List.length_cons, List.length_cons, List.length_append,
            List.length_append] at hn
          omega
        obtain ⟨gs, hgs, he⟩ | ⟨gs, rest, hgs, he, hne', hno⟩ := ih (x.1.index :: seen) x.2 hlen
        · refine Or.inl ⟨(x.1, runs) :: gs, (glyphRecords_cons_iff seen _ gs).mpr ⟨hg, hns, hgs⟩, ?_⟩
          rw [glyphsBytes, List.flatMap_cons, he, glyphsBytes]
        · refine Or.inr ⟨(x.1, runs) :: gs, rest, (glyphRecords_cons_iff seen _ gs).mpr ⟨hg, hns, hgs⟩, ?_, hne', ?_⟩
          · rw [glyphsBytes_cons, he]
          · rwa [List.map_cons, List.reverse_cons, List.append_assoc, List.singleton_append]

/-! ## The GLYPHS check -/

theorem seenFits_nil : SeenFits 33 [] := ⟨List.nodup_nil, by simp, rfl⟩

theorem readGlyphs_bytes {gs : List (Glyph × List GlyphRun)} (h : GlyphRecords [] gs) :
    readGlyphs (glyphsBytes gs) = .ok (gs.map Prod.fst) := readGlyphsFrom_complete h seenFits_nil 0

theorem readGlyphs_stops {gs : List (Glyph × List GlyphRun)} (h : GlyphRecords [] gs) {rest : List Byte}
    (hne : rest ≠ []) (hno : readGlyph ((gs.map fun g => g.1.index).reverse ++ []) rest = none) :
    readGlyphs (glyphsBytes gs ++ rest) = .error gs.length := by
  have := readGlyphsFrom_stops h hne hno seenFits_nil 0
  rwa [Nat.zero_add] at this

theorem readGlyph_eq_none_iff (seen : List Nat) (bs : List Byte) : readGlyph seen bs = none ↔
    ¬∃ g runs rest, GlyphGood g runs ∧ g.index ∉ seen ∧ bs = glyphBytes g runs ++ rest := by
  simp only [Option.eq_none_iff_forall_ne_some, Prod.forall, ne_eq, readGlyph_eq_some_iff, not_exists]
  exact ⟨fun h g runs rest => h g rest runs, fun h g rest runs => h g runs rest⟩

theorem contentCheck_glyphs_eq_none_iff (bs : List Byte) : contentCheck .glyphs bs = none ↔
    ∃ gs, GlyphRecords [] gs ∧ bs = glyphsBytes gs := by
  constructor
  · intro h
    obtain hgood | ⟨gs, rest, hgs, rfl, hne, hno⟩ := glyphRecords_cases bs.length [] bs le_rfl
    · exact hgood
    · rw [contentCheck, readGlyphs_stops hgs hne hno] at h
      cases h
  · rintro ⟨gs, hgs, rfl⟩
    rw [contentCheck, readGlyphs_bytes hgs]

theorem contentCheck_glyphs_eq_some_iff (bs : List Byte) (i : Nat) : contentCheck .glyphs bs = some i ↔
    ∃ gs rest, GlyphRecords [] gs ∧ bs = glyphsBytes gs ++ rest ∧ gs.length = i ∧ rest ≠ [] ∧
      readGlyph ((gs.map fun g => g.1.index).reverse ++ []) rest = none := by
  constructor
  · intro h
    obtain ⟨gs, hgs, rfl⟩ | ⟨gs, rest, hgs, rfl, hne, hno⟩ := glyphRecords_cases bs.length [] bs le_rfl
    · rw [contentCheck, readGlyphs_bytes hgs] at h
      cases h
    · rw [contentCheck, readGlyphs_stops hgs hne hno] at h
      exact ⟨gs, rest, hgs, rfl, Option.some.inj h, hne, hno⟩
  · rintro ⟨gs, rest, hgs, rfl, rfl, hne, hno⟩
    rw [contentCheck, readGlyphs_stops hgs hne hno]

/-! ## O22 -/

theorem contentCheck_bands_eq_none_iff (bs : List Byte) :
    contentCheck .bands bs = none ↔ ∃ t : BandTable, t.good ∧ bs = t.bytes := by
  simp only [← readBands_eq_ok_iff, contentCheck]
  cases readBands bs <;> simp

theorem contentCheck_bands_eq_some_iff (bs : List Byte) (i : Nat) :
    contentCheck .bands bs = some i ↔ readBands bs = .error i := by
  rw [contentCheck]
  cases readBands bs <;> simp

/-- Settles O22, table by table. -/
theorem contentChecksAndTargetsFollowTheirRules : Obligations.ContentChecksAndTargetsFollowTheirRules := by
  refine ⟨fun bs => ⟨recordsCheck_checks (fun r _ => tileOk_iff r) bs, recordsCheck_checks (fun r _ => vertexOk_iff r) bs,
    fun _ => recordsCheck_checks (fun r _ => profileOk_iff r) bs, recordsCheck_checks (fun r _ => paletteOk_iff r) bs,
    recordsCheck_checks (fun r hr => (elementOk_iff r).trans (and_iff_right hr)) bs,
    fun _ => recordsCheck_checks (fun r _ => modeRulesOk_iff r) bs, elementOk_iff bs, windowsCheck_eq_none_iff bs,
    windowsCheck_eq_some_iff bs, (balanceCheck_spec bs).1, (balanceCheck_spec bs).2, contentCheck_bands_eq_none_iff bs,
    fun t ht he => he ▸ bandTableOf_bytes ht,
    fun i => (contentCheck_bands_eq_some_iff bs i).trans (readBands_eq_error_iff bs i), ?_, fun gs he hg hnd => ?_,
    fun i => ?_⟩, fun table slot camera => ⟨destOf_eq_none_iff table slot camera, fun d hd => destOf_some hd⟩⟩
  · rw [contentCheck_glyphs_eq_none_iff]
    simp only [glyphRecords_nil_seen_iff]
    exact exists_congr fun gs => and_comm
  · have h := readGlyphs_bytes ((glyphRecords_nil_seen_iff gs).mpr ⟨hg, hnd⟩)
    rw [he, glyphStoreOf]
    change readGlyphs (gs.flatMap fun g => glyphBytes g.1 g.2) = _ at h
    rw [h]
  · rw [contentCheck_glyphs_eq_some_iff]
    refine exists_congr fun gs => exists_congr fun rest => ?_
    rw [glyphRecords_nil_seen_iff, readGlyph_eq_none_iff]
    simp only [List.append_nil, List.mem_reverse]
    constructor
    · rintro ⟨⟨hg, hnd⟩, hbs, hi, hne, hno⟩
      exact ⟨hbs, hg, hnd, hi, hne, hno⟩
    · rintro ⟨hbs, hg, hnd, hi, hne, hno⟩
      exact ⟨⟨hg, hnd⟩, hbs, hi, hne, hno⟩

end Sys2Proof.Machine
end

section
/-! SUPPORT. Bindings, bound slots and the layout store (R23, R29 to R32, R101, R102): what a binding, a write of a layout
table and a change of the mode leave, each said once. -/

namespace Sys2Proof.Machine

/-! ## Bindings (R101) -/

/-- A binding set, of any mode but STANDBY, is that mode's and no other's. -/
theorem Bindings.of_set (b : Bindings) {m : Mode} (hm : m ≠ .standby) (v : Option (Fin 4)) (n : Mode) :
    (b.set m v).of n = if n = m then v else b.of n := by
  cases m with
  | standby => exact absurd rfl hm
  | panorama => cases n <;> rfl
  | turn => cases n <;> rfl
  | lift => cases n <;> rfl
  | kerb => cases n <;> rfl

theorem Bindings.anySpecial_iff (b : Bindings) :
    b.anySpecial = true ↔ ∃ m, m.isSpecial = true ∧ (b.of m).isSome = true := by
  simp only [Bindings.anySpecial, Bool.or_eq_true]
  constructor
  · rintro ((h | h) | h)
    · exact ⟨.turn, rfl, h⟩
    · exact ⟨.lift, rfl, h⟩
    · exact ⟨.kerb, rfl, h⟩
  · rintro ⟨m, hm, h⟩
    cases m with
    | standby => cases hm
    | panorama => cases hm
    | turn => exact Or.inl (Or.inl h)
    | lift => exact Or.inl (Or.inr h)
    | kerb => exact Or.inr h

/-- The modes a BIND-MODE can name (R102). -/
theorem bindableMode_ne_standby {n : Nat} {m : Mode} (h : bindableMode n = some m) : m ≠ .standby := by
  rintro rfl
  unfold bindableMode at h
  split at h
  · cases h
  · rename_i hne _
    exact hne (Option.some.inj h)
  · cases h

variable (s : State)

/-- A slot is bound where some mode's binding is it (R30). -/
theorem State.isBound_iff (i : Fin 4) : s.isBound i = true ↔ ∃ m, s.modes.bind.of m = some i := by
  simp only [State.isBound, Bool.or_eq_true, decide_eq_true_eq]
  constructor
  · rintro (((h | h) | h) | h)
    · exact ⟨.panorama, h⟩
    · exact ⟨.turn, h⟩
    · exact ⟨.lift, h⟩
    · exact ⟨.kerb, h⟩
  · rintro ⟨m, h⟩
    cases m with
    | standby => cases h
    | panorama => exact Or.inl (Or.inl (Or.inl h))
    | turn => exact Or.inl (Or.inl (Or.inr h))
    | lift => exact Or.inl (Or.inr h)
    | kerb => exact Or.inr h

theorem State.slotGuarded_iff (i : Fin 4) :
    s.slotGuarded i = true ↔ s.isBound i = true ∨ s.layouts.inUse = some i := by
  simp [State.slotGuarded]

/-- A binding asked for is refused, and changes nothing, or is set; the tests of an accepted one have passed (R102). -/
theorem State.bind_cases (mode slot : Byte) : (s.bind mode slot).2 = s ∨ ∃ m i, m ≠ .standby ∧
    s.bindRefusal m i = none ∧ (s.bind mode slot).2 = { s with modes.bind := s.modes.bind.set m i } := by
  unfold State.bind
  split
  · rename_i m i hm _
    split
    · exact Or.inl rfl
    · rename_i hr
      exact Or.inr ⟨m, i, bindableMode_ne_standby hm, hr, rfl⟩
  · exact Or.inl rfl

/-- A slot that may be bound is VALID, and for a special mode PANORAMA is bound (R102). -/
theorem State.bindRefusal_some_eq_none_iff (m : Mode) (i : Fin 4) : s.bindRefusal m (some i) = none ↔
    (s.layouts.slots.get i).condition = .valid ∧ (m.isSpecial = true → s.modes.bind.panorama.isSome = true) := by
  unfold State.bindRefusal
  dsimp only
  split
  · rename_i hv
    simp [hv]
  · rename_i hv
    rw [not_not] at hv
    split
    · rename_i hp
      simp [hp]
    · rename_i hp
      simpa [hv, Option.isSome_iff_ne_none] using hp

/-- The binding that may be withdrawn (R102). -/
theorem State.bindRefusal_none_eq_none_iff (m : Mode) : s.bindRefusal m none = none ↔
    (m = .panorama → ¬(s.modes.bind.anySpecial = true ∨ s.modes.mode.isSpecial = true)) := by
  simp [State.bindRefusal]

/-! ## A layout table written (R23, R32) -/

/-- The slot `l` with a layout table in its place. -/
def LayoutSlot.withTable (l : LayoutSlot) (d : TableLoad) : LayoutSlot :=
  if d.table = .tileMap then { l with tileMap := some d.content } else { l with grids := l.grids.set d.cam (some d.content) }

/-- A layout table is written into the slot it names, and no other. -/
theorem State.writeLayout_of_isLayout {d : TableLoad} (h : d.table.isLayout = true) : s.writeLayout d =
    { s with layouts.slots := s.layouts.slots.set d.slot ((s.layouts.slots.get d.slot).withTable d) } := by
  unfold State.writeLayout LayoutSlot.withTable
  cases ht : d.table <;> simp [ht, Table.isLayout, State.setLayout] at h ⊢

/-- A slot other than the one written stands. -/
theorem State.writeLayout_get_ne {d : TableLoad} {i : Fin 4} (h : i ≠ d.slot) :
    (s.writeLayout d).layouts.slots.get i = s.layouts.slots.get i := by
  unfold State.writeLayout
  split
  · exact Quad.get_set_ne _ _ _ _ h
  · exact Quad.get_set_ne _ _ _ _ h
  · rfl

/-- The tests of a LOAD-END that passes (R164, R32). -/
theorem State.loadVerdict_eq_passes_iff : s.loadVerdict = .passes ↔
    s.mgmt.load.total ≤ s.mgmt.load.dest.content.length ∧ crc32 s.mgmt.load.dest.content = s.mgmt.load.crc ∧
      contentCheck s.mgmt.load.dest.table s.mgmt.load.dest.content = none ∧
      (s.mgmt.load.dest.table.isLayout = true → s.slotGuarded s.mgmt.load.dest.slot = false) := by
  unfold State.loadVerdict
  dsimp only
  split
  · rename_i hshort
    simp [Nat.not_le.mpr hshort]
  · rename_i hlen
    split
    · rename_i hcrc
      simp [hcrc]
    · rename_i hcrc
      split
      · rename_i i hbad
        simp [hbad]
      · rename_i hgood
        simp [hgood, Nat.not_lt.mp hlen, not_not.mp hcrc]

/-- The checks of a layout entry of the boot image that is written: its slot is neither bound nor in use (R174). -/
theorem State.entryVerdict_layout {code slot camera : Byte} {data : List Byte} {d : TableLoad}
    (h : s.entryVerdict code slot camera data = .layout d) : s.slotGuarded d.slot = false := by
  unfold State.entryVerdict at h
  split at h
  · split at h <;> cases h
  · split at h
    · cases h
    · split at h
      · cases h
      · split at h
        · cases h
        · split at h
          · split at h
            · cases h
            · rename_i hg
              cases h
              exact Bool.eq_false_of_not_eq_true hg
          · cases h

/-! ## The current mode (R107 to R110, R114) -/

@[simp] theorem State.setMode_modes_mode (m : Mode) : (s.setMode m).modes.mode = m := by
  unfold State.setMode
  split
  · rename_i h
    exact h.symm
  · rfl

@[simp] theorem State.setMode_modes_bind (m : Mode) : (s.setMode m).modes.bind = s.modes.bind := by
  obtain ⟨md, d, st, e⟩ := s.setMode_frame m
  rw [e]

/-- The fall-back of a mode is a special one only where that one is bound (R107). -/
theorem fallBack_special {b : Bindings} {m : Mode} {rank : Nat} (h : (fallBack b m rank).1.isSpecial = true) :
    b.anySpecial = true := by
  unfold fallBack at h
  split at h
  · rename_i hb
    exact b.anySpecial_iff.mpr ⟨m, h, hb⟩
  · split at h <;> cases h

/-- A special mode is desired only where it is bound (R107). -/
theorem desiredMode_special {c : Causes} {override : Option Mode} {b : Bindings}
    (h : (desiredMode c override b).1.isSpecial = true) : b.anySpecial = true := by
  unfold desiredMode at h
  split at h
  · exact fallBack_special h
  · split at h
    · exact fallBack_special h
    · split at h
      · exact fallBack_special h
      · split at h <;> exact fallBack_special h

/-- A special mode is chosen only where one is current or desired (R109, R110). -/
theorem chosenMode_special {mode : Mode} {b : Bindings} {desired : Mode × Nat} {dwell setting : Nat}
    (h : (chosenMode mode b desired dwell setting).isSpecial = true) :
    mode.isSpecial = true ∨ desired.1.isSpecial = true := by
  unfold chosenMode at h
  split at h
  · rename_i hm
    exact Or.inl hm
  · exact Or.inr h

/-- A special mode after a turnover's choice was current before, or some special mode is bound (R107 to R110). -/
theorem State.choose_special (h : s.choose.modes.mode.isSpecial = true) :
    s.modes.mode.isSpecial = true ∨ s.modes.bind.anySpecial = true := by
  rw [State.choose, State.setMode_modes_mode] at h
  exact (chosenMode_special h).imp id desiredMode_special

/-- The mode that the reset hold keeps is special only where the current one is (R114). -/
theorem State.keepHeld_special (h : s.keepHeld.modes.mode.isSpecial = true) : s.modes.mode.isSpecial = true := by
  rw [State.keepHeld, State.setMode_modes_mode] at h
  split at h
  · cases h
  · exact h

theorem State.modeTurnover_bind : s.modeTurnover.modes.bind = s.modes.bind := by
  unfold State.modeTurnover
  dsimp only
  split
  · exact State.setMode_modes_bind _ _
  · split
    · rfl
    · exact State.setMode_modes_bind _ _

/-- A special mode after a turnover was current before, or some special mode is bound (R109, R110, R113, R114). -/
theorem State.modeTurnover_special (h : s.modeTurnover.modes.mode.isSpecial = true) :
    s.modes.mode.isSpecial = true ∨ s.modes.bind.anySpecial = true := by
  unfold State.modeTurnover at h
  dsimp only at h
  split at h
  · have hm := State.keepHeld_special _ h
    exact Or.inl hm
  · split at h
    · exact Or.inl h
    · have hm := State.choose_special _ h
      exact hm

/-- The in-use slot after a turnover is the one bound to the mode (R31, R111); the slots stand. -/
theorem State.modeTurnover_layouts : s.modeTurnover.layouts =
    { s.layouts with inUse := s.modes.bind.of s.modeTurnover.modes.mode } := by
  have hi : s.modeTurnover.layouts.inUse = s.modeTurnover.modes.bind.of s.modeTurnover.modes.mode := rfl
  rw [State.modeTurnover_bind] at hi
  obtain ⟨m, u, st, e⟩ := s.modeTurnover_frame
  rw [← hi, e]

theorem State.resetModeView_bind : s.resetModeView.modes.bind = s.modes.bind := State.setMode_modes_bind _ _

/-- The mode after a VIEW reset is special only where the current one is (R114). -/
theorem State.resetModeView_special (h : s.resetModeView.modes.mode.isSpecial = true) : s.modes.mode.isSpecial = true := by
  rw [State.resetModeView] at h
  dsimp only at h
  rw [State.setMode_modes_mode] at h
  split at h
  · exact h
  · split at h <;> cases h

/-! ## The mode controller and the layouts through a turnover and a FULL reset -/

/-- A turnover as the mode controller finds it: the rings, the tables due and boot have done their work. -/
def State.beforeModes (s : State) : State := (s.turnRings.applyTables s.dueTables).finishLoad.finishBootTable

theorem State.settled_eq_modeTurnover : s.settled = s.beforeModes.modeTurnover := rfl

/-- Of the mode controller the tables due change the Mode Rules alone (R103), and of the layout store nothing. -/
theorem State.beforeModes_frame : s.beforeModes.modes.bind = s.modes.bind ∧ s.beforeModes.modes.mode = s.modes.mode ∧
    s.beforeModes.layouts = s.layouts := by
  obtain ⟨ports, chans, bal, st, res, fil, e1⟩ := s.balanced_frame
  obtain ⟨r, ovl, band, res', fil', e2⟩ := s.balanced.otherTables_frame (dueContent s.dueTables .modeRules)
    (dueContent s.dueTables .bands) (dueContent s.dueTables .palette) (dueContent s.dueTables .glyphs)
    (dueContent s.dueTables .overlay)
  change s.turnRings.applyTables s.dueTables = _ at e2
  obtain ⟨l, res'', fil'', e3⟩ := (s.turnRings.applyTables s.dueTables).finishLoad_frame
  obtain ⟨more, b, e4, -⟩ := (s.turnRings.applyTables s.dueTables).finishLoad.finishBootTable_frame
  rw [State.beforeModes, e4, e3, e2, e1]
  exact ⟨rfl, rfl, rfl⟩

theorem State.rebuildHeader_frame : ∃ x m, s.rebuildHeader = { s with tx := x, mgmt := m } := by
  unfold State.rebuildHeader
  split <;> exact ⟨_, _, rfl⟩

/-- The layout store and the mode controller after a FULL reset (R37, R114, R168). -/
theorem State.fullReset_layouts_modes (k : Ticket) :
    (s.fullReset k).layouts = LayoutStore.powerOn ∧ (s.fullReset k).modes = ModeController.powerOn := by
  obtain ⟨g, lp, work, next, h0, h1, e, -⟩ := State.resetCompositor_frame { s.resetPorts with
    layouts := LayoutStore.powerOn, bal := BalanceUnit.powerOn, ovl := OverlayEngine.powerOn
    modes := ModeController.powerOn, mgmt := Management.powerOn }
  unfold State.fullReset
  obtain ⟨x, m, e'⟩ := State.rebuildHeader_frame
    { s.fullResetBlocks with mgmt.filled := [⟨k.tag, k.kind, .done, []⟩] }
  dsimp only
  rw [e', State.fullResetBlocks, e]
  exact ⟨rfl, rfl⟩

end Sys2Proof.Machine
end

section
/-! SUPPORT. The frame plan and the layouts under the commands of the compositor, the transmitter and the camera links: no
command but a turnover and a FULL reset reaches the plan (R38, R57). -/

namespace Sys2Proof.Machine

variable (s : State)

/-! ## The compositor's operations keep the plan -/

@[simp] theorem Compositor.setHalf_plan (c : Compositor) (b : Nat) (x : Half) : (c.setHalf b x).plan = c.plan := by
  rw [Compositor.setHalf_frame]

@[simp] theorem State.grant_plan : s.grant.comp.plan = s.comp.plan := by
  obtain ⟨g, lp, work, e, -⟩ := s.grant_frame
  rw [e]

@[simp] theorem State.startBand_plan (b : Nat) : (s.startBand b).comp.plan = s.comp.plan := by
  obtain ⟨g, lp, rest, e, -⟩ := s.startBand_frame b
  rw [e]
  exact Compositor.setHalf_plan _ _ _

@[simp] theorem State.tryStartBand_plan : s.tryStartBand.comp.plan = s.comp.plan := by
  obtain ⟨g, lp, work, next, h0, h1, e⟩ := s.tryStartBand_frame
  rw [e]

@[simp] theorem State.dropWork_plan : s.dropWork.comp.plan = s.comp.plan := by
  rw [State.dropWork_eq]

@[simp] theorem State.takeRead_plan (r : SourceRead) : (s.takeRead r).comp.plan = s.comp.plan := by
  unfold State.takeRead
  split <;> rfl

@[simp] theorem State.fillBand_plan (b : Nat) : (s.fillBand b).comp.plan = s.comp.plan := by
  simp [State.fillBand]

@[simp] theorem State.underrunBand_plan (b : Nat) : (s.underrunBand b).comp.plan = s.comp.plan := by
  obtain e | e := s.underrunBand_cases b <;> simp [e]

theorem State.sourceReadComplete_plan : s.sourceReadComplete.comp.plan = s.comp.plan := by
  unfold State.sourceReadComplete
  split
  · rw [State.grant_plan]
    split
    · exact s.takeRead_plan _
    · rfl
  · rfl
  · rfl

theorem State.bandCompletion_plan (b : Nat) : (s.bandCompletion b).comp.plan = s.comp.plan := by
  unfold State.bandCompletion
  split
  · rfl
  · split
    · rw [State.tryStartBand_plan]
      exact Compositor.setHalf_plan _ _ _
    · rfl

theorem State.bandStart_plan (b : Nat) : (s.bandStart b).comp.plan = s.comp.plan := by
  unfold State.bandStart
  dsimp only
  split
  · exact Compositor.setHalf_plan _ _ _
  · exact State.underrunBand_plan _ b
  · rfl
  · rfl
  · rfl

theorem State.bandEnd_plan (b : Nat) : (s.bandEnd b).comp.plan = s.comp.plan := by
  unfold State.bandEnd
  dsimp only
  split
  · rw [State.tryStartBand_plan]
    exact Compositor.setHalf_plan _ _ _
  · rw [State.tryStartBand_plan]
    exact Compositor.setHalf_plan _ _ _
  · rfl
  · rfl
  · rfl

theorem State.frameStart_plan : s.frameStart.comp.plan = s.comp.plan := by
  rw [State.frameStart, State.startBand_plan, State.dropWork_plan]
  rfl

/-! ## The commands of a camera link: the ports, the channels, DRAM and the management unit (R1 to R20) -/

theorem State.putPort_frame (p : Cam) (q : Port) : ∃ ports m, s.putPort p q = { s with ports := ports, mgmt := m } :=
  ⟨_, _, s.putPort_eq p q⟩

theorem State.restoreExposure_frame (p : Cam) : ∃ c m, s.restoreExposure p = { s with chans := c, mgmt := m } := by
  unfold State.restoreExposure
  split
  · obtain ⟨c, st, res, fil, e⟩ := s.handExposure_frame p _
    exact ⟨_, _, e⟩
  · exact ⟨_, _, rfl⟩

theorem State.validFrame_frame (p : Cam) (f : Flight) (attention : Bool) : ∃ ports c m,
    s.validFrame p f attention = { s with ports := ports, chans := c, mgmt := m } := by
  unfold State.validFrame
  dsimp only
  have ha : ∀ b : Bool, ∃ ports c m, (if b then (s.setPort p ((s.port p).storeValid f attention)).askAttention p
      else s.setPort p ((s.port p).storeValid f attention)) = { s with ports := ports, chans := c, mgmt := m } := by
    intro b
    split
    · obtain ⟨c, st, res, fil, e⟩ := (s.setPort p ((s.port p).storeValid f attention)).askAttention_frame p
      exact ⟨_, _, _, e⟩
    · exact ⟨_, _, _, rfl⟩
  obtain ⟨ports, c, m, e⟩ := ha (attention && (profileStatus ((s.port p).storeValid f attention).profile).isSome)
  rw [e, State.putPort_eq]
  split
  · obtain ⟨c', m', e'⟩ := State.restoreExposure_frame _ p
    exact ⟨_, c', m', e'⟩
  · exact ⟨_, _, _, rfl⟩

theorem State.frameEndMark_frame (p : Cam) (n : Nat) (attention : Bool) : ∃ ports c m,
    s.frameEndMark p n attention = { s with ports := ports, chans := c, mgmt := m } := by
  unfold State.frameEndMark
  dsimp only
  split
  · split
    · exact ⟨_, _, _, rfl⟩
    · split
      · exact s.validFrame_frame p _ attention
      · exact ⟨_, _, _, rfl⟩
  · exact ⟨_, _, _, rfl⟩

theorem State.frameStartMark_frame (p : Cam) : ∃ ports, s.frameStartMark p = { s with ports := ports } := by
  unfold State.frameStartMark
  dsimp only
  split
  · split <;> exact ⟨_, rfl⟩
  · exact ⟨_, rfl⟩

theorem State.lockLost_frame (p : Cam) : ∃ ports c m,
    s.lockLost p = { s with ports := ports, chans := c, mgmt := m } := by
  unfold State.lockLost
  rw [State.putPort_eq]
  obtain ⟨c, m, e⟩ := State.channelLockLost_frame _ p
  exact ⟨_, c, m, e⟩

theorem State.stalenessExpiry_frame (p : Cam) : ∃ ports m,
    s.stalenessExpiry p = { s with ports := ports, mgmt := m } := by
  unfold State.stalenessExpiry
  split
  · exact s.putPort_frame p _
  · exact ⟨_, _, rfl⟩

theorem State.lineReceived_frame (p : Cam) (pixels : List (Byte × Byte)) : ∃ ports d work,
    s.lineReceived p pixels = { s with ports := ports, dram := d, comp := { s.comp with work := work } } := by
  unfold State.lineReceived
  split
  · obtain ⟨g, lp, work, e, -⟩ := (s.setPort p ((s.port p).receiveLine pixels)).grant_frame
    exact ⟨_, _, work, e⟩
  · exact ⟨_, _, _, rfl⟩

theorem State.finishWrite_frame (p : Cam) : ∃ ports d, s.finishWrite p = { s with ports := ports, dram := d } := by
  unfold State.finishWrite
  split <;> exact ⟨_, _, rfl⟩

theorem State.dramWriteComplete_frame : ∃ ports d work,
    s.dramWriteComplete = { s with ports := ports, dram := d, comp := { s.comp with work := work } } := by
  unfold State.dramWriteComplete
  split
  · rename_i p _
    obtain ⟨ports, d, e⟩ := s.finishWrite_frame p
    rw [e]
    obtain ⟨g, lp, work, e', -⟩ := State.grant_frame
      { s with ports := ports, dram := { d with granted := none } }
    exact ⟨_, _, work, e'⟩
  · exact ⟨_, _, _, rfl⟩
  · exact ⟨_, _, _, rfl⟩

end Sys2Proof.Machine
end

section
/-! PROOF. Every step keeps the modes consistent (O12; R30, R32, R101, R102, R114). -/

namespace Sys2Proof.Machine

variable {s t : State}

/-! ## What the property reads -/

/-- The bindings and the current mode, over the slots of the layout store: a bound slot is VALID, and PANORAMA is bound
whenever a special mode is bound or current (R30, R101). -/
def BindingsFit (b : Bindings) (mode : Mode) (slots : Quad LayoutSlot) : Prop :=
  (∀ m i, b.of m = some i → (slots.get i).condition = .valid) ∧
  (b.anySpecial = true ∨ mode.isSpecial = true → b.panorama.isSome = true)

theorem modesConsistent_iff (s : State) : ModesConsistent s ↔
    BindingsFit s.modes.bind s.modes.mode s.layouts.slots ∧
      (∀ i, s.layouts.inUse = some i → (s.layouts.slots.get i).condition = .valid) ∧
      s.comp.plan.slot = s.layouts.inUse := by
  simp only [ModesConsistent, BindingsFit]
  tauto

/-- What leaves the mode controller, the layout store and the plan alone keeps the modes consistent. -/
theorem ModesConsistent.of_same (h : ModesConsistent s) (hm : t.modes = s.modes) (hl : t.layouts = s.layouts)
    (hp : t.comp.plan = s.comp.plan) : ModesConsistent t := by
  unfold ModesConsistent
  rw [hm, hl, hp]
  exact h

/-- A mode that is special only where one was before, or where some special mode is bound, keeps the bindings fit. -/
theorem BindingsFit.changeMode {b : Bindings} {mode mode' : Mode} {slots : Quad LayoutSlot} (h : BindingsFit b mode slots)
    (hm : mode'.isSpecial = true → mode.isSpecial = true ∨ b.anySpecial = true) : BindingsFit b mode' slots :=
  ⟨h.1, fun hs => h.2 (hs.elim Or.inl fun hs => (hm hs).symm)⟩

/-! ## Bindings (R102) -/

/-- A binding that passes the tests of R102 keeps the bindings fit. -/
theorem BindingsFit.set (h : BindingsFit s.modes.bind s.modes.mode s.layouts.slots) {m : Mode} (hm : m ≠ .standby)
    {v : Option (Fin 4)} (hr : s.bindRefusal m v = none) :
    BindingsFit (s.modes.bind.set m v) s.modes.mode s.layouts.slots := by
  obtain ⟨hvalid, hpan⟩ := h
  have hset := s.modes.bind.of_set hm v
  have panorama : ∀ b : Bindings, b.panorama = b.of .panorama := fun _ => rfl
  constructor
  · intro n i hn
    rw [hset] at hn
    split at hn
    · rw [hn, s.bindRefusal_some_eq_none_iff] at hr
      exact hr.1
    · exact hvalid n i hn
  · intro hs
    rw [panorama, hset]
    split
    · rename_i hmp
      cases v with
      | some i => rfl
      | none =>
        refine absurd ?_ ((s.bindRefusal_none_eq_none_iff m).mp hr hmp.symm)
        refine hs.imp_left fun hs => ?_
        obtain ⟨n, hn, hb⟩ := (Bindings.anySpecial_iff _).mp hs
        rw [hset] at hb
        split at hb
        · cases hb
        · exact (Bindings.anySpecial_iff _).mpr ⟨n, hn, hb⟩
    · rw [← panorama]
      rcases hs with hs | hs
      · obtain ⟨n, hn, hb⟩ := (Bindings.anySpecial_iff _).mp hs
        rw [hset] at hb
        split at hb
        · rename_i hnm
          obtain ⟨i, rfl⟩ := Option.isSome_iff_exists.mp hb
          exact ((s.bindRefusal_some_eq_none_iff m i).mp hr).2 (hnm ▸ hn)
        · exact hpan (Or.inl ((Bindings.anySpecial_iff _).mpr ⟨n, hn, hb⟩))
      · exact hpan (Or.inr hs)

theorem ModesConsistent.bind (h : ModesConsistent s) (mode slot : Byte) : ModesConsistent (s.bind mode slot).2 := by
  obtain e | ⟨m, v, hm, hr, e⟩ := s.bind_cases mode slot
  · rw [e]
    exact h
  · rw [e, modesConsistent_iff]
    obtain ⟨hb, hu⟩ := (modesConsistent_iff s).mp h
    exact ⟨hb.set hm hr, hu⟩

/-! ## Layout tables (R32) -/

/-- A layout table written into a slot that is neither bound nor in use changes no slot that must be VALID. -/
theorem ModesConsistent.writeLayout (h : ModesConsistent s) {d : TableLoad} (hd : s.slotGuarded d.slot = false) :
    ModesConsistent (s.writeLayout d) := by
  obtain ⟨hbound, hused, hplan, hpan⟩ := h
  have hget : ∀ i, s.slotGuarded i = true → (s.writeLayout d).layouts.slots.get i = s.layouts.slots.get i := by
    intro i hi
    refine s.writeLayout_get_ne ?_
    rintro rfl
    rw [hi] at hd
    cases hd
  have hboundGet := fun m i (hm : s.modes.bind.of m = some i) =>
    hget i ((s.slotGuarded_iff i).mpr (Or.inl ((s.isBound_iff i).mpr ⟨m, hm⟩)))
  have husedGet := fun i (hi : s.layouts.inUse = some i) => hget i ((s.slotGuarded_iff i).mpr (Or.inr hi))
  obtain ⟨slots, e⟩ := s.writeLayout_frame d
  rw [e] at hboundGet husedGet ⊢
  refine ⟨fun m i hm => ?_, fun i hi => ?_, hplan, hpan⟩
  · rw [hboundGet m i hm]
    exact hbound m i hm
  · rw [husedGet i hi]
    exact hused i hi

/-! ## Requests (R160) -/

theorem ModesConsistent.serveLoadEnd (h : ModesConsistent s) (k : Ticket) : ModesConsistent (s.serveLoadEnd k) := by
  unfold State.serveLoadEnd
  split
  · exact h
  · split
    · exact h
    · exact h
    · exact h
    · exact h
    · rename_i hv
      split
      · rename_i hl
        obtain ⟨-, -, -, hg⟩ := s.loadVerdict_eq_passes_iff.mp hv
        exact ModesConsistent.writeLayout (s := s.closeLoad) h (hg hl)
      · exact h

/-- A FULL reset leaves the power-on values, whatever stood before (R168). -/
theorem modesConsistent_fullReset (s : State) (k : Ticket) : ModesConsistent (s.fullReset k) := by
  obtain ⟨hl, hm⟩ := s.fullReset_layouts_modes k
  obtain ⟨layouts, g, lp, work, next, h0, h1, bal, ovl, modes, veh, tx, mgmt, e⟩ := s.fullReset_frame k
  exact modesConsistent_reset.of_same hm hl (by rw [e]; rfl)

theorem ModesConsistent.resetModeView (h : ModesConsistent s) : ModesConsistent s.resetModeView := by
  obtain ⟨hb, hu⟩ := (modesConsistent_iff s).mp h
  have hfit := hb.changeMode fun hs => Or.inl (s.resetModeView_special hs)
  rw [← s.resetModeView_bind] at hfit
  rw [modesConsistent_iff]
  obtain ⟨m, st, e⟩ := s.resetModeView_frame
  rw [e] at hfit ⊢
  exact ⟨hfit, hu⟩

theorem ModesConsistent.putPort (h : ModesConsistent s) (p : Cam) (q : Port) : ModesConsistent (s.putPort p q) := by
  rw [State.putPort_eq]
  exact h

/-- The blocks' part of a VIEW reset beside the ports': the gains and the mode (R74, R114). -/
theorem ModesConsistent.resetViews (h : ModesConsistent s) : ModesConsistent s.resetBalanceView.resetModeView :=
  ModesConsistent.resetModeView (s := s.resetBalanceView) h

theorem ModesConsistent.viewReset (h : ModesConsistent s) (k : Ticket) : ModesConsistent (s.viewReset k) := by
  have hp : ModesConsistent (forCams State.viewResetPort s) :=
    forCams_induction State.viewResetPort (fun c _ hu => hu.putPort c _) s h
  have hr := hp.resetViews
  unfold State.viewReset State.viewResetBlocks
  generalize (forCams State.viewResetPort s).resetBalanceView.resetModeView = u at hr ⊢
  exact hr

theorem ModesConsistent.serveReset (h : ModesConsistent s) (k : Ticket) (w : Byte) :
    ModesConsistent (s.serveReset k w) := by
  unfold State.serveReset
  split
  · exact modesConsistent_fullReset s k
  · split
    · exact h.viewReset k
    · exact h

/-- A request at its owner: a LOAD-END reaches the slots, a BIND-MODE the bindings and a RESET the mode; no other request
reaches any of them. -/
theorem ModesConsistent.serveReq (h : ModesConsistent s) (k : Ticket) (q : Req) : ModesConsistent (s.serveReq k q) := by
  cases q with
  | loadBegin table slot camera total crc =>
    obtain ⟨m, e⟩ := s.serveLoadBegin_frame k table slot camera total crc
    rw [State.serveReq, e]; exact h
  | loadData segment data =>
    obtain ⟨m, e⟩ := s.serveLoadData_frame k segment data
    rw [State.serveReq, e]; exact h
  | loadEnd => exact h.serveLoadEnd k
  | loadAbort =>
    obtain ⟨m, e⟩ := s.serveLoadAbort_frame k
    rw [State.serveReq, e]; exact h
  | tableRead table slot camera offset length =>
    obtain ⟨m, e⟩ := s.serveTableRead_frame k table slot camera offset length
    rw [State.serveReq, e]; exact h
  | bindMode mode slot => exact h.bind mode slot
  | setView mode =>
    obtain ⟨m, o, e⟩ := s.serveSetView_frame k mode
    rw [State.serveReq, e]; exact h
  | releaseView => exact h
  | elementWrite index record =>
    obtain ⟨m, edits, e⟩ := s.serveElementWrite_frame k index record
    rw [State.serveReq, e]; exact h
  | elementClear index =>
    obtain ⟨m, edits, e⟩ := s.serveElementClear_frame k index
    rw [State.serveReq, e]; exact h
  | camXfer c d dir r n data =>
    obtain ⟨m, chans, e⟩ := s.serveCamXfer_frame k c d dir r n data
    rw [State.serveReq, e]; exact h
  | lineConfig l f p d r e o =>
    obtain ⟨m, v, he⟩ := s.serveLineConfig_frame k l f p d r e o
    rw [State.serveReq, he]; exact h
  | linesSet mask => exact h
  | linesClear mask => exact h
  | eventEnable mask => exact h
  | eventAck mask => exact h
  | storeWrite offset data =>
    obtain ⟨r, e⟩ | ⟨-, -, e⟩ := s.serveStoreWrite_cases k offset data
    · rw [State.serveReq, e]; exact h
    · rw [State.serveReq, e]; exact h
  | storeRead offset =>
    obtain ⟨r, e⟩ | e := s.serveStoreRead_cases k offset
    · rw [State.serveReq, e]; exact h
    · rw [State.serveReq, e]; exact h
  | reset w => exact h.serveReset k w

theorem ModesConsistent.serve (h : ModesConsistent s) (r : Request) : ModesConsistent (s.serve r) := by
  unfold State.serve
  split
  · exact h
  · exact h
  · exact h.serveReq _ _

/-! ## Boot (R174) -/

theorem ModesConsistent.continueBoot (h : ModesConsistent s) : ModesConsistent s.continueBoot := by
  obtain ⟨x, e⟩ := s.continueBoot_frame
  rw [e]
  exact h

theorem ModesConsistent.applyBindings (h : ModesConsistent s) (data : List Byte) :
    ModesConsistent (s.applyBindings data).2 :=
  (((h.bind _ _).bind _ _).bind _ _).bind _ _

theorem ModesConsistent.applyEntry (h : ModesConsistent s) (index : Nat) (code slot camera : Byte) (data : List Byte) :
    ModesConsistent (s.applyEntry index code slot camera data) := by
  unfold State.applyEntry
  split
  · exact ModesConsistent.continueBoot (s := s.setBoot _) h
  · have hb := h.applyBindings data
    dsimp only
    split
    · exact hb.continueBoot
    · exact ModesConsistent.continueBoot (s := (s.applyBindings data).2.setBoot _) hb
  · rename_i d hv
    exact (h.writeLayout (s.entryVerdict_layout hv)).continueBoot
  · exact h

theorem ModesConsistent.bootEntryRead (h : ModesConsistent s) (answered : Bool) :
    ModesConsistent (s.bootEntryRead answered) := by
  unfold State.bootEntryRead
  dsimp only
  have hl : ModesConsistent s.endLateWrites := by
    obtain ⟨x, n, e⟩ := s.endLateWrites_parts
    rw [e]
    exact h
  generalize s.endLateWrites = u at hl ⊢
  split
  · split
    · exact hl
    · exact ModesConsistent.applyEntry (s := u.popAccess.setBoot _) hl _ _ _ _ _
  · exact h

/-! ## The turnover (R31, R38, R109, R111) -/

/-- The plan goes through the in-use slot, which is the one bound to the mode; a special mode is chosen only where one was
current or is bound. -/
theorem ModesConsistent.turnoverWork (h : ModesConsistent s) : ModesConsistent s.turnoverWork := by
  obtain ⟨hb, hm, hl⟩ := s.beforeModes_frame
  have hfit : BindingsFit s.settled.modes.bind s.settled.modes.mode s.settled.layouts.slots := by
    have hs := ((modesConsistent_iff s).mp h).1
    rw [← hb, ← hm, ← hl] at hs
    rw [State.settled_eq_modeTurnover, State.modeTurnover_bind, State.modeTurnover_layouts]
    exact hs.changeMode s.beforeModes.modeTurnover_special
  have hused : ∀ i, s.settled.layouts.inUse = some i → (s.settled.layouts.slots.get i).condition = .valid := by
    intro i hi
    rw [State.settled_eq_modeTurnover, State.modeTurnover_layouts] at hi
    refine hfit.1 s.settled.modes.mode i ?_
    rw [State.settled_eq_modeTurnover, State.modeTurnover_bind]
    exact hi
  rw [State.turnoverWork_eq, modesConsistent_iff]
  exact ⟨hfit, hused, rfl⟩

/-! ## Every command -/

/-- Every command keeps the modes consistent. -/
theorem keptByCommands_modesConsistent : KeptByCommands ModesConsistent where
  pending _ _ h := h
  tick _ h := h
  loseRequest _ h := h
  pushRequest _ _ h _ _ := h
  serve _ r _ h _ _ := ModesConsistent.serve (s := State.popRequest _ _) h r
  powerOn s _ := by
    obtain ⟨mem, e, -⟩ := s.powerOnAgain_frame
    rw [e]
    exact modesConsistent_reset.of_same rfl rfl rfl
  lockGained _ p h := h.putPort p _
  lockLost s p h := by
    obtain ⟨ports, c, m, e⟩ := s.lockLost_frame p
    rw [e]; exact h
  frameStartMark s p h := by
    obtain ⟨ports, e⟩ := s.frameStartMark_frame p
    rw [e]; exact h
  lineReceived s p pixels h := by
    obtain ⟨ports, d, work, e⟩ := s.lineReceived_frame p pixels
    rw [e]; exact h
  frameEndMark s p n attention h := by
    obtain ⟨ports, c, m, e⟩ := s.frameEndMark_frame p n attention
    rw [e]; exact h
  stalenessExpiry s p h := by
    obtain ⟨ports, m, e⟩ := s.stalenessExpiry_frame p
    rw [e]; exact h
  dramWriteComplete s h := by
    obtain ⟨ports, d, work, e⟩ := s.dramWriteComplete_frame
    rw [e]; exact h
  sourceReadComplete s h := by
    obtain ⟨g, lp, c, e⟩ := s.sourceReadComplete_frame
    exact h.of_same (by rw [e]) (by rw [e]) s.sourceReadComplete_plan
  bandCompletion s b h := by
    obtain ⟨g, lp, c, e⟩ := s.bandCompletion_frame b
    exact h.of_same (by rw [e]) (by rw [e]) (s.bandCompletion_plan b)
  frameStart s h := by
    obtain ⟨g, lp, c, x, v, e⟩ := s.frameStart_frame
    exact h.of_same (by rw [e]) (by rw [e]) s.frameStart_plan
  bandStart s b h := by
    obtain ⟨g, lp, c, x, m, e⟩ := s.bandStart_frame b
    exact h.of_same (by rw [e]) (by rw [e]) (s.bandStart_plan b)
  bandEnd s b h := by
    obtain ⟨g, lp, c, x, e⟩ := s.bandEnd_frame b
    exact h.of_same (by rw [e]) (by rw [e]) (s.bandEnd_plan b)
  turnoverWork _ h := h.turnoverWork
  vehicleRecord s bs h := by
    obtain ⟨m, v, e⟩ := s.vehicleRecord_frame bs
    rw [e]; exact h
  staleExpiry s h := by
    obtain ⟨m, v, e⟩ := s.staleExpiry_frame
    rw [e]; exact h
  lostExpiry s h := by
    obtain ⟨m, v, e⟩ := s.lostExpiry_frame
    rw [e]; exact h
  rawChange s l level h := by
    obtain ⟨m, v, e⟩ := s.rawChange_frame l level
    rw [e]; exact h
  debounceExpiry s l h := by
    obtain ⟨m, v, e⟩ := s.debounceExpiry_frame l
    rw [e]; exact h
  loadTimerExpiry s h := by
    obtain ⟨m, e⟩ := s.loadTimerExpiry_frame
    rw [e]; exact h
  cameraAnswer s p accept h := by
    obtain ⟨c, m, e⟩ := s.cameraAnswer_frame p accept
    rw [e]; exact h
  readByte s p b h := by
    obtain ⟨c, m, e⟩ := s.readByte_frame p b
    rw [e]; exact h
  stepTimerExpiry s p h := by
    obtain ⟨c, m, e⟩ := s.stepTimerExpiry_frame p
    rw [e]; exact h
  stopMarkSent s p h := by
    obtain ⟨c, m, e⟩ := s.stopMarkSent_frame p
    rw [e]; exact h
  pageWriteComplete s h := by
    obtain ⟨m, x, n, e⟩ := s.pageWriteComplete_frame
    rw [e]; exact h
  writeTimerExpiry s h := by
    obtain ⟨m, x, e⟩ := s.writeTimerExpiry_frame
    rw [e]; exact h
  storeReadComplete s answered h := by
    obtain ⟨m, x, n, e⟩ := s.storeReadComplete_frame answered
    rw [e]; exact h
  bootWaitExpiry s h := by
    obtain ⟨x, e⟩ := s.bootWaitExpiry_frame
    rw [e]; exact h
  bootHeaderRead s answered h := by
    obtain ⟨x, n, e⟩ := s.bootHeaderRead_frame answered
    rw [e]; exact h
  bootEntryRead _ answered h := h.bootEntryRead answered

/-- Settles O12: every command keeps the modes consistent, so every step does. -/
theorem everyStepKeepsModesConsistent : Obligations.EveryStepKeepsModesConsistent :=
  keptByCommands_modesConsistent.step

end Sys2Proof.Machine
end

section
/-! PROOF. A LOAD-END whose content is whole and sound (O20; R32, R164). -/

namespace Sys2Proof.Machine

variable {s : State}

/-- A LOAD-END of a layout table that passes every test: the table is written and the load ends with its answer. -/
theorem State.serveLoadEnd_of_layout (k : Ticket) (hv : s.loadVerdict = .passes) (ho : s.mgmt.load.st = .opened)
    (hl : s.mgmt.load.dest.table.isLayout = true) :
    s.serveLoadEnd k = (s.closeLoad.writeLayout s.mgmt.load.dest).answer k .done := by
  simp [State.serveLoadEnd, ho, hv, hl]

/-- A LOAD-END of any other table that passes every test waits for the turnover, unanswered. -/
theorem State.serveLoadEnd_of_not_layout (k : Ticket) (hv : s.loadVerdict = .passes) (ho : s.mgmt.load.st = .opened)
    (hl : s.mgmt.load.dest.table.isLayout = false) : s.serveLoadEnd k =
      { s with mgmt := { s.mgmt with load := { s.mgmt.load with st := .applying, timer := .stopped, ticket := k } } } := by
  simp [State.serveLoadEnd, ho, hv, hl]

/-- A LOAD-END that is taken at once reaches the load context with a place reserved for it (R159, R160). -/
theorem exec_loadEnd (tag : Byte) (h : s.takesAtOnce) : exec (.loadEnd tag) s =
    .next (({ s with mgmt.reserved := s.mgmt.reserved + 1 } : State).serveLoadEnd ⟨tag, 0x03⟩) := by
  change Host.Outcome.next (s.submit (Req.loadEnd.toRequest tag)) = _
  rw [s.submit_takesAtOnce (Req.loadEnd.toRequest tag) h (Nat.zero_le 56), State.serve_of_parse _ _ .loadEnd rfl]
  rfl

/-- Settles O20, a layout table and any other table apart. -/
theorem loadEndWritesOrWaits : Obligations.LoadEndWritesOrWaits := by
  intro tag s hs ho htotal hcrc hcheck
  have hpass (hg : s.mgmt.load.dest.table.isLayout = true → s.slotGuarded s.mgmt.load.dest.slot = false) :
      ({ s with mgmt.reserved := s.mgmt.reserved + 1 } : State).loadVerdict = .passes :=
    (State.loadVerdict_eq_passes_iff _).mpr ⟨htotal, hcrc, hcheck, hg⟩
  rw [exec_loadEnd tag hs]
  refine ⟨fun hl hb hu => ⟨(s.layouts.slots.get s.mgmt.load.dest.slot).withTable s.mgmt.load.dest, ?_, fun ht => ?_,
    fun ht => ?_⟩, fun hl => ?_⟩
  · have hg : s.slotGuarded s.mgmt.load.dest.slot = false := by simp [State.slotGuarded, hb, hu]
    refine congrArg _ ((State.serveLoadEnd_of_layout _ (hpass fun _ => hg) ho hl).trans ?_)
    rw [State.writeLayout_of_isLayout _ hl]
    rfl
  · simp [LayoutSlot.withTable, ht]
  · simp [LayoutSlot.withTable, ht]
  · have hg : s.mgmt.load.dest.table.isLayout = true → s.slotGuarded s.mgmt.load.dest.slot = false := by simp [hl]
    exact congrArg _ (State.serveLoadEnd_of_not_layout _ (hpass hg) ho hl)

end Sys2Proof.Machine
end

section
/-! SUPPORT. The next band of the compositor and the arbiter's grant after it (R20, R53): which half, which work and which
fields each leaves. -/

namespace Sys2Proof.Machine

variable (s : State)

/-! ## A band that starts (R53) -/

theorem State.startBand_half (b m : Nat) :
    (s.startBand b).comp.half m = if m % 2 = b % 2 then ⟨.writing, b, []⟩ else s.comp.half m := by
  obtain ⟨g, lp, rest, e, -⟩ := s.startBand_frame b
  rw [e]
  exact s.comp.half_setHalf m b ⟨.writing, b, []⟩

theorem State.startBand_next (b : Nat) : (s.startBand b).comp.next = b + 1 := by
  obtain ⟨g, lp, rest, e, -⟩ := s.startBand_frame b
  rw [e]

theorem State.startBand_work (b : Nat) : ∃ w, (s.startBand b).comp.work = some w ∧ w.band = b := by
  obtain ⟨g, lp, rest, e, -⟩ := s.startBand_frame b
  exact ⟨_, by rw [e], rfl⟩

/-! ## The next band (R53) -/

variable {s}

theorem State.tryStartBand_starts (hw : s.comp.work = none) (hn : s.comp.next < 18)
    (hf : (s.comp.half s.comp.next).st = .free) : s.tryStartBand = s.startBand s.comp.next :=
  if_pos ⟨hw, hn, hf⟩

theorem State.tryStartBand_waits
    (h : s.comp.work ≠ none ∨ 18 ≤ s.comp.next ∨ (s.comp.half s.comp.next).st ≠ .free) : s.tryStartBand = s := by
  refine if_neg fun ⟨hw, hn, hf⟩ => ?_
  rcases h with h | h | h
  · exact h hw
  · omega
  · exact h hf

/-- The half of the other parity than the next band's stands. -/
theorem State.tryStartBand_half_other {m : Nat} (h : m % 2 ≠ s.comp.next % 2) :
    s.tryStartBand.comp.half m = s.comp.half m := by
  obtain ⟨-, e⟩ | ⟨-, -, -, e⟩ := s.tryStartBand_cases
  · rw [e]
  · rw [e, State.startBand_half, if_neg h]

/-! ## The grant (R20) -/

theorem State.grant_half (s : State) (m : Nat) : s.grant.comp.half m = s.comp.half m := by
  obtain ⟨g, lp, work, e, -⟩ := s.grant_frame
  rw [e]
  rfl

theorem State.grant_work_none (h : s.comp.work = none) : s.grant.comp.work = none := by
  obtain ⟨g, lp, work, e, hn, -⟩ := s.grant_frame
  rw [e]
  exact hn h

theorem State.grant_work_some {w : BandWork} (h : s.comp.work = some w) :
    ∃ rest, s.grant.comp.work = some { w with reads := rest } := by
  obtain ⟨g, lp, work, e, -, hs⟩ := s.grant_frame
  obtain ⟨rest, hr, -⟩ := hs w h
  exact ⟨rest, by rw [e]; exact hr⟩

/-- The next band, then a grant: the arbiter's own fields and the compositor's work, next band and halves move. -/
theorem State.tryStartBand_grant_frame (s : State) : ∃ g lp work next h0 h1,
    s.tryStartBand.grant = { s with
      dram := { s.dram with granted := g, lastPort := lp }
      comp := { s.comp with work := work, next := next, half0 := h0, half1 := h1 } } := by
  obtain ⟨g0, lp0, work0, next, h0, h1, e0⟩ := s.tryStartBand_frame
  obtain ⟨g, lp, work, e, -⟩ := s.tryStartBand.grant_frame
  exact ⟨g, lp, work, next, h0, h1, by rw [e, e0]⟩

end Sys2Proof.Machine
end

section
/-! PROOF. The ends of a band: its completion, its start and its end at the transmitter (O50, O51; R49, R50, R53 to
R55). -/

namespace Sys2Proof.Machine

variable {s : State}

/-! ## The lines of a band (R50) -/

theorem packLine_length (pix : Nat → Pix) : (packLine pix).length = 1024 := by simp [packLine]

theorem packLine_getD (pix : Nat → Pix) {x : Nat} (hx : x < 1024) (d : Sample) : (packLine pix).getD x d =
    if x % 2 = 0 then ⟨(pix x).y, ((pix x).cb + (pix (x + 1)).cb + 1) / 2⟩
    else ⟨(pix x).y, ((pix (x - 1)).cr + (pix x).cr + 1) / 2⟩ := by
  simp [packLine, List.getD_eq_getElem?_getD, hx]

section lines

variable (plan : Plan) (slots : Quad LayoutSlot) (palette : List Byte) (entries : List DrawEntry)
  (fetch : Cam → Nat → Nat) (b : Nat)

theorem bandLines_length : (bandLines plan slots palette entries fetch b).length = 32 := by simp [bandLines]

theorem length_of_mem_bandLines {l : List Sample} (h : l ∈ bandLines plan slots palette entries fetch b) :
    l.length = 1024 := by
  obtain ⟨r, -, rfl⟩ := List.mem_map.mp h
  exact packLine_length _

theorem bandLines_getD {r : Nat} (hr : r < 32) : (bandLines plan slots palette entries fetch b).getD r [] =
    packLine fun x =>
      holdPixel (drawList palette entries x (32 * b + r) (compositorPixel plan slots palette fetch x (32 * b + r))) := by
  simp [bandLines, List.getD_eq_getElem?_getD, hr]

end lines

/-! ## Completion of a band (R53) -/

/-- The part once band `b` is written into its half, before the next band starts. -/
def State.bandWritten (s : State) (w : BandWork) (b : Nat) : State :=
  { s with comp := { s.comp.setHalf b
      ⟨.complete, b, bandLines s.comp.plan s.layouts.slots s.ovl.palette s.ovl.drawList w.fetch b⟩ with work := none } }

theorem State.bandCompletion_eq {w : BandWork} {b : Nat} (hw : s.comp.work = some w) (hb : w.band = b)
    (hc : w.composed = true) (hs : (s.comp.half b).st = .writing) (hh : (s.comp.half b).band = b) :
    s.bandCompletion b = (s.bandWritten w b).tryStartBand := by
  simp [State.bandCompletion, State.bandWritten, hw, hb, hc, hs, hh]

theorem State.bandWritten_half (w : BandWork) (b m : Nat) : (s.bandWritten w b).comp.half m =
    if m % 2 = b % 2 then
      ⟨.complete, b, bandLines s.comp.plan s.layouts.slots s.ovl.palette s.ovl.drawList w.fetch b⟩
    else s.comp.half m :=
  s.comp.half_setHalf m b _

theorem State.bandWritten_next (w : BandWork) (b : Nat) : (s.bandWritten w b).comp.next = s.comp.next := by
  unfold State.bandWritten
  rw [Compositor.setHalf_frame]

theorem State.bandWritten_tryStartBand_seam (w : BandWork) (b : Nat) :
    (s.bandWritten w b).tryStartBand.comp.seam = s.comp.seam := by
  obtain ⟨g, lp, work, next, h0, h1, e⟩ := (s.bandWritten w b).tryStartBand_frame
  rw [e]
  unfold State.bandWritten
  rw [Compositor.setHalf_frame]

/-- Settles O50: the band is written into its half (`State.bandWritten`); the next band starts in the half of the other
parity or waits for it. -/
theorem bandCompletionFillsItsHalf : Obligations.BandCompletionFillsItsHalf := by
  intro b s w hw hb hc hn hs hh
  have he := State.bandCompletion_eq hw hb hc hs hh
  have hnext : (s.bandWritten w b).comp.next = b.val + 1 := (State.bandWritten_next w b).trans hn
  have hother : (s.bandWritten w b).comp.half (b.val + 1) = s.comp.half (b.val + 1) := by
    rw [State.bandWritten_half, if_neg (by omega)]
  have hhalf : (s.bandCompletion b).comp.half b =
      ⟨.complete, b, bandLines s.comp.plan s.layouts.slots s.ovl.palette s.ovl.drawList w.fetch b⟩ := by
    rw [he, State.tryStartBand_half_other (by omega), State.bandWritten_half, if_pos rfl]
  have hseam : (s.bandCompletion b).comp.seam = s.comp.seam := by rw [he, State.bandWritten_tryStartBand_seam]
  have hplan := s.bandCompletion_plan b
  refine ⟨s.bandCompletion b, rfl, by rw [hhalf], by rw [hhalf], ?_, ?_, ?_, fun hlt hfree => ?_, fun hwait => ?_, hplan,
    hseam, ?_⟩
  · rw [hhalf]
    exact bandLines_length _ _ _ _ _ _
  · rw [hhalf]
    exact fun l hl => length_of_mem_bandLines _ _ _ _ _ _ hl
  · intro r hr x hx pix hpix
    rw [hhalf, bandLines_getD _ _ _ _ _ _ hr, ← funext hpix, packLine_getD pix hx]
    split
    · exact ⟨rfl, rfl⟩
    · exact ⟨rfl, rfl⟩
  · have hstart : s.bandCompletion b = (s.bandWritten w b).startBand (b.val + 1) := by
      rw [he, State.tryStartBand_starts rfl (by omega) (by rw [hnext, hother]; exact hfree), hnext]
    rw [hstart, State.startBand_half, if_pos rfl]
    exact ⟨rfl, rfl, State.startBand_next _ _, State.startBand_work _ _⟩
  · have hstill : s.bandCompletion b = s.bandWritten w b := by
      rw [he, State.tryStartBand_waits]
      rw [hnext, hother]
      exact Or.inr (hwait.imp (by omega) id)
    rw [hstill]
    exact ⟨rfl, hother⟩
  · obtain ⟨g, lp, c, e⟩ := s.bandCompletion_frame b
    rw [e]
    exact ⟨rfl, rfl, rfl, rfl, rfl, rfl, rfl, rfl, rfl, rfl, rfl⟩

/-! ## Band start at a COMPLETE half (R54) -/

theorem State.bandStart_of_complete {b : Nat} (h : (s.comp.half b).st = .complete) : s.bandStart b = { s with
    tx.phase := .inBand b, comp := s.comp.setHalf b { s.comp.half b with st := .sending } } := by
  simp [State.bandStart, h]

/-! ## Underrun (R54, R55) -/

theorem Dram.unwantRead_mem (d : Dram) : d.unwantRead.mem = d.mem := by rw [Dram.unwantRead_frame]

/-- The part once band `b` has underrun, before the next band starts. -/
def State.underrun (s : State) (b : Nat) : State :=
  { s with
    dram := s.dram.unwantRead
    comp := { s.comp.setHalf b ⟨.fill, b, []⟩ with work := none, incomplete := true }
    tx := { s.tx with phase := .inBand b, underrun := s.tx.underrun.note b }
    mgmt.status := s.mgmt.status ||| eventBit evUnderrun }

theorem State.bandStart_of_writing {w : BandWork} {b : Nat} (h : (s.comp.half b).st = .writing)
    (hw : s.comp.work = some w) (hb : w.band = b) : s.bandStart b = (s.underrun b).tryStartBand.grant := by
  have hset : ({ s.comp with work := none } : Compositor).setHalf b ⟨.fill, b, []⟩ =
      { s.comp.setHalf b ⟨.fill, b, []⟩ with work := none } := by
    unfold Compositor.setHalf
    split <;> rfl
  simp [State.bandStart, h, State.underrunBand, hw, hb, State.dropWork, hset, State.underrun, State.raise]

theorem State.underrun_half (b m : Nat) :
    (s.underrun b).comp.half m = if m % 2 = b % 2 then ⟨.fill, b, []⟩ else s.comp.half m :=
  s.comp.half_setHalf m b _

theorem State.underrun_comp (b : Nat) : ∃ h0 h1, (s.underrun b).comp =
    { s.comp with work := none, incomplete := true, half0 := h0, half1 := h1 } := by
  unfold State.underrun
  rw [Compositor.setHalf_frame]
  exact ⟨_, _, rfl⟩

theorem State.underrun_next (b : Nat) : (s.underrun b).comp.next = s.comp.next := by
  obtain ⟨h0, h1, e⟩ := s.underrun_comp b
  rw [e]

/-! ## Band end (R53) -/

/-- The part once the half of band `b` is freed, before a band that waits for it starts. -/
def State.bandSent (s : State) (b : Nat) : State :=
  { s with tx.phase := .afterBand b, comp := s.comp.setHalf b Half.empty }

theorem State.bandEnd_eq {b : Nat} (h : (s.comp.half b).st = .sending ∨ (s.comp.half b).st = .fill) :
    s.bandEnd b = (s.bandSent b).tryStartBand := by
  rcases h with h | h <;> simp [State.bandEnd, h, State.bandSent]

theorem State.bandSent_half (b m : Nat) :
    (s.bandSent b).comp.half m = if m % 2 = b % 2 then Half.empty else s.comp.half m :=
  s.comp.half_setHalf m b _

theorem State.bandSent_comp (b : Nat) : ∃ h0 h1, (s.bandSent b).comp = { s.comp with half0 := h0, half1 := h1 } :=
  ⟨_, _, s.comp.setHalf_frame b Half.empty⟩

/-- Settles O51: a COMPLETE half is sent as it stands; after an underrun (`State.underrun`) and after a band end
(`State.bandSent`) the next band starts where the half of its parity is FREE. -/
theorem bandStartAndEndMoveTheHalves : Obligations.BandStartAndEndMoveTheHalves := by
  refine ⟨fun b s => ⟨fun h => ⟨s.bandStart b, rfl, ?_⟩, fun w h hw hb hn => ⟨s.bandStart b, rfl, ?_⟩⟩,
    fun b s h => ⟨s.bandEnd b, rfl, ?_⟩⟩
  · have he := State.bandStart_of_complete h
    have hhalf (m : Nat) : (s.bandStart b).comp.half m =
        if m % 2 = b % 2 then { s.comp.half b.val with st := .sending } else s.comp.half m := by
      rw [he]
      exact s.comp.half_setHalf m b _
    refine ⟨by rw [hhalf, if_pos rfl], by rw [hhalf, if_neg (by omega)], ?_⟩
    rw [he]
    exact congrArg (fun c => ({ s with tx.phase := .inBand b, comp := c } : State)) (s.comp.setHalf_frame b _)
  · have he := State.bandStart_of_writing h hw hb
    have hnext : (s.underrun b).comp.next = b + 1 := (State.underrun_next _).trans hn
    have hother : (s.underrun b).comp.half (b + 1) = s.comp.half (b + 1) := by
      rw [State.underrun_half, if_neg (by omega)]
    have hfill : (s.bandStart b).comp.half b = ⟨.fill, b, []⟩ := by
      rw [he, State.grant_half, State.tryStartBand_half_other (by omega), State.underrun_half, if_pos rfl]
    refine ⟨by rw [hfill], ?_⟩
    obtain ⟨g, lp, work, next, h0, h1, e⟩ := (s.underrun b).tryStartBand_grant_frame
    have hframe := he.trans e
    refine ⟨by rw [hframe]; rfl, by rw [hframe]; rfl, by rw [hframe]; rfl, fun hlt hfree => ?_, fun hlast => ?_, ?_⟩
    · have hstart : (s.underrun b).tryStartBand = (s.underrun b).startBand (b + 1) := by
        rw [State.tryStartBand_starts rfl (by omega) (by rw [hnext, hother]; exact hfree), hnext]
      obtain ⟨w', hw', hb'⟩ := (s.underrun b).startBand_work (b + 1)
      obtain ⟨rest, hrest⟩ := State.grant_work_some hw'
      rw [he, hstart, State.grant_half, State.startBand_half, if_pos rfl]
      exact ⟨rfl, _, hrest, hb'⟩
    · rw [he, State.tryStartBand_waits (Or.inr (Or.inl (by omega)))]
      exact State.grant_work_none rfl
    · have hplan := s.bandStart_plan b
      refine ⟨hplan, ?_⟩
      obtain ⟨u0, u1, hu⟩ := s.underrun_comp b
      rw [hframe, hu]
      exact ⟨rfl, s.dram.unwantRead_mem, rfl, rfl, rfl, rfl, rfl, rfl, rfl, rfl, rfl⟩
  · have he := State.bandEnd_eq h
    obtain ⟨e0, e1, hcomp⟩ := s.bandSent_comp b
    have hhalf := s.bandSent_half b
    have hfreed : (s.bandSent b).comp.half b = ⟨.free, 0, []⟩ := by rw [hhalf, if_pos rfl, Half.empty]
    have hnext : (s.bandSent b).comp.next = s.comp.next := by rw [hcomp]
    have hwork : (s.bandSent b).comp.work = s.comp.work := by rw [hcomp]
    refine ⟨fun hwait => ?_, fun hw hn hp => ?_, ?_⟩
    · have hstill : s.bandEnd b = s.bandSent b := by
        rw [he, State.tryStartBand_waits]
        rw [hwork, hnext]
        refine hwait.imp id (Or.imp id fun ⟨hp, hbusy⟩ => ?_)
        rw [hhalf, if_neg hp]
        exact hbusy
      rw [hstill]
      exact ⟨hfreed, hwork, rfl⟩
    · have hstart : s.bandEnd b = (s.bandSent b).startBand s.comp.next := by
        rw [he, State.tryStartBand_starts (hwork.trans hw) (by omega), hnext]
        rw [hnext, hhalf, if_pos hp, Half.empty]
      rw [hstart, State.startBand_half, if_pos hp.symm]
      exact ⟨rfl, rfl, State.startBand_next _ _, State.startBand_work _ _⟩
    · obtain ⟨g, lp, work, next, h0, h1, e⟩ := (s.bandSent b).tryStartBand_frame
      have hframe := he.trans e
      rw [hframe, hcomp]
      exact ⟨rfl, rfl, rfl, rfl, rfl, rfl, rfl, rfl, rfl, rfl, rfl, rfl, rfl, rfl⟩

end Sys2Proof.Machine
end

section
/-! PROOF. A source read's end (O49; R20, R51, R54, R56): the bytes that reach the band, and the seam statistics of a band
that is composed, summed pixel by pixel. -/

namespace Sys2Proof.Machine

/-! ## The record of a pair of cameras (R51) -/

/-- The six pairs, each named by its lower and its upper camera. -/
theorem cam_pairs : ∀ lo hi : Cam, lo < hi →
    (lo = 0 ∧ hi = 1) ∨ (lo = 0 ∧ hi = 2) ∨ (lo = 0 ∧ hi = 3) ∨ (lo = 1 ∧ hi = 2) ∨ (lo = 1 ∧ hi = 3) ∨
      (lo = 2 ∧ hi = 3) := by
  decide

/-- A record put in place is read back under its own cameras, and no other record moves. -/
theorem Seam.get_set (s : Seam) {lo hi : Cam} (h : lo < hi) (r : PairRecord) (lo' hi' : Cam) :
    (s.set lo hi r).get lo' hi' = if lo' = lo ∧ hi' = hi then r else s.get lo' hi' := by
  obtain ⟨rfl, rfl⟩ | ⟨rfl, rfl⟩ | ⟨rfl, rfl⟩ | ⟨rfl, rfl⟩ | ⟨rfl, rfl⟩ | ⟨rfl, rfl⟩ := cam_pairs lo hi h <;>
    fin_cases lo' <;> fin_cases hi' <;> rfl

/-- A camera has no record with itself. -/
theorem Seam.set_self (s : Seam) (c : Cam) (r : PairRecord) : s.set c c r = s := by
  fin_cases c <;> rfl

/-- A seam pixel of cameras `p` and `q`, in either order, adds each camera's own sample and one to the count of their pair,
and nothing to another pair (R51, R62). -/
theorem Seam.pair_add (s : Seam) (f : Cam → Nat) {a b : Cam} (hab : a ≠ b) (p q : Cam) :
    (s.add p q (f p) (f q)).pair a b =
      if (p = a ∧ q = b) ∨ (p = b ∧ q = a) then ((s.pair a b).1 + f a, (s.pair a b).2.1 + f b, (s.pair a b).2.2 + 1)
      else s.pair a b := by
  unfold Seam.add
  rcases lt_trichotomy p q with hpq | rfl | hqp
  · rw [if_pos hpq]
    unfold Seam.pair
    rcases lt_or_gt_of_ne hab with h | h
    · simp only [if_pos h, Seam.get_set _ hpq]
      grind
    · simp only [if_neg (not_lt_of_gt h), Seam.get_set _ hpq]
      grind
  · have hno : ¬((p = a ∧ p = b) ∨ (p = b ∧ p = a)) := by grind
    rw [if_neg (lt_irrefl p), Seam.set_self, if_neg hno]
  · rw [if_neg (not_lt_of_gt hqp)]
    unfold Seam.pair
    rcases lt_or_gt_of_ne hab with h | h
    · simp only [if_pos h, Seam.get_set _ hqp]
      grind
    · simp only [if_neg (not_lt_of_gt h), Seam.get_set _ hqp]
      grind

/-! ## The seam statistics of a band (R51) -/

section seam

variable (plan : Plan) (slots : Quad LayoutSlot) (fetch : Cam → Nat → Nat)

variable {plan slots} in
/-- The composed seam pixels of two cameras (R51), tile by tile. -/
theorem seamBetween_iff {i : Fin 4} {t : Tile} {x y : Nat} (hs : plan.slot = some i)
    (ht : (slots.get i).tile x y = some t) (a b : Cam) : seamBetween plan slots a b x y = true ↔
      (tileTreatment plan.live (slots.get i) t x y = .composed ∧ 0 < secondaryWeight t (x % 32) (y % 32) ∧
        secondaryWeight t (x % 32) (y % 32) < 256) ∧
      ((t.primary = some a ∧ t.secondary = some b) ∨ (t.primary = some b ∧ t.secondary = some a)) := by
  simp [seamBetween, hs, ht, and_assoc]

/-- What an output pixel adds to the record of cameras `a` and `b`: their own samples and a count where it is a composed
seam pixel of the two, and nothing elsewhere. -/
theorem seamPixel_pair {a b : Cam} (hab : a ≠ b) (s : Seam) (x y : Nat) :
    (seamPixel plan slots fetch x y s).pair a b =
      if seamBetween plan slots a b x y then
        ((s.pair a b).1 + rawLuma plan slots fetch a x y, (s.pair a b).2.1 + rawLuma plan slots fetch b x y,
          (s.pair a b).2.2 + 1)
      else s.pair a b := by
  unfold seamPixel planLayout
  cases hs : plan.slot with
  | none => simp [seamBetween, hs]
  | some i =>
    have hraw (c : Cam) : rawLuma plan slots fetch c x y = (camSample plan (slots.get i) fetch c x y).s := by
      simp only [rawLuma, hs]
    simp only [Option.map_some, hraw]
    cases ht : (slots.get i).tile x y with
    | none => simp [seamBetween, hs, ht]
    | some t =>
      simp only [seamBetween_iff hs ht]
      split
      · rename_i p q hp hq
        simp only [hp, hq, Option.some.injEq]
        split
        · rename_i hc
          rw [Seam.pair_add s (fun c => (camSample plan (slots.get i) fetch c x y).s) hab p q]
          simp only [hc, true_and]
        · rename_i hc
          rw [if_neg fun h => hc h.1]
      · rename_i hno
        rw [if_neg]
        rintro ⟨-, ⟨hp, hq⟩ | ⟨hp, hq⟩⟩
        · exact hno _ _ hp hq
        · exact hno _ _ hp hq

end seam

/-- A figure to which every step adds its share grows by the sum of the shares. -/
theorem foldl_range_eq_add_sum {σ : Type} (g : σ → Nat) (step : σ → Nat → σ) (f : Nat → Nat)
    (h : ∀ s k, g (step s k) = g s + f k) (n : Nat) (s : σ) :
    g ((List.range n).foldl step s) = g s + ∑ k ∈ Finset.range n, f k := by
  induction n with
  | zero => simp
  | succ n ih =>
    rw [List.range_succ, List.foldl_append, List.foldl_cons, List.foldl_nil, h, ih, Finset.sum_range_succ, Nat.add_assoc]

/-- A figure of the statistics grows, over a band, by what its pixels add. -/
theorem bandSeam_eq_add_bandSum (plan : Plan) (slots : Quad LayoutSlot) (fetch : Cam → Nat → Nat) (g : Seam → Nat)
    (f : Nat → Nat → Nat) (h : ∀ s x y, g (seamPixel plan slots fetch x y s) = g s + f x y) (b : Nat) (s : Seam) :
    g (bandSeam plan slots fetch b s) = g s + bandSum b f := by
  unfold bandSeam bandPositions bandSum
  simp only [List.foldl_flatMap, List.foldl_map]
  refine foldl_range_eq_add_sum g _ _ (fun s r => ?_) 32 s
  exact foldl_range_eq_add_sum g _ _ (fun s x => h s x (32 * b + r)) 1024 s

/-- The record of two cameras after a band is composed (R51). -/
theorem bandSeam_pair (plan : Plan) (slots : Quad LayoutSlot) (fetch : Cam → Nat → Nat) {a b : Cam} (hab : a ≠ b)
    (band : Nat) (s : Seam) : (bandSeam plan slots fetch band s).pair a b =
      ((s.pair a b).1 + bandSum band (fun x y =>
          if seamBetween plan slots a b x y then rawLuma plan slots fetch a x y else 0),
        (s.pair a b).2.1 + bandSum band (fun x y =>
          if seamBetween plan slots a b x y then rawLuma plan slots fetch b x y else 0),
        (s.pair a b).2.2 + bandSum band (fun x y => if seamBetween plan slots a b x y then 1 else 0)) := by
  have hpixel := seamPixel_pair plan slots fetch hab
  refine Prod.ext ?_ (Prod.ext ?_ ?_)
  · refine bandSeam_eq_add_bandSum plan slots fetch (fun s => (s.pair a b).1) _ (fun s x y => ?_) band s
    rw [hpixel]
    split <;> rfl
  · refine bandSeam_eq_add_bandSum plan slots fetch (fun s => (s.pair a b).2.1) _ (fun s x y => ?_) band s
    rw [hpixel]
    split <;> rfl
  · refine bandSeam_eq_add_bandSum plan slots fetch (fun s => (s.pair a b).2.2) _ (fun s x y => ?_) band s
    rw [hpixel]
    split <;> rfl

/-! ## The end of a source read (R20, R54, R56) -/

variable {s : State}

/-- The part once a source read has ended and its bytes, where they are wanted, are taken in; DRAM is free again. -/
def State.readEnded (s : State) (r : SourceRead) (wanted : Bool) : State :=
  { (if wanted then s.takeRead r else s) with dram.granted := none }

theorem State.readEnded_unwanted (r : SourceRead) : s.readEnded r false = { s with dram.granted := none } := rfl

theorem State.readEnded_wanted (r : SourceRead) {w : BandWork} (hw : s.comp.work = some w) : s.readEnded r true = { s with
    dram.granted := none
    comp := { s.comp with
      work := some (w.receive r (s.readSource r))
      seam := if w.reads = [] then
          bandSeam s.comp.plan s.layouts.slots (w.receive r (s.readSource r)).fetch w.band s.comp.seam
        else s.comp.seam } } := by
  simp [State.readEnded, State.takeRead, hw, BandWork.receive]

theorem State.readEnded_frame (r : SourceRead) (wanted : Bool) : ∃ work seam, s.readEnded r wanted = { s with
    dram.granted := none, comp := { s.comp with work := work, seam := seam } } := by
  unfold State.readEnded
  split
  · unfold State.takeRead
    split <;> exact ⟨_, _, rfl⟩
  · exact ⟨_, _, rfl⟩

theorem State.sourceReadComplete_eq {r : SourceRead} {wanted : Bool} (h : s.dram.granted = some (.read r wanted)) :
    s.sourceReadComplete = (s.readEnded r wanted).grant := by
  simp only [State.sourceReadComplete, h]
  rfl

/-- What the band has of a camera's source slot once a read's bytes are taken in: at the read's own offsets, what DRAM
holds (R56). -/
theorem BandWork.read_receive {w : BandWork} {r : SourceRead} (hw : Memory.wf 0 (w.data.get r.cam)) {k : Nat}
    (hk : k < r.len) : Memory.read 0 ((w.receive r (s.readSource r)).data.get r.cam) (r.line * 2560 + r.first + k) =
      Memory.read dramDefault s.dram.mem ((3 * r.cam.val + r.slot.val) * 2048000 + r.line * 2560 + r.first + k) := by
  have hlen : k < (s.readSource r).length := by rw [State.readSource, Memory.readBytes_length]; exact hk
  simp only [BandWork.receive, Quad.get_set_self]
  exact (Memory.read_writeBytes_inside hw hlen _ 0).trans (Memory.readBytes_getD _ _ _ _ _ _ hk)

theorem BandWork.receive_data_ne {w : BandWork} {r : SourceRead} {c : Cam} (h : c ≠ r.cam) (bytes : List Byte) :
    (w.receive r bytes).data.get c = w.data.get c :=
  Quad.get_set_ne _ _ _ _ h

theorem BandWork.receive_composed (w : BandWork) (r : SourceRead) (bytes : List Byte) :
    (w.receive r bytes).composed = true ↔ w.reads = [] := by
  simp [BandWork.receive]

/-- Settles O49: the read is taken in or discarded (`State.readEnded`), and the grant that follows moves the arbiter's
fields and the reads that wait alone. -/
theorem sourceReadFeedsItsBand : Obligations.SourceReadFeedsItsBand := by
  intro r wanted s hm hg
  obtain ⟨g, lp, work, e, hnone, hsome⟩ := (s.readEnded r wanted).grant_frame
  have he := (State.sourceReadComplete_eq hg).trans e
  refine ⟨s.sourceReadComplete, rfl, ?_⟩
  rw [he]
  refine ⟨fun w hwanted hw => ?_, fun hwanted => ?_, ?_⟩
  · subst hwanted
    rw [State.readEnded_wanted r hw] at hsome ⊢
    obtain ⟨rest, hwork, -⟩ := hsome _ rfl
    have hread := fun k (hk : k < r.len) => BandWork.read_receive (s := s) (hm.band w hw r.cam) hk
    refine ⟨_, hwork, rfl, hread, fun c hc => BandWork.receive_data_ne hc _, (w.receive_composed r (s.readSource r)).mpr,
      fun hmore => if_neg hmore, fun hlast a b hab => ?_⟩
    simp only [if_pos hlast]
    exact bandSeam_pair _ _ _ hab _ _
  · subst hwanted
    rw [State.readEnded_unwanted] at hnone hsome ⊢
    refine ⟨rfl, fun hw => ?_, fun w hw => ?_⟩
    · simp only [hnone hw, ← hw]
    · obtain ⟨rest, hwork, -⟩ := hsome w hw
      exact ⟨_, hwork, rfl⟩
  · obtain ⟨work', seam, e'⟩ := s.readEnded_frame r wanted
    rw [e']
    exact ⟨rfl, rfl, rfl, rfl, rfl, rfl, rfl, rfl, rfl, rfl, rfl, rfl, rfl, rfl, rfl⟩

end Sys2Proof.Machine
end

section
/-! PROOF. What an output pixel is (O59; R39 to R48, R50): the model's composition against the rules' own formulas and byte
offsets. -/

namespace Sys2Proof.Machine

/-! ## The ramp (R39) -/

theorem rampWeight_before {o p : Int} (d : Nat) (h : p < o) : rampWeight o d p = 0 := by
  unfold rampWeight
  split_ifs <;> omega

theorem rampWeight_past {o p : Int} {d : Nat} (h : o + (d : Int) ≤ p) : rampWeight o d p = 256 := by
  unfold rampWeight
  split_ifs <;> omega

theorem rampWeight_inside {o p : Int} {d : Nat} (h : o ≤ p) (h' : p < o + (d : Int)) :
    rampWeight o d p = ((p - o).toNat * 256 + d / 2) / d := by
  unfold rampWeight
  rw [if_neg (by omega), if_neg (by omega), if_neg (by omega)]

/-- Inside a ramp of at most 255 pixels the rounded share stays below the whole. -/
theorem rampWeight_lt {o p : Int} {d : Nat} (hd : d ≤ 255) (h : p < o + (d : Int)) : rampWeight o d p < 256 := by
  rcases lt_or_ge p o with hp | hp
  · rw [rampWeight_before d hp]
    decide
  · rw [rampWeight_inside hp h, Nat.div_lt_iff_lt_mul (by omega)]
    omega

theorem rampWeight_le {o : Int} {d : Nat} (hd : d ≤ 255) (p : Int) : rampWeight o d p ≤ 256 := by
  rcases lt_or_ge p (o + (d : Int)) with hp | hp
  · exact (rampWeight_lt hd hp).le
  · exact (rampWeight_past hp).le

theorem rampWeight_mono {o p q : Int} {d : Nat} (hd : d ≤ 255) (h : p ≤ q) : rampWeight o d p ≤ rampWeight o d q := by
  rcases lt_or_ge q (o + (d : Int)) with hq | hq
  · rcases lt_or_ge p o with hp | hp
    · rw [rampWeight_before d hp]
      exact Nat.zero_le _
    · rw [rampWeight_inside hp (by omega), rampWeight_inside (by omega) hq]
      exact Nat.div_le_div_right (by omega)
  · rw [rampWeight_past hq]
    exact rampWeight_le hd p

/-- A ramp begins at weight 0. -/
theorem rampWeight_origin (o : Int) {d : Nat} (hd : 0 < d) : rampWeight o d o = 0 := by
  rw [rampWeight_inside le_rfl (by omega), Int.sub_self]
  exact Nat.div_eq_of_lt (by simp; omega)

theorem rampWeight_share {o p : Int} {d : Nat} (h : o ≤ p) (h' : p < o + (d : Int)) :
    (rampWeight o d p : Int) = ((p - o) * 256 + (d / 2 : Nat)) / d := by
  rw [rampWeight_inside h h']
  push_cast [Int.toNat_of_nonneg (Int.sub_nonneg.mpr h)]
  rfl

/-! ## The tile of an output pixel (R25, R26, R39) -/

theorem s16At_slice (bs : List Byte) {off size i : Nat} (h : i + 1 < size) :
    s16At ((bs.drop off).take size) i = s16At bs (off + i) := by
  rw [s16At, u16At_slice bs h]
  rfl

/-- A tile, from its own record (R25). -/
def tileOfRecord (rec : List Byte) : Tile :=
  ⟨index4 (byteAt rec 0), index4 (byteAt rec 1), decide (byteAt rec 2 = 1), s16At rec 4, byteAt rec 3⟩

theorem tileAt_eq_tileOfRecord (map : List Byte) (t : Nat) :
    tileAt map t = tileOfRecord ((map.drop (6 * t)).take 6) := by
  simp only [tileOfRecord, byteAt_slice map (show 0 < 6 by decide), byteAt_slice map (show 1 < 6 by decide),
    byteAt_slice map (show 2 < 6 by decide), byteAt_slice map (show 3 < 6 by decide),
    s16At_slice map (show 4 + 1 < 6 by decide)]
  rfl

section record

variable {rec : List Byte}

theorem tileOfRecord_primary_iff (rec : List Byte) (c : Cam) :
    (tileOfRecord rec).primary = some c ↔ byteAt rec 0 = c.val :=
  index4_eq_some_iff _ c

theorem tileOfRecord_secondary_iff (rec : List Byte) (c : Cam) :
    (tileOfRecord rec).secondary = some c ↔ byteAt rec 1 = c.val :=
  index4_eq_some_iff _ c

/-- A good record without a primary camera names none at all (R26). -/
theorem TileGood.of_no_primary (hg : TileGood rec) (h : (tileOfRecord rec).primary = none) :
    (tileOfRecord rec).secondary = none := by
  obtain ⟨h0, h1, -⟩ := hg
  have hp : 3 < byteAt rec 0 := (index4_eq_none_iff _).mp h
  have hs := h1 (by omega)
  exact (index4_eq_none_iff _).mpr (by omega)

/-- The secondary weight of a tile offset, from the tile's record (R39). -/
theorem TileGood.secondaryWeight_eq (hg : TileGood rec) (i j : Nat) : secondaryWeight (tileOfRecord rec) i j =
    if byteAt rec 1 = 0xFF then 0
    else rampWeight (s16At rec 4) (byteAt rec 3) ((if byteAt rec 2 = 1 then j else i : Nat) : Int) := by
  by_cases h : byteAt rec 1 = 0xFF
  · have hs : (tileOfRecord rec).secondary = none := (index4_eq_none_iff _).mpr (by omega)
    simp only [secondaryWeight, hs, if_pos h]
  · obtain ⟨-, -, h1⟩ := hg
    have hlt : byteAt rec 1 < 4 := by have := (h1 h).1; omega
    have hs : (tileOfRecord rec).secondary = some ⟨byteAt rec 1, hlt⟩ := (index4_eq_some_iff _ _).mpr rfl
    have hp : rampPosition (tileOfRecord rec) i j = (if byteAt rec 2 = 1 then j else i : Nat) := by
      simp [rampPosition, tileOfRecord]
    simp only [secondaryWeight, hs, if_neg h, hp]
    rfl

theorem mem_contributors_iff (t : Tile) (w : Nat) (c : Cam) : c ∈ contributors t w ↔
    (t.primary = some c ∧ w < 256) ∨ (t.primary ≠ none ∧ t.secondary = some c ∧ 0 < w) := by
  unfold contributors
  cases hp : t.primary with
  | none => simp
  | some p =>
    cases hs : t.secondary with
    | none => simp [eq_comm, and_comm]
    | some q => simp [eq_comm, and_comm]

/-- The contributing cameras, from the tile's record (R39). -/
theorem TileGood.mem_contributors_iff (hg : TileGood rec) (w : Nat) (c : Cam) : c ∈ contributors (tileOfRecord rec) w ↔
    (byteAt rec 0 = c.val ∧ w < 256) ∨ (byteAt rec 1 = c.val ∧ 0 < w) := by
  rw [Machine.mem_contributors_iff, tileOfRecord_primary_iff, tileOfRecord_secondary_iff]
  refine or_congr_right (and_iff_right_of_imp fun h hp => ?_)
  have hs := hg.of_no_primary hp
  rw [(tileOfRecord_secondary_iff rec c).mpr h.1] at hs
  cases hs

end record

/-! ## The treatment of a pixel (R40 to R42) -/

section treatment

variable {live : Quad Bool} {l : LayoutSlot} {t : Tile} {x y : Nat}

theorem tileTreatment_hatch {c : Cam} (hc : c ∈ contributors t (secondaryWeight t (x % 32) (y % 32)))
    (hl : live.get c = false) : tileTreatment live l t x y = .hatch := by
  unfold tileTreatment
  exact if_pos (List.any_eq_true.mpr ⟨c, hc, by simp [hl]⟩)

theorem tileTreatment_of_live (hl : ∀ c ∈ contributors t (secondaryWeight t (x % 32) (y % 32)), live.get c = true) :
    tileTreatment live l t x y =
      if t.primary = none ∨ ∃ c ∈ contributors t (secondaryWeight t (x % 32) (y % 32)), l.corners c (tileIndex x y) = none
      then .blank else .composed := by
  have hno : ¬((contributors t (secondaryWeight t (x % 32) (y % 32))).any fun c => !live.get c) = true := by
    simpa using hl
  unfold tileTreatment
  dsimp only
  rw [if_neg hno]
  simp only [Bool.or_eq_true, Option.isNone_iff_eq_none, List.any_eq_true]

end treatment

/-! ## The corners of a tile (R27, R43) -/

section corners

variable {grid : List Byte} {x y : Nat}

/-- The vertex at a corner of output pixel (x, y)'s tile. -/
def cornerVertex (grid : List Byte) (x y right down : Nat) : Nat × Nat :=
  (u16At grid (cornerByte x y right down), u16At grid (cornerByte x y right down + 2))

theorem vertexAt_corner (grid : List Byte) (x y right down : Nat) :
    vertexAt grid (33 * (y / 32 + down) + (x / 32 + right)) =
      if u16At grid (cornerByte x y right down) = 0xFFFF then none else some (cornerVertex grid x y right down) := rfl

theorem tileIndex_div (hx : x < 1024) (y : Nat) : tileIndex x y / 32 = y / 32 := by
  unfold tileIndex
  omega

theorem tileIndex_mod (hx : x < 1024) (y : Nat) : tileIndex x y % 32 = x / 32 := by
  unfold tileIndex
  omega

theorem cornerInvalid_iff (grid : List Byte) (x y : Nat) : CornerInvalid grid x y ↔
    u16At grid (cornerByte x y 0 0) = 0xFFFF ∨ u16At grid (cornerByte x y 1 0) = 0xFFFF ∨
      u16At grid (cornerByte x y 0 1) = 0xFFFF ∨ u16At grid (cornerByte x y 1 1) = 0xFFFF := by
  unfold CornerInvalid
  constructor
  · rintro ⟨right, hr, down, hd, h⟩
    obtain rfl | rfl : right = 0 ∨ right = 1 := by omega
    · obtain rfl | rfl : down = 0 ∨ down = 1 := by omega
      · exact Or.inl h
      · exact Or.inr (Or.inr (Or.inl h))
    · obtain rfl | rfl : down = 0 ∨ down = 1 := by omega
      · exact Or.inr (Or.inl h)
      · exact Or.inr (Or.inr (Or.inr h))
  · rintro (h | h | h | h)
    · exact ⟨0, by decide, 0, by decide, h⟩
    · exact ⟨1, by decide, 0, by decide, h⟩
    · exact ⟨0, by decide, 1, by decide, h⟩
    · exact ⟨1, by decide, 1, by decide, h⟩

theorem cornersOf_valid (hx : x < 1024) (h : ¬CornerInvalid grid x y) : cornersOf grid (tileIndex x y) =
    some ⟨cornerVertex grid x y 0 0, cornerVertex grid x y 1 0, cornerVertex grid x y 0 1, cornerVertex grid x y 1 1⟩ := by
  rw [cornerInvalid_iff, not_or, not_or, not_or] at h
  obtain ⟨h00, h10, h01, h11⟩ := h
  have v00 := (vertexAt_corner grid x y 0 0).trans (if_neg h00)
  have v10 := (vertexAt_corner grid x y 1 0).trans (if_neg h10)
  have v01 := (vertexAt_corner grid x y 0 1).trans (if_neg h01)
  have v11 := (vertexAt_corner grid x y 1 1).trans (if_neg h11)
  simp only [Nat.add_zero, ← Nat.add_assoc] at v00 v10 v01 v11
  simp only [cornersOf, tileIndex_div hx, tileIndex_mod hx, v00, v10, v01, v11]

theorem cornersOf_invalid (hx : x < 1024) (h : CornerInvalid grid x y) : cornersOf grid (tileIndex x y) = none := by
  have hv (right down : Nat) (h : u16At grid (cornerByte x y right down) = 0xFFFF) :=
    (vertexAt_corner grid x y right down).trans (if_pos h)
  rw [cornerInvalid_iff] at h
  rw [cornersOf, tileIndex_div hx, tileIndex_mod hx]
  split
  · rename_i v00 v10 v01 v11
    rcases h with h | h | h | h
    · cases (hv 0 0 h).symm.trans v00
    · cases (hv 1 0 h).symm.trans v10
    · cases (hv 0 1 h).symm.trans v01
    · cases (hv 1 1 h).symm.trans v11
  · rfl

end corners

/-! ## One camera's part of a pixel (R43 to R47) -/

section sample

variable {plan : Plan} {l : LayoutSlot} {c : Cam} {grid : List Byte} {x y : Nat}

/-- What a camera's sample gives a pixel: the gained luma and the two chroma samples. -/
def CamSample.pix (k : CamSample) : Pix := ⟨k.g, k.cb, k.cr⟩

theorem corners_of_grid (hg : l.grids.get c = some grid) (t : Nat) : l.corners c t = cornersOf grid t := by
  rw [LayoutSlot.corners, hg]
  rfl

/-- A camera whose tile has four valid corners gives its part by the formulas of R43 to R47. -/
theorem camSample_pix (hx : x < 1024) (hg : l.grids.get c = some grid) (h : ¬CornerInvalid grid x y)
    (fetch : Cam → Nat → Nat) :
    (camSample plan l fetch c x y).pix = cameraPart (plan.gain.get c) grid (fetch c) x y := by
  simp only [camSample, corners_of_grid hg, cornersOf_valid hx h]
  rfl

end sample

/-! ## The blend (R48) -/

theorem blend_zero (a b : Nat) : blend 0 a b = a := by
  unfold blend
  omega

theorem blend_full (a b : Nat) : blend 256 a b = b := by
  unfold blend
  omega

section blend

variable {plan : Plan} {l : LayoutSlot} {fetch : Cam → Nat → Nat} {t : Tile} {p q : Cam} {x y : Nat}

theorem composedPixel_primary (hp : t.primary = some p) (hw : secondaryWeight t (x % 32) (y % 32) = 0) :
    composedPixel plan l fetch t x y = (camSample plan l fetch p x y).pix := by
  have hmem : p ∈ contributors t 0 := (mem_contributors_iff t 0 p).mpr (Or.inl ⟨hp, by decide⟩)
  simp only [composedPixel, pixelSamples, hw, hp, if_pos hmem, blend_zero]
  rfl

theorem composedPixel_secondary (hp : t.primary ≠ none) (hq : t.secondary = some q)
    (hw : secondaryWeight t (x % 32) (y % 32) = 256) :
    composedPixel plan l fetch t x y = (camSample plan l fetch q x y).pix := by
  have hmem : q ∈ contributors t 256 := (mem_contributors_iff t 256 q).mpr (Or.inr ⟨hp, hq, by decide⟩)
  simp only [composedPixel, pixelSamples, hw, hq, if_pos hmem, blend_full]
  rfl

theorem composedPixel_blend {w : Nat} (hp : t.primary = some p) (hq : t.secondary = some q)
    (hw : secondaryWeight t (x % 32) (y % 32) = w) (h0 : 0 < w) (h1 : w < 256) : composedPixel plan l fetch t x y =
      ⟨blend w (camSample plan l fetch p x y).pix.y (camSample plan l fetch q x y).pix.y,
        blend w (camSample plan l fetch p x y).pix.cb (camSample plan l fetch q x y).pix.cb,
        blend w (camSample plan l fetch p x y).pix.cr (camSample plan l fetch q x y).pix.cr⟩ := by
  have hpm : p ∈ contributors t w := (mem_contributors_iff t w p).mpr (Or.inl ⟨hp, h1⟩)
  have hqm : q ∈ contributors t w := (mem_contributors_iff t w q).mpr (Or.inr ⟨by rw [hp]; exact nofun, hq, h0⟩)
  simp only [composedPixel, pixelSamples, hw, hp, hq, if_pos hpm, if_pos hqm]
  rfl

end blend

/-! ## A pixel as the compositor leaves it (R40) -/

section pixel

variable {plan : Plan} {slots : Quad LayoutSlot} {i : Fin 4} {t : Tile} {x y : Nat}

theorem compositorPixel_no_layout (h : plan.slot = none) (slots : Quad LayoutSlot) (palette : List Byte)
    (fetch : Cam → Nat → Nat) (x y : Nat) : compositorPixel plan slots palette fetch x y = Pix.black := by
  simp only [compositorPixel, treatment, planLayout, h]
  rfl

/-- In a layout with a tile map the tile's treatment says what the pixel is. -/
theorem compositorPixel_of_tile (hs : plan.slot = some i) (ht : (slots.get i).tile x y = some t) (palette : List Byte)
    (fetch : Cam → Nat → Nat) :
    (tileTreatment plan.live (slots.get i) t x y = .hatch →
      compositorPixel plan slots palette fetch x y = hatchPixel palette x y) ∧
    (tileTreatment plan.live (slots.get i) t x y = .blank →
      compositorPixel plan slots palette fetch x y = Pix.black) ∧
    (tileTreatment plan.live (slots.get i) t x y = .composed →
      compositorPixel plan slots palette fetch x y = composedPixel plan (slots.get i) fetch t x y) := by
  have htreat : treatment plan slots x y = tileTreatment plan.live (slots.get i) t x y := by
    simp only [treatment, planLayout, hs, Option.map_some, ht]
  refine ⟨fun h => ?_, fun h => ?_, fun h => ?_⟩
  · simp only [compositorPixel, htreat, h]
  · simp only [compositorPixel, htreat, h]
  · simp only [compositorPixel, htreat, h, planLayout, hs, Option.map_some, ht]

end pixel

/-! ## The output stage (R50) -/

theorem holdTo_eq (lo hi v : Nat) (h : lo ≤ hi) : holdTo lo hi v = if v < lo then lo else if hi < v then hi else v := by
  unfold holdTo
  split
  · omega
  · split <;> omega

theorem holdPixel_eq (u : Pix) : holdPixel u =
    ⟨if u.y < 16 then 16 else if 235 < u.y then 235 else u.y,
      if u.cb < 16 then 16 else if 240 < u.cb then 240 else u.cb,
      if u.cr < 16 then 16 else if 240 < u.cr then 240 else u.cr⟩ := by
  simp only [holdPixel, holdTo_eq _ _ _ (show 16 ≤ 235 by decide), holdTo_eq _ _ _ (show 16 ≤ 240 by decide)]

/-! ## O59 -/

/-- Settles O59: the ramp, the pixel by its tile's treatment, and the output stage. -/
theorem pixelsAreComposedByTheirRules : Obligations.PixelsAreComposedByTheirRules := by
  refine ⟨fun o d p q hd => ⟨rampWeight_le hd p, rampWeight_mono hd, rampWeight_before d, rampWeight_past,
    rampWeight_origin o, rampWeight_lt hd, rampWeight_share⟩, fun plan slots palette fetch x y hx _ =>
    ⟨fun h => compositorPixel_no_layout h slots palette fetch x y,
      fun i map rec w contributes hs hmap hrec hg hw hc => ?_⟩, holdPixel_eq⟩
  have ht : (slots.get i).tile x y = some (tileOfRecord rec) := by
    rw [LayoutSlot.tile, hmap, hrec]
    exact congrArg some (tileAt_eq_tileOfRecord map _)
  have hweight : secondaryWeight (tileOfRecord rec) (x % 32) (y % 32) = w :=
    (hg.secondaryWeight_eq _ _).trans hw.symm
  have hmem (c : Cam) : c ∈ contributors (tileOfRecord rec) (secondaryWeight (tileOfRecord rec) (x % 32) (y % 32)) ↔
      contributes c := by
    rw [hweight]
    exact (hg.mem_contributors_iff w c).trans (hc c).symm
  obtain ⟨hhatch, hblank, hcomposed⟩ := compositorPixel_of_tile hs ht palette fetch
  refine ⟨fun ⟨c, hcon, hdead⟩ => ?_, fun hnone => ?_, fun grid part hgrid hpart => ⟨fun ⟨c, hcon, hbad⟩ => ?_,
    fun hgood p hp => ?_⟩⟩
  · exact hhatch (tileTreatment_hatch ((hmem c).mpr hcon) hdead)
  · have hprimary : (tileOfRecord rec).primary = none := (index4_eq_none_iff _).mpr (by omega)
    refine hblank ?_
    rw [tileTreatment_of_live, if_pos (Or.inl hprimary)]
    intro c hcon
    rcases (mem_contributors_iff _ _ c).mp hcon with ⟨h, -⟩ | ⟨h, -⟩
    · cases hprimary.symm.trans h
    · exact absurd hprimary h
  · have hcorners : (slots.get i).corners c (tileIndex x y) = none := by
      rw [corners_of_grid (hgrid c hcon).2, cornersOf_invalid hx hbad]
    refine hblank ?_
    rw [tileTreatment_of_live fun c h => (hgrid c ((hmem c).mp h)).1,
      if_pos (Or.inr ⟨c, (hmem c).mpr hcon, hcorners⟩)]
  · have hprimary := (tileOfRecord_primary_iff rec p).mpr hp
    have hprimary' : (tileOfRecord rec).primary ≠ none := by rw [hprimary]; exact nofun
    have hpart' (c : Cam) (hcon : contributes c) : (camSample plan (slots.get i) fetch c x y).pix = part c :=
      (camSample_pix hx (hgrid c hcon).2 (hgood c hcon) fetch).trans (hpart c).symm
    have hpixel : compositorPixel plan slots palette fetch x y =
        composedPixel plan (slots.get i) fetch (tileOfRecord rec) x y := by
      refine hcomposed ?_
      rw [tileTreatment_of_live fun c h => (hgrid c ((hmem c).mp h)).1, if_neg]
      rintro (h | ⟨c, hcon, h⟩)
      · exact hprimary' h
      · rw [hmem] at hcon
        rw [corners_of_grid (hgrid c hcon).2, cornersOf_valid hx (hgood c hcon)] at h
        cases h
    rw [hpixel]
    refine ⟨fun h0 => ?_, fun q hq => ?_⟩
    · rw [composedPixel_primary hprimary (hweight.trans h0), hpart' p ((hc p).mpr (Or.inl ⟨hp, by omega⟩))]
    · have hsecondary := (tileOfRecord_secondary_iff rec q).mpr hq
      refine ⟨fun hfull => ?_, fun h0 h1 => ?_⟩
      · rw [composedPixel_secondary hprimary' hsecondary (hweight.trans hfull),
          hpart' q ((hc q).mpr (Or.inr ⟨hq, by omega⟩))]
      · rw [composedPixel_blend hprimary hsecondary hweight h0 h1, hpart' p ((hc p).mpr (Or.inl ⟨hp, h1⟩)),
          hpart' q ((hc q).mpr (Or.inr ⟨hq, h0⟩))]
        rfl

end Sys2Proof.Machine
end

section
/-! SUPPORT. What the taking of a request leaves alone (R159, R160): no owner but the RESET's reaches the request queue or the
frame plan, and none but LOAD-END's and the RESET's the layout store. -/

namespace Sys2Proof.Machine

variable {s t : State}

/-! ## Requests that stay away from the picture and the queue -/

/-- The compositor, the layout store and the request queue stand. -/
structure StandsAside (s t : State) : Prop where
  comp : t.comp = s.comp
  layouts : t.layouts = s.layouts
  queue : t.mgmt.queue = s.mgmt.queue

theorem State.answer_aside (s : State) (k : Ticket) (r : Result) : StandsAside s (s.answer k r) := ⟨rfl, rfl, rfl⟩

theorem State.serveLoadBegin_aside (s : State) (k : Ticket) (table slot camera : Byte) (total : BitVec 16)
    (crc : BitVec 32) : StandsAside s (s.serveLoadBegin k table slot camera total crc) := by
  unfold State.serveLoadBegin
  split
  · exact s.answer_aside k _
  · split
    · exact s.answer_aside k _
    · split
      · exact s.answer_aside k _
      · split <;> exact ⟨rfl, rfl, rfl⟩

theorem State.serveLoadData_aside (s : State) (k : Ticket) (segment : BitVec 16) (data : List Byte) :
    StandsAside s (s.serveLoadData k segment data) := by
  unfold State.serveLoadData
  split
  · exact s.answer_aside k _
  · split <;> exact ⟨rfl, rfl, rfl⟩

theorem State.serveLoadAbort_aside (s : State) (k : Ticket) : StandsAside s (s.serveLoadAbort k) := by
  unfold State.serveLoadAbort
  split <;> exact ⟨rfl, rfl, rfl⟩

theorem State.serveTableRead_aside (s : State) (k : Ticket) (table slot camera : Byte) (offset : BitVec 16)
    (length : Byte) : StandsAside s (s.serveTableRead k table slot camera offset length) := by
  unfold State.serveTableRead
  split
  · exact s.answer_aside k _
  · split
    · exact s.answer_aside k _
    · split <;> exact ⟨rfl, rfl, rfl⟩

theorem State.serveBindMode_aside (s : State) (k : Ticket) (mode slot : Byte) :
    StandsAside s (s.serveBindMode k mode slot) := by
  obtain ⟨b, e⟩ := s.bind_frame mode slot
  rw [State.serveBindMode, e]
  exact ⟨rfl, rfl, rfl⟩

theorem State.serveSetView_aside (s : State) (k : Ticket) (mode : Byte) : StandsAside s (s.serveSetView k mode) := by
  unfold State.serveSetView
  split
  · exact s.answer_aside k _
  · split <;> exact ⟨rfl, rfl, rfl⟩

theorem State.joinEdits_aside (s : State) (e : Edit) : StandsAside s (s.joinEdits e) := by
  unfold State.joinEdits
  split <;> exact ⟨rfl, rfl, rfl⟩

theorem State.serveElementWrite_aside (s : State) (k : Ticket) (index : Byte) (record : List Byte) :
    StandsAside s (s.serveElementWrite k index record) := by
  unfold State.serveElementWrite
  split
  · exact s.answer_aside k _
  · split
    · exact ⟨rfl, rfl, rfl⟩
    · split
      · exact s.answer_aside k _
      · exact s.joinEdits_aside _

theorem State.serveElementClear_aside (s : State) (k : Ticket) (index : Byte) :
    StandsAside s (s.serveElementClear k index) := by
  unfold State.serveElementClear
  split
  · exact s.answer_aside k _
  · split
    · exact s.answer_aside k _
    · exact s.joinEdits_aside _

theorem State.serveCamXfer_aside (s : State) (k : Ticket) (camera device direction : Byte) (register : BitVec 16)
    (count : Byte) (data : List Byte) :
    StandsAside s (s.serveCamXfer k camera device direction register count data) := by
  obtain ⟨r, e⟩ | ⟨p, x, -, e⟩ := s.serveCamXfer_cases k camera device direction register count data
  · rw [e]
    exact s.answer_aside k r
  · obtain ⟨c, st, res, fil, h⟩ := (s.setChan p { s.chan p with queue := (s.chan p).queue ++ [x] }).arbitrate_frame p
    rw [e, h]
    exact ⟨rfl, rfl, rfl⟩

theorem State.setDebounced_aside (s : State) (l : Fin 8) (level : Bool) : StandsAside s (s.setDebounced l level) := by
  unfold State.setDebounced
  rw [State.raiseIf_eq]
  exact ⟨rfl, rfl, rfl⟩

theorem State.configureLine_aside (s : State) (l : Fin 8) (cfg : LineRecord) :
    StandsAside s (s.configureLine l cfg) := by
  unfold State.configureLine
  dsimp only
  split
  · split
    · split
      · obtain ⟨hc, hl, hq⟩ := (s.setLine l { s.line l with cfg := cfg }).setDebounced_aside l (s.line l).raw
        exact ⟨hc, hl, hq⟩
      · split <;> exact ⟨rfl, rfl, rfl⟩
    · exact ⟨rfl, rfl, rfl⟩
  · exact ⟨rfl, rfl, rfl⟩
  · exact ⟨rfl, rfl, rfl⟩

theorem State.serveLineConfig_aside (s : State) (k : Ticket) (line function polarity debounce role edge source : Byte) :
    StandsAside s (s.serveLineConfig k line function polarity debounce role edge source) := by
  unfold State.serveLineConfig
  split
  · rename_i l cfg _ _
    obtain ⟨hc, hl, hq⟩ := s.configureLine_aside l cfg
    exact ⟨hc, hl, hq⟩
  · exact s.answer_aside k _

theorem State.serveStoreWrite_aside (s : State) (k : Ticket) (offset : BitVec 16) (data : List Byte) :
    StandsAside s (s.serveStoreWrite k offset data) := by
  obtain ⟨r, e⟩ | ⟨-, -, e⟩ := s.serveStoreWrite_cases k offset data <;> rw [e] <;> exact ⟨rfl, rfl, rfl⟩

theorem State.serveStoreRead_aside (s : State) (k : Ticket) (offset : BitVec 16) :
    StandsAside s (s.serveStoreRead k offset) := by
  obtain ⟨r, e⟩ | e := s.serveStoreRead_cases k offset <;> rw [e] <;> exact ⟨rfl, rfl, rfl⟩

/-- A request other than a LOAD-END and a RESET stays away from the compositor, the layouts and the queue (R160). -/
theorem State.serveReq_aside (s : State) (k : Ticket) (q : Req) (he : q ≠ .loadEnd) (hr : ∀ w, q ≠ .reset w) :
    StandsAside s (s.serveReq k q) := by
  cases q with
  | loadBegin table slot camera total crc => exact s.serveLoadBegin_aside k table slot camera total crc
  | loadData segment data => exact s.serveLoadData_aside k segment data
  | loadEnd => exact absurd rfl he
  | loadAbort => exact s.serveLoadAbort_aside k
  | tableRead table slot camera offset length => exact s.serveTableRead_aside k table slot camera offset length
  | bindMode mode slot => exact s.serveBindMode_aside k mode slot
  | setView mode => exact s.serveSetView_aside k mode
  | releaseView => exact ⟨rfl, rfl, rfl⟩
  | elementWrite index record => exact s.serveElementWrite_aside k index record
  | elementClear index => exact s.serveElementClear_aside k index
  | camXfer c d dir r n data => exact s.serveCamXfer_aside k c d dir r n data
  | lineConfig l f p d r e o => exact s.serveLineConfig_aside k l f p d r e o
  | linesSet mask => exact ⟨rfl, rfl, rfl⟩
  | linesClear mask => exact ⟨rfl, rfl, rfl⟩
  | eventEnable mask => exact ⟨rfl, rfl, rfl⟩
  | eventAck mask => exact ⟨rfl, rfl, rfl⟩
  | storeWrite offset data => exact s.serveStoreWrite_aside k offset data
  | storeRead offset => exact s.serveStoreRead_aside k offset
  | reset w => exact absurd rfl (hr w)

theorem State.resetViews_queue (s : State) : s.resetBalanceView.resetModeView.mgmt.queue = s.mgmt.queue := by
  obtain ⟨m, st, e⟩ := s.resetBalanceView.resetModeView_frame
  rw [e]
  rfl

theorem State.viewReset_queue (s : State) (k : Ticket) : (s.viewReset k).mgmt.queue = s.mgmt.queue := by
  have hp : (forCams State.viewResetPort s).mgmt.queue = s.mgmt.queue :=
    forCams_induction (P := fun u => u.mgmt.queue = s.mgmt.queue) State.viewResetPort
      (fun c u hu => by rw [State.viewResetPort, State.putPort_eq]; exact hu) s rfl
  have hq := (State.resetViews_queue _).trans hp
  unfold State.viewReset State.viewResetBlocks
  generalize (forCams State.viewResetPort s).resetBalanceView.resetModeView = u at hq ⊢
  exact hq

/-! ## A RESET FULL and its answer (R155, R168) -/

/-- The one request that is a RESET FULL. -/
theorem parseRequest_reset {kind : Byte} {p : List Byte} {w : Byte} (h : parseRequest kind p = .ok (.reset w)) :
    kind = 0x70 ∧ p = [w] := by
  unfold parseRequest at h
  split at h <;> simp [Parsed.ofLength_eq_ok] at h
  rename_i hk
  obtain ⟨hl, hw⟩ := h
  obtain ⟨b, hb⟩ := List.length_eq_one_iff.mp hl
  subst hb
  exact ⟨by bv_omega, by simpa using hw⟩

theorem State.rebuildHeader_responses (u : State) {x : Response} (h : u.mgmt.filled = [x]) :
    x ∈ u.rebuildHeader.tx.header.responses ++ u.rebuildHeader.mgmt.filled ∧
      u.rebuildHeader.mgmt.queue = u.mgmt.queue := by
  unfold State.rebuildHeader
  split
  · simp [State.buildHeader, State.headerNow, h, Config.headerResponses]
  · simp [h]

/-- After a RESET FULL the plan is the power-on plan, the queue is empty and the RESET's answer is filled, or handed over
to the header that is built again (R155, R168). -/
theorem State.fullReset_taken (s : State) (k : Ticket) : (s.fullReset k).comp.plan = Plan.powerOn ∧
    ⟨k.tag, k.kind, .done, []⟩ ∈ (s.fullReset k).tx.header.responses ++ (s.fullReset k).mgmt.filled ∧
    (s.fullReset k).mgmt.queue = [] := by
  obtain ⟨layouts, g, lp, work, next, h0, h1, bal, ovl, modes, veh, tx, mgmt, e⟩ := s.fullReset_frame k
  obtain ⟨g', lp', work', next', k0, k1, e', -⟩ := State.resetCompositor_frame { s.resetPorts with
    layouts := LayoutStore.powerOn, bal := BalanceUnit.powerOn, ovl := OverlayEngine.powerOn
    modes := ModeController.powerOn, mgmt := Management.powerOn }
  obtain ⟨hanswer, hqueue⟩ := State.rebuildHeader_responses
    { s.fullResetBlocks with mgmt.filled := [⟨k.tag, k.kind, .done, []⟩] } rfl
  refine ⟨by rw [e], hanswer, hqueue.trans ?_⟩
  rw [State.fullResetBlocks, e']
  rfl

end Sys2Proof.Machine
end

section
/-! PROOF. The frame plan and its layout between turnovers (O15; R32, R35, R38, R57, R154, R168). -/

namespace Sys2Proof.Machine

variable {s t u : State}

/-! ## The picture stands -/

/-- The frame plan stands, and with it the layout slot that it goes through. -/
def PictureStands (s t : State) : Prop :=
  t.comp.plan = s.comp.plan ∧
  (ModesConsistent s → ∀ i, s.comp.plan.slot = some i → t.layouts.slots.get i = s.layouts.slots.get i)

theorem PictureStands.of_same (hp : t.comp.plan = s.comp.plan) (hl : t.layouts = s.layouts) : PictureStands s t :=
  ⟨hp, fun _ _ _ => by rw [hl]⟩

theorem PictureStands.trans (h : PictureStands s t) (hm : ModesConsistent s → ModesConsistent t)
    (h' : PictureStands t u) : PictureStands s u := by
  obtain ⟨hp, hl⟩ := h
  obtain ⟨hp', hl'⟩ := h'
  exact ⟨hp'.trans hp, fun hs i hi => (hl' (hm hs) i (by rw [hp]; exact hi)).trans (hl hs i hi)⟩

/-- What follows it changes neither the plan nor the layout store. -/
theorem PictureStands.followed (h : PictureStands s t) (hp : u.comp.plan = t.comp.plan) (hl : u.layouts = t.layouts) :
    PictureStands s u :=
  ⟨hp.trans h.1, fun hs i hi => by rw [hl]; exact h.2 hs i hi⟩

/-- A layout table written into a slot that is not in use is not the picture's (R32). -/
theorem PictureStands.writeLayout (s : State) {d : TableLoad} (hd : s.slotGuarded d.slot = false) :
    PictureStands s (s.writeLayout d) := by
  refine ⟨?_, fun ⟨_, _, hplan, _⟩ i hi => s.writeLayout_get_ne ?_⟩
  · obtain ⟨slots, e⟩ := s.writeLayout_frame d
    rw [e]
  · rintro rfl
    rw [(s.slotGuarded_iff d.slot).mpr (Or.inr (hplan.symm.trans hi))] at hd
    cases hd

/-! ## One request (R159, R160) -/

theorem State.serveLoadEnd_picture (s : State) (k : Ticket) :
    PictureStands s (s.serveLoadEnd k) ∧ (s.serveLoadEnd k).mgmt.queue = s.mgmt.queue := by
  have same (t : State) (hc : t.comp = s.comp) (hl : t.layouts = s.layouts) (hq : t.mgmt.queue = s.mgmt.queue) :
      PictureStands s t ∧ t.mgmt.queue = s.mgmt.queue := ⟨.of_same (by rw [hc]) hl, hq⟩
  unfold State.serveLoadEnd
  split
  · exact same _ rfl rfl rfl
  · split
    · exact same _ rfl rfl rfl
    · exact same _ rfl rfl rfl
    · exact same _ rfl rfl rfl
    · exact same _ rfl rfl rfl
    · rename_i hv
      split
      · rename_i hl
        obtain ⟨-, -, -, hg⟩ := s.loadVerdict_eq_passes_iff.mp hv
        refine ⟨PictureStands.writeLayout s.closeLoad (hg hl), ?_⟩
        obtain ⟨slots, e⟩ := s.closeLoad.writeLayout_frame s.mgmt.load.dest
        rw [e]
        rfl
      · exact same _ rfl rfl rfl

/-- A RESET leaves the picture and the queue, or names FULL. -/
theorem State.serveReset_picture (s : State) (k : Ticket) (w : Byte) :
    (PictureStands s (s.serveReset k w) ∧ (s.serveReset k w).mgmt.queue = s.mgmt.queue) ∨
      (w = 0 ∧ s.serveReset k w = s.fullReset k) := by
  unfold State.serveReset
  split
  · rename_i hw
    exact Or.inr ⟨hw, rfl⟩
  · split
    · refine Or.inl ⟨?_, s.viewReset_queue k⟩
      obtain ⟨bal, modes, mgmt, e⟩ := s.viewReset_frame k
      rw [e]
      exact .of_same rfl rfl
    · exact Or.inl ⟨.of_same rfl rfl, rfl⟩

/-- A request at its owner leaves the picture and the queue, or is a RESET FULL. -/
theorem State.serveReq_picture (s : State) (k : Ticket) (q : Req) :
    (PictureStands s (s.serveReq k q) ∧ (s.serveReq k q).mgmt.queue = s.mgmt.queue) ∨
      (q = .reset 0 ∧ s.serveReq k q = s.fullReset k) := by
  by_cases hr : ∃ w, q = .reset w
  · obtain ⟨w, rfl⟩ := hr
    exact (s.serveReset_picture k w).imp id fun ⟨hw, e⟩ => ⟨by rw [hw], e⟩
  · by_cases he : q = .loadEnd
    · subst he
      exact Or.inl (s.serveLoadEnd_picture k)
    · obtain ⟨hc, hl, hq⟩ := s.serveReq_aside k q he fun w hw => hr ⟨w, hw⟩
      exact Or.inl ⟨.of_same (by rw [hc]) hl, hq⟩

/-- The request RESET FULL under a tag (formats section). -/
def fullResetRequest (tag : Byte) : Request := ⟨tag, 0x70, [0]⟩

/-- A request taken leaves the picture and the queue, or is a RESET FULL. -/
theorem State.serve_picture (s : State) (r : Request) :
    (PictureStands s (s.serve r) ∧ (s.serve r).mgmt.queue = s.mgmt.queue) ∨
      (r = fullResetRequest r.tag ∧ s.serve r = s.fullReset ⟨r.tag, 0x70⟩) := by
  unfold State.serve
  split
  · exact Or.inl ⟨.of_same rfl rfl, rfl⟩
  · exact Or.inl ⟨.of_same rfl rfl, rfl⟩
  · rename_i q hq
    refine (s.serveReq_picture ⟨r.tag, r.kind⟩ q).imp id fun ⟨hw, e⟩ => ?_
    subst hw
    obtain ⟨hk, hp⟩ := parseRequest_reset hq
    rw [e, hk]
    refine ⟨?_, rfl⟩
    cases r
    simp_all [fullResetRequest]

/-! ## Take-up (R159) -/

/-- A RESET FULL under a tag has been taken: the power-on plan, its answer filled or handed over, and an empty queue (R57,
R155, R168). -/
def FullResetTaken (tag : Byte) (t : State) : Prop :=
  t.comp.plan = Plan.powerOn ∧ ⟨tag, 0x70, .done, []⟩ ∈ t.tx.header.responses ++ t.mgmt.filled ∧ t.mgmt.queue = []

/-- What take-up can do to the picture: it stands, or a RESET FULL that waited has been taken. -/
def TakenUp (s t : State) : Prop :=
  (PictureStands s t ∧ (ModesConsistent s → ModesConsistent t) ∧ t.mgmt.queue ⊆ s.mgmt.queue) ∨
    ∃ tag, fullResetRequest tag ∈ s.mgmt.queue ∧ FullResetTaken tag t

/-- One more request taken. -/
theorem TakenUp.serve {r : Request} {rest : List Request} (h : TakenUp s t) (hq : t.mgmt.queue = r :: rest) :
    TakenUp s ((t.popRequest rest).serve r) := by
  obtain ⟨hstands, hmodes, hsub⟩ | ⟨tag, -, -, -, hempty⟩ := h
  · rw [hq] at hsub
    obtain ⟨hr, hrest⟩ := List.cons_subset.mp hsub
    obtain ⟨hp, hq'⟩ | ⟨hfull, e⟩ := (t.popRequest rest).serve_picture r
    · refine Or.inl ⟨hstands.trans hmodes hp, fun hs => ?_, by rw [hq']; exact hrest⟩
      exact ModesConsistent.serve (s := t.popRequest rest) (hmodes hs) r
    · rw [e]
      exact Or.inr ⟨r.tag, hfull ▸ hr, State.fullReset_taken _ _⟩
  · rw [hempty] at hq
    cases hq

theorem State.takeUp_takenUp (s : State) : TakenUp s s.takeUp :=
  s.takeUp_induction (P := TakenUp s) (Or.inl ⟨.of_same rfl rfl, id, List.Subset.refl _⟩) fun _ _ _ h hq _ => h.serve hq

/-- A request that arrives leaves the picture, or a RESET FULL is taken that is the one arrived or one that waited. -/
theorem State.submit_picture (s : State) (r : Request) : PictureStands s (s.submit r) ∨
    ∃ tag, (r = fullResetRequest tag ∨ fullResetRequest tag ∈ s.mgmt.queue) ∧ FullResetTaken tag (s.submit r) := by
  unfold State.submit
  split
  · exact s.loseRequest.takeUp_takenUp.imp (fun h => h.1) fun ⟨tag, hq, h⟩ => ⟨tag, Or.inr hq, h⟩
  · split
    · exact s.loseRequest.takeUp_takenUp.imp (fun h => h.1) fun ⟨tag, hq, h⟩ => ⟨tag, Or.inr hq, h⟩
    · refine (s.pushRequest r).takeUp_takenUp.imp (fun h => h.1) fun ⟨tag, hq, h⟩ => ⟨tag, ?_, h⟩
      rw [State.pushRequest_mgmt_queue, List.mem_append, List.mem_singleton] at hq
      exact hq.symm.imp_left Eq.symm

/-! ## Boot (R174) -/

theorem PictureStands.continueBoot (h : PictureStands s t) : PictureStands s t.continueBoot := by
  obtain ⟨x, e⟩ := t.continueBoot_frame
  rw [e]
  exact h.followed rfl rfl

theorem PictureStands.applyEntry (s : State) (index : Nat) (code slot camera : Byte) (data : List Byte) :
    PictureStands s (s.applyEntry index code slot camera data) := by
  unfold State.applyEntry
  split
  · exact PictureStands.continueBoot (.of_same rfl rfl)
  · obtain ⟨b, e⟩ := s.applyBindings_frame data
    dsimp only
    split
    · exact PictureStands.continueBoot (.of_same (by rw [e]) (by rw [e]))
    · exact PictureStands.continueBoot (.of_same (by rw [e]; rfl) (by rw [e]; rfl))
  · rename_i d hv
    exact (PictureStands.writeLayout s (s.entryVerdict_layout hv)).continueBoot
  · exact .of_same rfl rfl

theorem PictureStands.bootEntryRead (s : State) (answered : Bool) : PictureStands s (s.bootEntryRead answered) := by
  unfold State.bootEntryRead
  dsimp only
  obtain ⟨x, n, e⟩ := s.endLateWrites_parts
  have hlate : PictureStands s s.endLateWrites ∧ (ModesConsistent s → ModesConsistent s.endLateWrites) := by
    rw [e]
    exact ⟨.of_same rfl rfl, id⟩
  obtain ⟨hstands, hmodes⟩ := hlate
  generalize s.endLateWrites = u at hstands hmodes ⊢
  split
  · split
    · exact hstands.followed rfl rfl
    · exact hstands.trans hmodes (PictureStands.applyEntry (u.popAccess.setBoot _) _ _ _ _ _)
  · exact .of_same rfl rfl

/-! ## Every command but the turnover -/

/-- A command brings a request to the queue; a RESET FULL is brought by the commands that say so alone (R157, R168). -/
def Brings (c : Instr) (s t : State) : Prop :=
  ∃ r, t = s.submit r ∧ ∀ tag, r = fullResetRequest tag → bringsFullReset c tag

theorem Req.kind_ne_reset {q : Req} (h : ∀ w, q ≠ .reset w) : q.kind ≠ 0x70 := by
  cases q with
  | reset w => exact absurd rfl (h w)
  | _ => simp [Req.kind]

/-- A request that is no RESET is none of the requests RESET FULL. -/
theorem brings_other (c : Instr) (s : State) {q : Req} (tag : Byte) (h : ∀ w, q ≠ .reset w) :
    Brings c s (s.submit (q.toRequest tag)) :=
  ⟨_, rfl, fun _ he => absurd (congrArg Request.kind he) (Req.kind_ne_reset h)⟩

/-- A record received reaches the vehicle interface, is lost, or brings its request (R157). -/
theorem State.receiveRecord_picture (s : State) (bs : List Byte) {c : Instr}
    (hc : c = .requestRecord bs ∨ c = .vehicleDataRecord bs) :
    PictureStands s (s.receiveRecord bs) ∨ Brings c s (s.receiveRecord bs) := by
  unfold State.receiveRecord
  split
  · obtain ⟨m, v, e⟩ := s.vehicleRecord_frame bs
    rw [e]
    exact Or.inl (.of_same rfl rfl)
  · split
    · rename_i r hr
      exact Or.inr ⟨r, rfl, fun tag he => Or.inr (Or.inr ⟨bs, hc, by rw [hr, he]; rfl⟩)⟩
    · exact Or.inl (.of_same rfl rfl)

/-- Every command but the turnover leaves the picture, is the power-on, or brings a request. -/
theorem exec_picture (c : Instr) (s t : State) (hc : c ≠ .turnover) (e : exec c s = .next t) :
    PictureStands s t ∨ (c = .powerOn ∧ t.comp.plan = Plan.powerOn) ∨ Brings c s t := by
  cases c with
  | turnover => exact absurd rfl hc
  | powerOn =>
    cases e
    obtain ⟨mem, h, -⟩ := s.powerOnAgain_frame
    exact Or.inr (Or.inl ⟨rfl, by rw [h]; rfl⟩)
  | lockGained p =>
    cases e
    exact Or.inl (.of_same (congrArg (·.comp.plan) (s.putPort_eq p _)) (congrArg (·.layouts) (s.putPort_eq p _)))
  | lockLost p =>
    cases e
    obtain ⟨ports, ch, m, h⟩ := s.lockLost_frame p
    exact Or.inl (.of_same (by rw [h]) (by rw [h]))
  | frameStartMark p =>
    cases e
    obtain ⟨ports, h⟩ := s.frameStartMark_frame p
    exact Or.inl (.of_same (by rw [h]) (by rw [h]))
  | lineReceived p pixels =>
    cases e
    obtain ⟨ports, d, work, h⟩ := s.lineReceived_frame p pixels
    exact Or.inl (.of_same (by rw [h]) (by rw [h]))
  | frameEndMark p n attention =>
    cases e
    obtain ⟨ports, ch, m, h⟩ := s.frameEndMark_frame p n attention
    exact Or.inl (.of_same (by rw [h]) (by rw [h]))
  | stalenessTimerExpiry p =>
    cases e
    obtain ⟨ports, m, h⟩ := s.stalenessExpiry_frame p
    exact Or.inl (.of_same (by rw [h]) (by rw [h]))
  | dramWriteComplete =>
    cases e
    obtain ⟨ports, d, work, h⟩ := s.dramWriteComplete_frame
    exact Or.inl (.of_same (by rw [h]) (by rw [h]))
  | sourceReadComplete =>
    cases e
    obtain ⟨g, lp, comp, h⟩ := s.sourceReadComplete_frame
    exact Or.inl (.of_same s.sourceReadComplete_plan (by rw [h]))
  | bandCompletion b =>
    cases e
    obtain ⟨g, lp, comp, h⟩ := s.bandCompletion_frame b
    exact Or.inl (.of_same (s.bandCompletion_plan b) (by rw [h]))
  | frameStart =>
    cases e
    obtain ⟨g, lp, comp, x, v, h⟩ := s.frameStart_frame
    exact Or.inl (.of_same s.frameStart_plan (by rw [h]))
  | bandStart b =>
    cases e
    obtain ⟨g, lp, comp, x, m, h⟩ := s.bandStart_frame b
    exact Or.inl (.of_same (s.bandStart_plan b) (by rw [h]))
  | bandEnd b =>
    cases e
    obtain ⟨g, lp, comp, x, h⟩ := s.bandEnd_frame b
    exact Or.inl (.of_same (s.bandEnd_plan b) (by rw [h]))
  | staleExpiry =>
    cases e
    obtain ⟨m, v, h⟩ := s.staleExpiry_frame
    exact Or.inl (.of_same (by rw [h]) (by rw [h]))
  | lostExpiry =>
    cases e
    obtain ⟨m, v, h⟩ := s.lostExpiry_frame
    exact Or.inl (.of_same (by rw [h]) (by rw [h]))
  | rawChange l level =>
    cases e
    obtain ⟨m, v, h⟩ := s.rawChange_frame l level
    exact Or.inl (.of_same (by rw [h]) (by rw [h]))
  | debounceTimerExpiry l =>
    cases e
    obtain ⟨m, v, h⟩ := s.debounceExpiry_frame l
    exact Or.inl (.of_same (by rw [h]) (by rw [h]))
  | loadTimerExpiry =>
    cases e
    obtain ⟨m, h⟩ := s.loadTimerExpiry_frame
    exact Or.inl (.of_same (by rw [h]) (by rw [h]))
  | cameraAnswer p accept =>
    cases e
    obtain ⟨ch, m, h⟩ := s.cameraAnswer_frame p accept
    exact Or.inl (.of_same (by rw [h]) (by rw [h]))
  | readByte p b =>
    cases e
    obtain ⟨ch, m, h⟩ := s.readByte_frame p b
    exact Or.inl (.of_same (by rw [h]) (by rw [h]))
  | stepTimerExpiry p =>
    cases e
    obtain ⟨ch, m, h⟩ := s.stepTimerExpiry_frame p
    exact Or.inl (.of_same (by rw [h]) (by rw [h]))
  | stopMarkSent p =>
    cases e
    obtain ⟨ch, m, h⟩ := s.stopMarkSent_frame p
    exact Or.inl (.of_same (by rw [h]) (by rw [h]))
  | pageWriteComplete =>
    cases e
    obtain ⟨m, x, n, h⟩ := s.pageWriteComplete_frame
    exact Or.inl (.of_same (by rw [h]) (by rw [h]))
  | writeTimerExpiry =>
    cases e
    obtain ⟨m, x, h⟩ := s.writeTimerExpiry_frame
    exact Or.inl (.of_same (by rw [h]) (by rw [h]))
  | storeReadComplete answered =>
    cases e
    obtain ⟨m, x, n, h⟩ := s.storeReadComplete_frame answered
    exact Or.inl (.of_same (by rw [h]) (by rw [h]))
  | bootWaitExpiry =>
    cases e
    obtain ⟨x, h⟩ := s.bootWaitExpiry_frame
    exact Or.inl (.of_same (by rw [h]) (by rw [h]))
  | bootHeaderRead answered =>
    cases e
    obtain ⟨x, n, h⟩ := s.bootHeaderRead_frame answered
    exact Or.inl (.of_same (by rw [h]) (by rw [h]))
  | bootEntryRead answered =>
    cases e
    exact Or.inl (PictureStands.bootEntryRead s answered)
  | requestRecord bs =>
    cases e
    exact (s.receiveRecord_picture bs (Or.inl rfl)).imp id Or.inr
  | vehicleDataRecord bs =>
    cases e
    exact (s.receiveRecord_picture bs (Or.inr rfl)).imp id Or.inr
  | resetFull tag =>
    cases e
    exact Or.inr (Or.inr ⟨_, rfl, fun tag' he => Or.inl (by rw [show tag = tag' from congrArg Request.tag he])⟩)
  | unknownKind tag kind payload =>
    cases e
    exact Or.inr (Or.inr ⟨_, rfl, fun tag' he => Or.inr (Or.inl (by cases he; rfl))⟩)
  | resetView tag =>
    cases e
    exact Or.inr (Or.inr ⟨_, rfl, fun tag' he =>
      absurd (a := ([1] : List Byte) = [0]) (congrArg Request.payload he) (by decide)⟩)
  | loadBegin tag | loadData tag | loadEnd tag | loadAbort tag | tableRead tag | bindMode tag | setView tag
  | releaseView tag | elementWrite tag | elementClear tag | camXfer tag | lineConfig tag | linesSet tag | linesClear tag
  | eventEnable tag | eventAck tag | storeWrite tag | storeRead tag =>
    cases e
    exact Or.inr (Or.inr (brings_other _ s tag fun _ => nofun))

/-! ## O15 -/

/-- The picture stands, or the plan is the power-on plan by a power-on or a RESET FULL that the command brought or that
waited. -/
theorem exec_plan (c : Instr) (s t : State) (hc : c ≠ .turnover) (e : exec c s = .next t) :
    PictureStands s t ∨ t.comp.plan = Plan.powerOn ∧ (c = .powerOn ∨
      ∃ tag, (bringsFullReset c tag ∨ fullResetRequest tag ∈ s.mgmt.queue) ∧ FullResetTaken tag t) := by
  obtain h | ⟨hpower, hplan⟩ | ⟨r, rfl, hr⟩ := exec_picture c s t hc e
  · exact Or.inl h
  · exact Or.inr ⟨hplan, Or.inl hpower⟩
  · refine (s.submit_picture r).imp id fun ⟨tag, hfrom, htaken⟩ => ⟨htaken.1, Or.inr ⟨tag, ?_, htaken⟩⟩
    exact hfrom.imp_left (hr tag)

/-- Settles O15: between turnovers the plan moves by a power-on or a RESET FULL alone, and the power-on plan goes through no
slot. -/
theorem framePlanAndItsLayoutAreHeldUntilTurnover : Obligations.FramePlanAndItsLayoutAreHeldUntilTurnover := by
  constructor
  · intro c s t hc e
    obtain ⟨hplan, -⟩ | ⟨hplan, hcause⟩ := exec_plan c s t hc e
    · exact Or.inl hplan
    · exact Or.inr ⟨hplan, hcause.imp id fun ⟨tag, hfrom, _, hanswer, hempty⟩ => ⟨tag, hfrom, hanswer, hempty⟩⟩
  · intro c s t i hm hc hi e ht
    obtain ⟨-, hslot⟩ | ⟨hplan, -⟩ := exec_plan c s t hc e
    · exact hslot hm i hi
    · rw [hplan] at ht
      cases ht

end Sys2Proof.Machine
end

section
/-! SUPPORT. The balance unit's arithmetic (R63, R64, R68, R69): a follower's records after a turnover, and the value a nudge
would carry. -/

namespace Sys2Proof.Machine

/-! ## Targets, steps and runs (R63, R64, R68) -/

/-- A step goes toward the target by 4 at most (R64). -/
theorem stepGain_toInt (g t : Nat) : (stepGain g t : Int) = g + max (-4) (min 4 ((t : Int) - g)) := by
  simp only [stepGain, Config.gainStep]
  split <;> omega

/-- The target a follower `c` of `p` steps toward: computed where R63 allows, and held otherwise. -/
def State.nextTarget (s : State) (c p : Cam) (held : Nat) : Nat :=
  if s.targetComputed c p then
    targetFigure (s.comp.plan.gain.get p) (s.comp.seam.pair c p).2.1 (s.comp.seam.pair c p).1
  else held

/-- The high run after a turnover that makes `target` (R68). -/
def State.nextHigh (s : State) (c p : Cam) (target high : Nat) : Nat :=
  if s.targetComputed c p then (if 448 ≤ target then min 255 (high + 1) else 0) else high

/-- The low run after a turnover that makes `target` (R68). -/
def State.nextLow (s : State) (c p : Cam) (target low : Nat) : Nat :=
  if s.targetComputed c p then
    (if 448 ≤ target then 0 else if target ≤ 160 then min 255 (low + 1) else 0)
  else low

/-- A computed target counts in the run of the limit it is at or past, and ends every other run (R68). -/
theorem Balance.run_eq (b : Balance) (t : Nat) : b.run t = { b with
    high := if 448 ≤ t then min 255 (b.high + 1) else 0
    low := if 448 ≤ t then 0 else if t ≤ 160 then min 255 (b.low + 1) else 0 } := by
  by_cases hh : 448 ≤ t
  · simp [Balance.run, Config.highTarget, hh]
  · by_cases hl : t ≤ 160 <;> simp [Balance.run, Config.highTarget, Config.lowTarget, hh, hl]

/-- A follower's records after the gain work of a turnover. -/
theorem Balance.turnover_follower (s : State) (b : Balance) (c p : Cam) :
    b.turnover (some p) s.comp.plan s.comp.seam s.comp.incomplete c =
      { b with
        target := s.nextTarget c p b.target
        gain := stepGain b.gain (s.nextTarget c p b.target)
        high := s.nextHigh c p (s.nextTarget c p b.target) b.high
        low := s.nextLow c p (s.nextTarget c p b.target) b.low } := by
  by_cases h : s.targetComputed c p
  · simp only [Balance.turnover, (computedNow_iff s c p).mpr h, if_true, Balance.run_eq, State.nextTarget, State.nextHigh,
      State.nextLow, if_pos h]
  · simp only [Balance.turnover, Bool.eq_false_iff.mpr (mt (computedNow_iff s c p).mp h), Bool.false_eq_true, if_false,
      State.nextTarget, State.nextHigh, State.nextLow, if_neg h]

/-! ## Nudges (R69) -/

/-- The value of a nudge, by the run that is long enough. -/
theorem nudgeValue_eq_some_iff (x : ExposureControl) (e : Nat) (b : Balance) (v : Nat) : nudgeValue x e b = some v ↔
    (30 ≤ b.high ∧ v = min x.maximum (e + x.step)) ∨
      (b.high < 30 ∧ 30 ≤ b.low ∧ v = max x.minimum (e - x.step)) := by
  simp only [nudgeValue, Config.nudgeRun]
  by_cases hh : 30 ≤ b.high
  · simp [hh, eq_comm]
  · by_cases hl : 30 ≤ b.low
    · simp [hh, hl, eq_comm, Nat.lt_of_not_le hh]
    · simp [hh, hl]

theorem nudgeValue_eq_none {b : Balance} (hh : b.high < 30) (hl : b.low < 30) (x : ExposureControl) (e : Nat) :
    nudgeValue x e b = none := by
  simp [nudgeValue, Config.nudgeRun, Nat.not_le_of_lt hh, Nat.not_le_of_lt hl]

theorem Balance.nudged_eq (b : Balance) : b.nudged = { b with
    settle := 30, high := if 30 ≤ b.high then 0 else b.high, low := if 30 ≤ b.high then b.low else 0 } := by
  simp only [Balance.nudged, Config.nudgeRun, Config.settleTurnovers]
  by_cases h : 30 ≤ b.high <;> simp only [h, if_true, if_false]

end Sys2Proof.Machine
end

section
/-! SUPPORT. The settle count and the nudge test of one camera (R69, R70, R140), and the work of all four seen from one. -/

namespace Sys2Proof.Machine

variable {s : State}

/-! ## One camera's settle count and nudge test -/

/-- The nudge test has nothing to hand over: where exposure control and the cached exposure are present, no run is long
enough or the value is the cached one (R69). -/
def State.NoNudge (s : State) (c : Cam) : Prop :=
  ∀ x e, profileExposure (s.port c).profile = some x → (s.chan c).cached = some e →
    nudgeValue x e (s.camBal c) = none ∨ nudgeValue x e (s.camBal c) = some e

/-- The four causes for which R69 gives no nudge. -/
theorem State.noNudge_of {c : Cam} (h : profileExposure (s.port c).profile = none ∨ (s.chan c).cached = none ∨
    ((s.camBal c).high < 30 ∧ (s.camBal c).low < 30) ∨
    ∃ x e, profileExposure (s.port c).profile = some x ∧ (s.chan c).cached = some e ∧
      ((30 ≤ (s.camBal c).high ∧ e = min x.maximum (e + x.step)) ∨
        ((s.camBal c).high < 30 ∧ 30 ≤ (s.camBal c).low ∧ e = max x.minimum (e - x.step)))) : s.NoNudge c := by
  intro x' e' hx' he'
  obtain hx | he | ⟨hh, hl⟩ | ⟨x, e, hx, he, hv⟩ := h
  · simp [hx] at hx'
  · simp [he] at he'
  · exact Or.inl (nudgeValue_eq_none hh hl x' e')
  · obtain rfl : x = x' := Option.some.inj (hx.symm.trans hx')
    obtain rfl : e = e' := Option.some.inj (he.symm.trans he')
    exact Or.inr ((nudgeValue_eq_some_iff x e (s.camBal c) e).mpr hv)

theorem State.nudgeTest_of_noNudge {c : Cam} (h : s.NoNudge c) : s.nudgeTest c = s := by
  unfold State.nudgeTest
  split
  · rename_i x e hx he
    obtain hv | hv := h x e hx he <;> simp [hv]
  · rfl

theorem State.nudgeTest_of_value {c : Cam} {x : ExposureControl} {e v : Nat}
    (hx : profileExposure (s.port c).profile = some x) (he : (s.chan c).cached = some e)
    (hv : nudgeValue x e (s.camBal c) = some v) (hne : v ≠ e) :
    s.nudgeTest c = (s.setBal c (s.camBal c).nudged).handExposure c v := by
  simp [State.nudgeTest, hx, he, hv, hne]

/-- Where there is no nudge the settle count alone moves (R70): at a reference (log 16), at a follower that has not
settled, and where the test has nothing to hand over. -/
theorem State.settleAndNudge_still {c : Cam}
    (h : balancePartner s.bal.table c = none ∨ 1 < (s.camBal c).settle ∨ s.NoNudge c) :
    s.settleAndNudge c = s.setBal c (s.camBal c).settleStep := by
  unfold State.settleAndNudge
  dsimp only
  split
  · rename_i hcond
    obtain ⟨hp, hsettle⟩ := hcond
    rw [State.camBal_setBal_self, Balance.settleStep] at hsettle
    dsimp only at hsettle
    obtain hr | hs | hn := h
    · simp [hr] at hp
    · omega
    · refine State.nudgeTest_of_noNudge ?_
      unfold State.NoNudge
      rw [State.camBal_setBal_self]
      exact hn
  · rfl

/-- A follower that has settled is nudged where its test has a value to hand over (R69). -/
theorem State.settleAndNudge_nudges {c p : Cam} {x : ExposureControl} {e v : Nat}
    (hp : balancePartner s.bal.table c = some p) (hs : (s.camBal c).settle ≤ 1)
    (hx : profileExposure (s.port c).profile = some x) (he : (s.chan c).cached = some e)
    (hv : nudgeValue x e (s.camBal c) = some v) (hne : v ≠ e) :
    s.settleAndNudge c = (s.setBal c (s.camBal c).nudged).handExposure c v := by
  have hcond : (balancePartner s.bal.table c).isSome ∧
      ((s.setBal c (s.camBal c).settleStep).camBal c).settle = 0 := by
    rw [hp, State.camBal_setBal_self]
    exact ⟨rfl, Nat.sub_eq_zero_of_le hs⟩
  have htest := State.nudgeTest_of_value (s := s.setBal c (s.camBal c).settleStep) (c := c) hx he
    (by rw [State.camBal_setBal_self]; exact hv) hne
  unfold State.settleAndNudge
  dsimp only
  rw [if_pos hcond, htest, State.camBal_setBal_self]
  simp [Balance.nudged_eq, Balance.settleStep, State.setBal]

/-! ## What a nudge leaves unchanged, and what it does to the channel (R136, R140, R143, R144) -/

@[simp] theorem State.handExposure_bal (s : State) (p : Cam) (v : Nat) : (s.handExposure p v).bal = s.bal := by
  obtain ⟨c, st, res, fil, e⟩ := s.handExposure_frame p v
  rw [e]

@[simp] theorem State.handExposure_camBal (s : State) (p q : Cam) (v : Nat) :
    (s.handExposure p v).camBal q = s.camBal q := by
  rw [State.camBal, State.handExposure_bal, State.camBal]

theorem State.nudgeTest_gain (s : State) (c : Cam) : ((s.nudgeTest c).camBal c).gain = (s.camBal c).gain ∧
    ((s.nudgeTest c).camBal c).target = (s.camBal c).target := by
  unfold State.nudgeTest
  split
  · split
    · exact ⟨rfl, rfl⟩
    · split
      · exact ⟨rfl, rfl⟩
      · simp [Balance.nudged_eq]
  · exact ⟨rfl, rfl⟩

/-- Neither the settle count nor a nudge moves a gain or a target. -/
theorem State.settleAndNudge_gain (s : State) (c : Cam) :
    ((s.settleAndNudge c).camBal c).gain = (s.camBal c).gain ∧
      ((s.settleAndNudge c).camBal c).target = (s.camBal c).target := by
  have hstep : ((s.setBal c (s.camBal c).settleStep).camBal c).gain = (s.camBal c).gain ∧
      ((s.setBal c (s.camBal c).settleStep).camBal c).target = (s.camBal c).target := by
    rw [State.camBal_setBal_self]
    exact ⟨rfl, rfl⟩
  unfold State.settleAndNudge
  dsimp only
  split
  · obtain ⟨hg, ht⟩ := State.nudgeTest_gain (s.setBal c (s.camBal c).settleStep) c
    exact ⟨hg.trans hstep.1, ht.trans hstep.2⟩
  · exact hstep

/-- A value handed to a channel that is ACTIVE, or whose link is locked. -/
theorem State.handExposure_chan {p : Cam} {x : ExposureControl} (v : Nat)
    (hn : (s.chan p).active = false → (s.chan p).nothingWaits)
    (hl : (s.chan p).active = true ∨ (s.port p).lock = true) (hx : profileExposure (s.port p).profile = some x) :
    (s.handExposure p v).chan p = (s.chan p).handed (s.port p).profile x v := by
  obtain ha | hl := hl
  · rw [State.handExposure, State.arbitrate_put_active _ (by exact ha), State.chan_setChan_self, Channel.handed_active ha]
  · rw [State.handExposure_eq v hn hl hx, State.chan_setChan_self]

/-- On an unlocked link the exposure write ends NO-LINK at selection: it is recorded as served last, and CHANNEL-FAULT is
set (R136, R144). -/
theorem State.handExposure_unlocked {p : Cam} (v : Nat) (ha : (s.chan p).active = false) (hn : (s.chan p).nothingWaits)
    (hl : (s.port p).lock = false) :
    (s.handExposure p v).chan p = { s.chan p with lastServed := .exposure } ∧
      (s.handExposure p v).mgmt.status = s.mgmt.status ||| eventBit (evChannelFault p) := by
  obtain ⟨hq, he, hw⟩ := hn
  unfold State.handExposure
  rw [State.arbitrate_unlocked _ p (by simpa using ha) (by exact hl), State.chan_setChan_self]
  refine ⟨?_, by simp [State.drain, Channel.faultWaits]⟩
  rw [State.chan_drain]
  simp [Channel.drained, hq, he, hw]

/-! ## The work of all four cameras seen from one -/

/-- Two states agree in all that the settle count and the nudge test of camera `c` read, and no status is taken back. -/
structure State.SameAt (c : Cam) (u v : State) : Prop where
  chan : v.chan c = u.chan c
  camBal : v.camBal c = u.camBal c
  ports : v.ports = u.ports
  table : v.bal.table = u.bal.table
  status : StatusGrows u.mgmt.status v.mgmt.status

theorem State.SameAt.refl (c : Cam) (u : State) : State.SameAt c u u := ⟨rfl, rfl, rfl, rfl, StatusGrows.refl _⟩

theorem State.SameAt.trans {c : Cam} {u v w : State} (h : State.SameAt c u v) (h' : State.SameAt c v w) :
    State.SameAt c u w :=
  ⟨h'.chan.trans h.chan, h'.camBal.trans h.camBal, h'.ports.trans h.ports, h'.table.trans h.table,
    h.status.trans h'.status⟩

theorem State.SameAt.port {c : Cam} {u v : State} (h : State.SameAt c u v) : v.port c = u.port c := by
  rw [State.port, h.ports, State.port]

theorem State.SameAt.settleAndNudge_other {c e : Cam} (h : c ≠ e) (u : State) : State.SameAt c u (u.settleAndNudge e) := by
  obtain ⟨hchan, hbal⟩ := State.settleAndNudge_other h u
  obtain ⟨cams, chans, st, res, fil, eq⟩ := u.settleAndNudge_frame e
  exact ⟨hchan, hbal, by rw [eq], by rw [eq], u.settleAndNudge_status e⟩

/-- Where each other camera's work keeps a relation, camera `c`'s own work stands between two states it relates. -/
theorem forCams_around {R : State → State → Prop} (hrefl : ∀ u, R u u) (htrans : ∀ {u v w}, R u v → R v w → R u w)
    (f : Cam → State → State) (c : Cam) (hf : ∀ e, c ≠ e → ∀ u, R u (f e u)) (s : State) :
    ∃ u, R s u ∧ R (f c u) (forCams f s) := by
  match c with
  | 0 => exact ⟨s, hrefl _, htrans (htrans (hf 1 (by decide) _) (hf 2 (by decide) _)) (hf 3 (by decide) _)⟩
  | 1 => exact ⟨f 0 s, hf 0 (by decide) _, htrans (hf 2 (by decide) _) (hf 3 (by decide) _)⟩
  | 2 => exact ⟨f 1 (f 0 s), htrans (hf 0 (by decide) _) (hf 1 (by decide) _), hf 3 (by decide) _⟩
  | 3 =>
    exact ⟨f 2 (f 1 (f 0 s)), htrans (htrans (hf 0 (by decide) _) (hf 1 (by decide) _)) (hf 2 (by decide) _), hrefl _⟩

/-- Camera `c` finds its own blocks as the gain work left them, and the cameras after it leave them as it makes them. -/
theorem State.balanceTurnover_at (s : State) (c : Cam) : ∃ u, State.SameAt c s.gainTurnover u ∧
    State.SameAt c (u.settleAndNudge c) s.balanceTurnover :=
  forCams_around (State.SameAt.refl c) State.SameAt.trans State.settleAndNudge c
    (fun _ he u => State.SameAt.settleAndNudge_other he u) s.gainTurnover

end Sys2Proof.Machine
end

section
/-! SUPPORT. The balance unit in a turnover with no Balance Table due: what the tables of cameras leave it (R8, R72), and
what the work behind it leaves of it (R147). -/

namespace Sys2Proof.Machine

variable {s : State}

/-! ## The tables of cameras before it -/

/-- A due table of a camera moves no gain and no target (R72). -/
theorem State.applyCamTable_gain (s : State) (d : TableLoad) (c : Cam) :
    ((s.applyCamTable d).camBal c).gain = (s.camBal c).gain ∧
      ((s.applyCamTable d).camBal c).target = (s.camBal c).target := by
  unfold State.applyCamTable
  split
  · obtain ⟨ch, st, res, fil, e⟩ := s.applyProfile_frame d.cam d.content
    rw [e]
    by_cases hc : c = d.cam
    · subst hc
      simp [State.camBal, Balance.quiet]
    · simp [State.camBal, Quad.get_set_ne _ _ _ _ hc]
  · exact ⟨rfl, rfl⟩
  · exact ⟨rfl, rfl⟩

theorem State.applyCamTables_gain (s : State) (ds : List TableLoad) (c : Cam) :
    ((ds.foldl State.applyCamTable s).camBal c).gain = (s.camBal c).gain ∧
      ((ds.foldl State.applyCamTable s).camBal c).target = (s.camBal c).target := by
  induction ds generalizing s with
  | nil => exact ⟨rfl, rfl⟩
  | cons d ds ih =>
    obtain ⟨hg, ht⟩ := s.applyCamTable_gain d c
    obtain ⟨hg', ht'⟩ := ih (s.applyCamTable d)
    exact ⟨hg'.trans hg, ht'.trans ht⟩

/-- With no Camera Profile due the tables of cameras change nothing of a port's profile and link, and no other block. -/
theorem State.applyCamTables_frame_of_no_profile (ds : List TableLoad) (s : State)
    (h : ∀ d ∈ ds, d.table ≠ .cameraProfile) : ∃ ports, ds.foldl State.applyCamTable s = { s with ports := ports } ∧
      ∀ p, (ports.get p).profile = (s.port p).profile ∧ (ports.get p).lock = (s.port p).lock := by
  induction ds generalizing s with
  | nil => exact ⟨s.ports, rfl, fun _ => ⟨rfl, rfl⟩⟩
  | cons d ds ih =>
    obtain ⟨q, hq, hprofile, hlock⟩ : ∃ q, s.applyCamTable d = s.setPort d.cam q ∧
        q.profile = (s.port d.cam).profile ∧ q.lock = (s.port d.cam).lock := by
      unfold State.applyCamTable
      split
      · rename_i ht
        exact absurd ht (h d List.mem_cons_self)
      · exact ⟨_, rfl, rfl, rfl⟩
      · exact ⟨s.port d.cam, (s.setPort_port_self d.cam).symm, rfl, rfl⟩
    obtain ⟨ports, e, hp⟩ := ih (s.setPort d.cam q) fun d' hd' => h d' (List.mem_cons_of_mem d hd')
    refine ⟨ports, by rw [List.foldl_cons, hq, e]; rfl, fun p => ?_⟩
    rw [(hp p).1, (hp p).2]
    by_cases hc : p = d.cam
    · subst hc
      rw [State.port_setPort_self]
      exact ⟨hprofile, hlock⟩
    · rw [State.port_setPort_ne _ _ _ _ hc]
      exact ⟨rfl, rfl⟩

/-! ## The work behind it -/

theorem State.beforeModes_status (s : State) : s.beforeModes.mgmt.status = s.balanced.mgmt.status := by
  obtain ⟨r, ovl, band, res, fil, e1⟩ := s.balanced.otherTables_frame (dueContent s.dueTables .modeRules)
    (dueContent s.dueTables .bands) (dueContent s.dueTables .palette) (dueContent s.dueTables .glyphs)
    (dueContent s.dueTables .overlay)
  change s.turnRings.applyTables s.dueTables = _ at e1
  obtain ⟨l, res', fil', e2⟩ := (s.turnRings.applyTables s.dueTables).finishLoad_frame
  obtain ⟨more, b, e3, -⟩ := (s.turnRings.applyTables s.dueTables).finishLoad.finishBootTable_frame
  rw [State.beforeModes, e3, e2, e1]

theorem State.turnover_status_of_balanced (hq : s.mgmt.queue = []) :
    StatusGrows s.balanced.mgmt.status s.turnover.mgmt.status := by
  have h := s.beforeModes.modeTurnover_status
  rw [s.beforeModes_status] at h
  obtain ⟨u, hu, ht⟩ := State.turnover_of_queue hq
  rw [ht, hu]
  exact h

theorem State.balanced_of_no_balance (hb : ∀ d ∈ s.dueTables, d.table ≠ .balance) :
    s.balanced = (s.dueTables.foldl State.applyCamTable s.turnRings).balanceTurnover := by
  have hnone : dueContent s.dueTables .balance = none := by
    rw [dueContent, List.find?_eq_none.mpr fun d hd => by simpa using hb d hd]
    rfl
  rw [State.balanced, hnone, State.turnBalance]

/-! ## The whole turnover seen from one camera -/

/-- Camera `c` finds its blocks as the tables of cameras and the gain work left them, and its own settle count and nudge
test are what the turnover leaves of them. -/
theorem State.turnover_at (hq : s.mgmt.queue = []) (hb : ∀ d ∈ s.dueTables, d.table ≠ .balance) (c : Cam) : ∃ u,
    State.SameAt c (s.dueTables.foldl State.applyCamTable s.turnRings).gainTurnover u ∧
      State.SameAt c (u.settleAndNudge c) s.turnover := by
  obtain ⟨u, hbefore, hbehind⟩ := (s.dueTables.foldl State.applyCamTable s.turnRings).balanceTurnover_at c
  rw [← State.balanced_of_no_balance hb] at hbehind
  refine ⟨u, hbefore, hbehind.trans ⟨?_, ?_, ?_, ?_, State.turnover_status_of_balanced hq⟩⟩
  · rw [State.chan, State.turnover_chans hq, State.chan]
  · rw [State.camBal, State.turnover_bal hq, State.camBal]
  · rw [State.turnover_ports hq, s.balanced_ports]
  · rw [State.turnover_bal hq]

/-- The gain and the target of camera `c` after the turnover are those of its gain work on the records before it, whatever
Camera Profile is due (R63, R64). -/
theorem State.turnover_gain (hq : s.mgmt.queue = []) (hb : ∀ d ∈ s.dueTables, d.table ≠ .balance) (c : Cam) :
    s.turnover.bal.table = s.bal.table ∧
    (balancePartner s.bal.table c = none →
      (s.turnover.camBal c).gain = (s.camBal c).gain ∧ (s.turnover.camBal c).target = (s.camBal c).target) ∧
    ∀ p, balancePartner s.bal.table c = some p →
      (s.turnover.camBal c).gain = stepGain (s.camBal c).gain (s.nextTarget c p (s.camBal c).target) ∧
      (s.turnover.camBal c).target = s.nextTarget c p (s.camBal c).target := by
  obtain ⟨u, hbefore, hbehind⟩ := State.turnover_at hq hb c
  obtain ⟨hkeptGain, hkeptTarget⟩ := s.turnRings.applyCamTables_gain s.dueTables c
  obtain ⟨ports, chans, cams, st, res, fil, e⟩ := s.turnRings.applyCamTables_frame s.dueTables
  generalize s.dueTables.foldl State.applyCamTable s.turnRings = v at *
  have htable : v.bal.table = s.bal.table := by rw [e]; rfl
  have hnext : ∀ p held, v.nextTarget c p held = s.nextTarget c p held := fun p held => by rw [e]; rfl
  obtain ⟨hgain, htarget⟩ := u.settleAndNudge_gain c
  rw [← hbehind.camBal, hbefore.camBal, State.gainTurnover_camBal, htable] at hgain htarget
  obtain ⟨cams', chans', st', res', fil', e'⟩ := u.settleAndNudge_frame c
  refine ⟨?_, fun hp => ?_, fun p hp => ?_⟩
  · rw [hbehind.table, e']
    exact hbefore.table.trans htable
  · rw [hp] at hgain htarget
    exact ⟨hgain.trans hkeptGain, htarget.trans hkeptTarget⟩
  · rw [hp, Balance.turnover_follower, hkeptTarget, hnext] at hgain htarget
    exact ⟨hgain.trans (by rw [hkeptGain]; rfl), htarget⟩

/-- With no Camera Profile due camera `c` finds its records as the gain work on those before the turnover leaves them, its
channel as it was, and its port's profile and link. -/
theorem State.turnover_at_of_no_profile (hq : s.mgmt.queue = []) (hb : ∀ d ∈ s.dueTables, d.table ≠ .balance)
    (hp : ∀ d ∈ s.dueTables, d.table ≠ .cameraProfile) (c : Cam) : ∃ u : State,
      u.chan c = s.chan c ∧ (u.port c).profile = (s.port c).profile ∧ (u.port c).lock = (s.port c).lock ∧
      u.bal.table = s.bal.table ∧ u.camBal c = (s.camBal c).turnover (balancePartner s.bal.table c) s.comp.plan
        s.comp.seam s.comp.incomplete c ∧
      State.SameAt c (u.settleAndNudge c) s.turnover := by
  obtain ⟨u, hbefore, hbehind⟩ := State.turnover_at hq hb c
  obtain ⟨ports, e, hports⟩ := State.applyCamTables_frame_of_no_profile s.dueTables s.turnRings hp
  rw [e] at hbefore
  obtain ⟨hprofile, hlock⟩ := hports c
  rw [State.turnRings_port] at hprofile hlock
  refine ⟨u, hbefore.chan, ?_, ?_, hbefore.table, hbefore.camBal.trans (State.gainTurnover_camBal _ c), hbehind⟩
  · rw [hbefore.port]
    exact hprofile
  · rw [hbefore.port]
    exact hlock

end Sys2Proof.Machine
end

section
/-! PROOF. What a turnover makes of each gain, run and settle count, and its nudges (O55; R63, R64, R68 to R70, R140). -/

namespace Sys2Proof.Machine

variable {s : State}

/-- A computed target is the figure of R63, from the frame just ended. -/
theorem State.nextTarget_computed {c p : Cam} (h : s.targetComputed c p) (held : Nat) : s.nextTarget c p held =
    max 128 (min 512 ((s.comp.plan.gain.get p * (s.comp.seam.pair c p).2.1 + (s.comp.seam.pair c p).1 / 2) /
      (s.comp.seam.pair c p).1)) := by
  rw [State.nextTarget, if_pos h]
  rfl

theorem State.nextTarget_held {c p : Cam} (h : ¬s.targetComputed c p) (held : Nat) : s.nextTarget c p held = held :=
  if_neg h

/-- A follower whose Camera Profile stands comes to its nudge test with its settle count as it was, its runs counted for
this turnover, and its channel, profile and link as they were. -/
theorem State.turnover_follower (hq : s.mgmt.queue = []) (hb : ∀ d ∈ s.dueTables, d.table ≠ .balance)
    (hprof : ∀ d ∈ s.dueTables, d.table ≠ .cameraProfile) {c p : Cam} (hp : balancePartner s.bal.table c = some p) :
    ∃ u : State, u.chan c = s.chan c ∧ (u.port c).profile = (s.port c).profile ∧ (u.port c).lock = (s.port c).lock ∧
      balancePartner u.bal.table c = some p ∧ (u.camBal c).settle = (s.camBal c).settle ∧
      (u.camBal c).high = s.nextHigh c p (s.turnover.camBal c).target (s.camBal c).high ∧
      (u.camBal c).low = s.nextLow c p (s.turnover.camBal c).target (s.camBal c).low ∧
      State.SameAt c (u.settleAndNudge c) s.turnover := by
  obtain ⟨-, -, hfollows⟩ := State.turnover_gain hq hb c
  obtain ⟨-, htarget⟩ := hfollows p hp
  obtain ⟨u, hchan, hprofile, hlock, htable, hbal, hafter⟩ := State.turnover_at_of_no_profile hq hb hprof c
  rw [hp, Balance.turnover_follower] at hbal
  refine ⟨u, hchan, hprofile, hlock, by rw [htable, hp], ?_, ?_, ?_, hafter⟩
  · rw [hbal]
  · rw [hbal, htarget]
  · rw [hbal, htarget]

/-- Settles O55: gains and targets from `State.turnover_gain`, the rest from the nudge test of the one camera. -/
theorem turnoverStepsEachGain : Obligations.TurnoverStepsEachGain := by
  intro s c hq hb
  obtain ⟨htable, href, hfollows⟩ := State.turnover_gain hq hb c
  refine ⟨s.turnover, rfl, htable, href, fun p hp => ?_, fun hprof => ⟨fun hp => ?_, fun p hp high low hhigh hlow => ?_⟩⟩
  · obtain ⟨hgain, htarget⟩ := hfollows p hp
    refine ⟨by rw [hgain, htarget, stepGain_toInt], fun hheld => ?_, fun hwhole hcount hsum hc hpl => ?_⟩
    · rw [htarget]
      refine State.nextTarget_held ?_ _
      rintro ⟨hwhole, hcount, hsum, hc, hpl⟩
      simp [hwhole, Nat.not_lt_of_le hcount, hsum, hc, hpl] at hheld
    · rw [htarget, State.nextTarget_computed ⟨hwhole, hcount, hsum, hc, hpl⟩]
  · obtain ⟨u, hchan, -, -, hutable, hbal, hafter⟩ := State.turnover_at_of_no_profile hq hb hprof c
    rw [State.settleAndNudge_still (Or.inl (by rw [hutable, hp]))] at hafter
    rw [hafter.camBal, hafter.chan, State.camBal_setBal_self, State.chan_setBal, hbal, hp, hchan]
    exact ⟨rfl, rfl⟩
  · obtain ⟨u, hchan, hprofile, hlock, hup, hsettle, huhigh, hulow, hafter⟩ := State.turnover_follower hq hb hprof hp
    replace huhigh : (u.camBal c).high = high := huhigh.trans hhigh.symm
    replace hulow : (u.camBal c).low = low := hulow.trans hlow.symm
    refine ⟨fun x e v hx he hv hne hs => ?_, fun hstill => ?_⟩
    · have hvalue : nudgeValue x e (u.camBal c) = some v := by
        rwa [nudgeValue_eq_some_iff, huhigh, hulow]
      rw [State.settleAndNudge_nudges hup (hsettle ▸ hs) (hprofile ▸ hx) (hchan ▸ he) hvalue hne] at hafter
      have hidle (hcons : ChannelsConsistent s) (ha : (s.chan c).active = false) : (s.chan c).nothingWaits :=
        ((channelsConsistent_iff s).mp hcons c).nothingWaits ha
      have hbal := hafter.camBal
      rw [State.handExposure_camBal, State.camBal_setBal_self, Balance.nudged_eq, huhigh, hulow] at hbal
      have hwchan : (u.setBal c (u.camBal c).nudged).chan c = s.chan c := hchan
      have hwprofile : ((u.setBal c (u.camBal c).nudged).port c).profile = (s.port c).profile := hprofile
      have hwlock : ((u.setBal c (u.camBal c).nudged).port c).lock = (s.port c).lock := hlock
      rw [hbal]
      refine ⟨rfl, rfl, rfl, fun hcons hl => ?_, fun hcons ha hl => ?_⟩
      · rw [hafter.chan, State.handExposure_chan v (hwchan ▸ hidle hcons) (by rwa [hwchan, hwlock])
          (by rwa [hwprofile]), hwchan, hwprofile]
      · obtain ⟨hserved, hfault⟩ := State.handExposure_unlocked v (by rwa [hwchan]) (by rw [hwchan]; exact hidle hcons ha)
          (hwlock.trans hl)
        refine ⟨by rw [hafter.chan, hserved, hwchan], hafter.status.kept _ ?_⟩
        rw [hfault, BitVec.getLsbD_or, getLsbD_eventBit _ _ (by omega)]
        simp [evChannelFault]
    · have hnone : 1 < (u.camBal c).settle ∨ u.NoNudge c :=
        hstill.imp (fun h => hsettle ▸ h) fun h => State.noNudge_of (by rwa [hprofile, hchan, huhigh, hulow])
      rw [State.settleAndNudge_still (Or.inr hnone)] at hafter
      rw [hafter.camBal, hafter.chan, State.camBal_setBal_self, State.chan_setBal, hchan, Balance.settleStep]
      exact ⟨by rw [hsettle], huhigh, hulow, rfl⟩

end Sys2Proof.Machine
end

section
/-! PROOF. The pending element list (R94, R95): what a change leaves of it, the request's tests, and O26. -/

namespace Sys2Proof.Machine

variable {s : State}

/-! ## The list after a change (R95) -/

theorem any_index_eq_false {edits : List Edit} {n : Nat} (h : ∀ x ∈ edits, x.index ≠ n) :
    (edits.any fun x => x.index == n) = false :=
  List.any_eq_false.mpr fun x hx => by simpa using h x hx

/-- The entry of an index that has one is the entry found. -/
theorem find_edit_of_old {before after : List Edit} {old : Edit} {n : Nat} (hold : old.index = n)
    (h : ∀ x ∈ before ++ after, x.index ≠ n) :
    ((before ++ old :: after).find? fun x => x.index == n) = some old := by
  have hbefore : (before.find? fun x => x.index == n) = none :=
    List.find?_eq_none.mpr fun x hx => by simpa using h x (List.mem_append_left after hx)
  rw [List.find?_append, hbefore, Option.none_or, List.find?_cons_of_pos (by simpa using hold)]

/-- Entries of other indices stand when an entry is replaced. -/
theorem map_replace_of_ne {edits : List Edit} {e : Edit} (h : ∀ x ∈ edits, x.index ≠ e.index) :
    (edits.map fun x => if x.index = e.index then e else x) = edits := by
  conv_rhs => rw [← List.map_id edits]
  exact List.map_congr_left fun x hx => if_neg (h x hx)

theorem putEdit_of_new {edits : List Edit} {e : Edit} (h : ∀ x ∈ edits, x.index ≠ e.index) :
    putEdit edits e = edits ++ [e] := by
  rw [putEdit, any_index_eq_false h, if_neg Bool.false_ne_true]

theorem putEdit_of_old {before after : List Edit} {old e : Edit} (hold : old.index = e.index)
    (h : ∀ x ∈ before ++ after, x.index ≠ e.index) :
    putEdit (before ++ old :: after) e = before ++ e :: after := by
  have hany : ((before ++ old :: after).any fun x => x.index == e.index) = true :=
    List.any_eq_true.mpr ⟨old, by simp, by simpa using hold⟩
  rw [putEdit, if_pos hany, List.map_append, List.map_cons, if_pos hold,
    map_replace_of_ne fun x hx => h x (List.mem_append_left after hx),
    map_replace_of_ne fun x hx => h x (List.mem_append_right before hx)]

/-- A change of an index without an entry waits at the tail, and no request is answered. -/
theorem State.joinEdits_of_new {e : Edit} (h : ∀ x ∈ s.ovl.edits, x.index ≠ e.index) :
    s.joinEdits e = { s with ovl.edits := s.ovl.edits ++ [e] } := by
  have hfind : (s.ovl.edits.find? fun x => x.index == e.index) = none :=
    List.find?_eq_none.mpr fun x hx => by simpa using h x hx
  simp only [State.joinEdits, hfind, putEdit_of_new h]

/-- A change of an index that has an entry takes its place, and the request replaced is answered. -/
theorem State.joinEdits_of_old {before after : List Edit} {old e : Edit} (hs : s.ovl.edits = before ++ old :: after)
    (hold : old.index = e.index) (h : ∀ x ∈ before ++ after, x.index ≠ e.index) :
    s.joinEdits e =
      ({ s with ovl.edits := before ++ e :: after } : State).answerWith old.ticket .superseded [] := by
  simp only [State.joinEdits, hs, find_edit_of_old hold h, putEdit_of_old hold h, State.answer]

/-! ## The tests of a request (R94) -/

theorem editsFull_eq_true {edits : List Edit} {n : Nat} (hlen : 16 ≤ edits.length) (h : ∀ x ∈ edits, x.index ≠ n) :
    editsFull edits n = true := by
  simp [editsFull, Config.editPlaces, any_index_eq_false h, hlen]

theorem editsFull_of_room {edits : List Edit} (hlen : edits.length < 16) (n : Nat) : editsFull edits n = false := by
  simp [editsFull, Config.editPlaces, Nat.not_le.mpr hlen]

theorem editsFull_of_old (before after : List Edit) (old : Edit) :
    editsFull (before ++ old :: after) old.index = false := by
  simp [editsFull]

/-- A change of the element at an index, by the tests that ELEMENT-WRITE and ELEMENT-CLEAR share (R94). -/
def State.serveEdit (s : State) (t : Ticket) (index : Byte) (change : Option (List Byte)) : State :=
  if 63 < index.toNat then s.answer t .badArgument
  else if editsFull s.ovl.edits index.toNat then s.answer t .busy
  else s.joinEdits ⟨index.toNat, change, t⟩

theorem State.serveElementClear_eq (s : State) (t : Ticket) (index : Byte) :
    s.serveElementClear t index = s.serveEdit t index none := rfl

theorem State.serveElementWrite_of_ok (s : State) (t : Ticket) (index : Byte) {record : List Byte}
    (h : elementOk record = true) : s.serveElementWrite t index record = s.serveEdit t index (some record) := by
  simp [State.serveElementWrite, State.serveEdit, h]

theorem State.serveElementWrite_out_of_range (s : State) (t : Ticket) {index : Byte} (h : 63 < index.toNat)
    (record : List Byte) : s.serveElementWrite t index record = s.answerWith t .badArgument [] :=
  if_pos h

/-- A record that fails the element check is answered as record 0 of its content (R94, test 2). -/
theorem State.serveElementWrite_of_bad (s : State) (t : Ticket) {index : Byte} (h : index.toNat ≤ 63)
    {record : List Byte} (hbad : elementOk record = false) :
    s.serveElementWrite t index record = s.answerWith t .badContent [0, 0] := by
  rw [State.serveElementWrite, if_neg (Nat.not_lt.mpr h), if_pos (by simp [hbad])]
  rfl

/-! ## A request taken at once (R94, R159) -/

/-- The state in which a request taken at once reaches its owner: a place is reserved for it (R159). -/
def State.withPlace (s : State) : State := { s with mgmt.reserved := s.mgmt.reserved + 1 }

theorem State.withPlace_answerWith (s : State) (t : Ticket) (r : Result) (data : List Byte) :
    s.withPlace.answerWith t r data = s.responded t.tag t.kind r data := s.answerWith_reserved t r data

theorem State.withPlace_serveEdit_out_of_range (t : Ticket) {index : Byte} (h : 63 < index.toNat)
    (change : Option (List Byte)) : s.withPlace.serveEdit t index change = s.responded t.tag t.kind .badArgument [] :=
  (if_pos h).trans (s.withPlace_answerWith t .badArgument [])

section inRange

variable {index : Byte} (hi : index.toNat ≤ 63) (t : Ticket) (change : Option (List Byte))
include hi

theorem State.withPlace_serveEdit_full (hlen : 16 ≤ s.ovl.edits.length)
    (h : ∀ e ∈ s.ovl.edits, e.index ≠ index.toNat) :
    s.withPlace.serveEdit t index change = s.responded t.tag t.kind .busy [] := by
  have hfull : editsFull s.withPlace.ovl.edits index.toNat = true := editsFull_eq_true hlen h
  rw [State.serveEdit, if_neg (Nat.not_lt.mpr hi), if_pos hfull, State.answer, State.withPlace_answerWith]

theorem State.withPlace_serveEdit_new (hlen : s.ovl.edits.length < 16)
    (h : ∀ e ∈ s.ovl.edits, e.index ≠ index.toNat) : s.withPlace.serveEdit t index change =
      { s with
        ovl.edits := s.ovl.edits ++ [⟨index.toNat, change, t⟩]
        mgmt.reserved := s.mgmt.reserved + 1 } := by
  have hroom : editsFull s.withPlace.ovl.edits index.toNat = false := editsFull_of_room hlen index.toNat
  rw [State.serveEdit, if_neg (Nat.not_lt.mpr hi), hroom, if_neg Bool.false_ne_true, State.joinEdits_of_new h]
  rfl

theorem State.withPlace_serveEdit_old {before after : List Edit} {old : Edit}
    (hs : s.ovl.edits = before ++ old :: after) (hold : old.index = index.toNat)
    (h : ∀ e ∈ before ++ after, e.index ≠ index.toNat) : s.withPlace.serveEdit t index change =
      ({ s with ovl.edits := before ++ ⟨index.toNat, change, t⟩ :: after } : State).responded old.ticket.tag
        old.ticket.kind .superseded [] := by
  have hroom : editsFull s.withPlace.ovl.edits index.toNat = false :=
    (congrArg₂ editsFull hs hold.symm).trans (editsFull_of_old before after old)
  rw [State.serveEdit, if_neg (Nat.not_lt.mpr hi), hroom, if_neg Bool.false_ne_true,
    State.joinEdits_of_old (s := s.withPlace) (e := ⟨index.toNat, change, t⟩) hs hold h]
  exact State.withPlace_answerWith { s with ovl.edits := _ } old.ticket .superseded []

end inRange

theorem exec_elementWrite (h : s.takesAtOnce) (tag index : Byte) {record : List Byte} (hl : record.length = 32) :
    exec (.elementWrite tag index record) s = .next (s.withPlace.serveElementWrite ⟨tag, 0x20⟩ index record) := by
  have hpay : ((Req.elementWrite index record).toRequest tag).payload.length = 33 := congrArg (· + 1) hl
  have hparse : parseRequest 0x20 (index :: record) = .ok (.elementWrite index record) := by
    change Parsed.ofLength ((index :: record).length == 33) _ = _
    rw [List.length_cons, hl]
    rfl
  change Host.Outcome.next (s.submit ((Req.elementWrite index record).toRequest tag)) = _
  rw [s.submit_takesAtOnce _ h (by omega), State.serve_of_parse _ _ _ hparse]
  rfl

theorem exec_elementClear (h : s.takesAtOnce) (tag index : Byte) :
    exec (.elementClear tag index) s = .next (s.withPlace.serveEdit ⟨tag, 0x21⟩ index none) := by
  change Host.Outcome.next (s.submit ((Req.elementClear index).toRequest tag)) = _
  rw [s.submit_takesAtOnce ((Req.elementClear index).toRequest tag) h (show 1 ≤ 56 by decide),
    State.serve_of_parse _ _ (.elementClear index) rfl]
  exact congrArg Host.Outcome.next (s.withPlace.serveElementClear_eq ⟨tag, 0x21⟩ index)

/-! ## O26 -/

/-- Settles O26: the tests that are ELEMENT-WRITE's own, then those that both requests share. -/
theorem elementRequestsJoinThePendingList : Obligations.ElementRequestsJoinThePendingList := by
  intro tag index record s hs hl
  rw [exec_elementWrite hs tag index hl, exec_elementClear hs tag index]
  have hwrite (hok : elementOk record = true) := s.withPlace.serveElementWrite_of_ok ⟨tag, 0x20⟩ index hok
  refine ⟨fun hout => ⟨?_, ?_⟩, fun hi => ⟨fun hbad => ?_, fun hnew => ⟨fun hlen => ⟨fun hok => ?_, ?_⟩,
    fun hlen => ⟨fun hok => ?_, ?_⟩⟩, fun before after old hedits hold hothers => ⟨fun hok => ?_, ?_⟩⟩⟩
  · rw [State.serveElementWrite_out_of_range _ _ hout, State.withPlace_answerWith]
  · rw [State.withPlace_serveEdit_out_of_range _ hout]
  · rw [State.serveElementWrite_of_bad _ _ hi hbad, State.withPlace_answerWith]
  · rw [hwrite hok, State.withPlace_serveEdit_full hi _ _ hlen hnew]
  · rw [State.withPlace_serveEdit_full hi _ _ hlen hnew]
  · rw [hwrite hok, State.withPlace_serveEdit_new hi _ _ hlen hnew]
  · rw [State.withPlace_serveEdit_new hi _ _ hlen hnew]
  · rw [hwrite hok, State.withPlace_serveEdit_old hi _ _ hedits hold hothers]
  · rw [State.withPlace_serveEdit_old hi _ _ hedits hold hothers]

end Sys2Proof.Machine
end

section
/-! PROOF. Which elements a frame shows (R79, R83, R86, R90, R91) and in what order (R80, R87). -/

namespace Sys2Proof.Machine

variable {v : FrameView} {t : BandTable} {glyphs rec : List Byte}

/-! ## The conditions every kind shares (R79) -/

/-- Every role of a set is asserted. -/
theorem ofNat_and_eq_self_iff (a : Nat) (r : BitVec 6) :
    BitVec.ofNat 6 a &&& r = BitVec.ofNat 6 a ↔ ∀ k < 6, a.testBit k = true → r.getLsbD k = true := by
  rw [BitVec.eq_of_getLsbD_eq_iff]
  refine forall_congr' fun k => forall_congr' fun hk => ?_
  simp only [BitVec.getLsbD_and, BitVec.getLsbD_ofNat, hk, decide_true, Bool.true_and]
  cases a.testBit k <;> simp

/-- Every role of a set is negated. -/
theorem ofNat_and_eq_zero_iff (a : Nat) (r : BitVec 6) :
    BitVec.ofNat 6 a &&& r = 0 ↔ ∀ k < 6, a.testBit k = true → r.getLsbD k = false := by
  rw [BitVec.eq_of_getLsbD_eq_iff]
  refine forall_congr' fun k => forall_congr' fun hk => ?_
  simp only [BitVec.getLsbD_and, BitVec.getLsbD_ofNat, hk, decide_true, Bool.true_and]
  cases a.testBit k <;> simp

theorem any_allCams_iff (f : Cam → Bool) : allCams.any f = true ↔ ∃ c, f c = true := by
  have hall (c : Cam) : c ∈ allCams := by fin_cases c <;> simp [allCams]
  simp [List.any_eq_true, hall]

theorem commonShown_iff (v : FrameView) (rec : List Byte) : commonShown v rec = true ↔ ElementConditions v rec := by
  simp only [commonShown, inSet, Bool.and_eq_true, Bool.or_eq_true, decide_eq_true_iff, ofNat_and_eq_self_iff,
    ofNat_and_eq_zero_iff, any_allCams_iff, Bool.not_eq_true', and_assoc]
  rfl

/-! ## Each kind's own test -/

theorem guideLook_eq_some_iff (k : Look) : guideLook v t rec = some k ↔
    ∃ points, (t.curves.getD v.band [])[byteAt rec 8]? = some points ∧
      ((v.vd = .fresh ∧ k = .guide (byteAt rec 7) false (byteAt rec 9) points) ∨
        (v.vd = .stale ∧ k = .guide t.colour true (byteAt rec 9) points)) := by
  unfold guideLook
  cases (t.curves.getD v.band [])[byteAt rec 8]? with
  | none => simp
  | some points => cases v.vd <;> simp [elColour, eq_comm]

/-- The class of a range, by thresholds that rise (R86). -/
theorem zoneClass_eq_some_iff {near mid far : Nat} (hnm : near < mid) (hmf : mid < far) (r : Nat) (cls : ZoneClass) :
    zoneClass near mid far r = some cls ↔
      (r < near ∧ cls = .near) ∨ (near ≤ r ∧ r < mid ∧ cls = .mid) ∨ (mid ≤ r ∧ r < far ∧ cls = .far) := by
  unfold zoneClass
  by_cases hfar : far ≤ r
  · rw [if_pos hfar]
    exact iff_of_false nofun (by omega)
  rw [if_neg hfar]
  by_cases hnear : r < near
  · have hmid : ¬mid ≤ r := by omega
    simp [hnear, hmid, eq_comm]
  · by_cases hmid : r < mid
    · simp [hnear, hmid, Nat.not_lt.mp hnear, eq_comm]
    · simp [hnear, hmid, Nat.not_lt.mp hmid, Nat.not_le.mp hfar, eq_comm]

theorem index8_eq_some_iff (n : Nat) (i : Fin 8) : index8 n = some i ↔ n = i.val := by
  unfold index8
  split
  · rw [Option.some_inj, Fin.ext_iff]
  · exact iff_of_false (by simp) (by omega)

/-- With data that is FRESH or STALE and a range read, age and class decide (R86). -/
theorem zoneLook_of_range (hv : v.vd = .fresh ∨ v.vd = .stale) {i : Fin 8} (hi : index8 (byteAt rec 8) = some i) {r : Nat}
    (hr : (v.sensors.get i).reading = .range r) : zoneLook v rec =
      if 500 < (v.sensors.get i).age then none
      else (zoneClass (u16At rec 9) (u16At rec 11) (u16At rec 13) r).map fun cls =>
        .zone cls (zoneColour rec cls) (rectBytes rec 18) (decide (byteAt rec 26 = 0)) := by
  unfold zoneLook sensorIndex
  rw [hi]
  obtain h | h := hv <;> simp only [h, hr] <;> rfl

/-- A ZONE is shown only with data that is FRESH or STALE and a range read (R86). -/
theorem zoneLook_range {k : Look} (h : zoneLook v rec = some k) : (v.vd = .fresh ∨ v.vd = .stale) ∧
    ∃ (i : Fin 8) (r : Nat), index8 (byteAt rec 8) = some i ∧ (v.sensors.get i).reading = .range r := by
  unfold zoneLook sensorIndex at h
  cases hi : index8 (byteAt rec 8) with
  | none => simp [hi] at h
  | some i =>
    rw [hi] at h
    cases hr : (v.sensors.get i).reading with
    | none => cases hv : v.vd <;> simp [hr, hv] at h
    | noEcho => cases hv : v.vd <;> simp [hr, hv] at h
    | range r =>
      refine ⟨?_, i, r, rfl, hr⟩
      cases hv : v.vd <;> simp [hv] at h ⊢

/-- A ZONE whose sensor has a usable range takes the class of the range; any other is hidden (R86). -/
theorem zoneLook_eq_some_iff_zoneClass (k : Look) : zoneLook v rec = some k ↔
    (v.vd = .fresh ∨ v.vd = .stale) ∧ ∃ (i : Fin 8) (r : Nat) (cls : ZoneClass),
      byteAt rec 8 = i.val ∧ (v.sensors.get i).reading = .range r ∧ (v.sensors.get i).age ≤ 500 ∧
      zoneClass (u16At rec 9) (u16At rec 11) (u16At rec 13) r = some cls ∧
      k = .zone cls (zoneColour rec cls) (rectBytes rec 18) (decide (byteAt rec 26 = 0)) := by
  simp only [← index8_eq_some_iff]
  constructor
  · intro h
    obtain ⟨hv, i, r, hi, hr⟩ := zoneLook_range h
    rw [zoneLook_of_range hv hi hr, Option.ite_none_left_eq_some, Nat.not_lt, Option.map_eq_some_iff] at h
    obtain ⟨hage, cls, hcls, hk⟩ := h
    exact ⟨hv, i, r, cls, hi, hr, hage, hcls, hk.symm⟩
  · rintro ⟨hv, i, r, cls, hi, hr, hage, hcls, rfl⟩
    rw [zoneLook_of_range hv hi hr, if_neg (Nat.not_lt.mpr hage), hcls, Option.map_some]

theorem zoneLook_eq_some_iff (hnm : u16At rec 9 < u16At rec 11) (hmf : u16At rec 11 < u16At rec 13) (k : Look) :
    zoneLook v rec = some k ↔
      (v.vd = .fresh ∨ v.vd = .stale) ∧ ∃ (i : Fin 8) (r : Nat) (cls : ZoneClass) (colour : Nat),
        byteAt rec 8 = i.val ∧ (v.sensors.get i).reading = .range r ∧ (v.sensors.get i).age ≤ 500 ∧
        k = .zone cls colour (rectBytes rec 18) (decide (byteAt rec 26 = 0)) ∧
        ((r < u16At rec 9 ∧ cls = .near ∧ colour = byteAt rec 15) ∨
          (u16At rec 9 ≤ r ∧ r < u16At rec 11 ∧ cls = .mid ∧ colour = byteAt rec 16) ∨
          (u16At rec 11 ≤ r ∧ r < u16At rec 13 ∧ cls = .far ∧ colour = byteAt rec 17)) := by
  rw [zoneLook_eq_some_iff_zoneClass]
  simp only [zoneClass_eq_some_iff hnm hmf]
  refine and_congr_right fun _ => exists_congr fun i => exists_congr fun r => exists_congr fun cls => ?_
  cases cls <;> simp [zoneColour] <;> tauto

/-- In a store whose indices differ, the glyph found is the one held under the index (R88). -/
theorem find_glyph_eq_some_iff {gs : List Glyph} (h : (gs.map Glyph.index).Nodup) (n : Nat) (g : Glyph) :
    (gs.find? fun x => x.index == n) = some g ↔ g ∈ gs ∧ g.index = n := by
  constructor
  · intro hf
    exact ⟨List.mem_of_find?_eq_some hf, by simpa using List.find?_some hf⟩
  · rintro ⟨hg, rfl⟩
    cases hf : gs.find? fun x => x.index == g.index with
    | none => simpa using List.find?_eq_none.mp hf g hg
    | some g' =>
      have hi : g'.index = g.index := by simpa using List.find?_some hf
      rw [List.inj_on_of_nodup_map h (List.mem_of_find?_eq_some hf) hg hi]

theorem glyphStoreOf_nodup (h : contentCheck .glyphs glyphs = none) : ((glyphStoreOf glyphs).map Glyph.index).Nodup := by
  obtain ⟨gs, hgs, rfl⟩ := (contentCheck_glyphs_eq_none_iff glyphs).mp h
  rw [glyphStoreOf, readGlyphs_bytes hgs, List.map_map]
  obtain ⟨-, hnd, -⟩ := hgs
  exact hnd

theorem iconLook_eq_some_iff (h : contentCheck .glyphs glyphs = none) (k : Look) : iconLook glyphs rec = some k ↔
    ∃ g ∈ glyphStoreOf glyphs, g.index = byteAt rec 8 ∧ k = .icon (s16At rec 9) (s16At rec 11) g := by
  simp only [iconLook, findGlyph, Option.map_eq_some_iff, find_glyph_eq_some_iff (glyphStoreOf_nodup h), and_assoc,
    eq_comm (a := k)]

/-- The kind-specific test and the appearance it gives (R79, R80), by the record's kind. -/
theorem kindLook_eq_some_iff (hrec : ElementGood rec) (hg : contentCheck .glyphs glyphs = none) (k : Look) :
    kindLook v t glyphs rec = some k ↔ ElementTakes v t glyphs rec k := by
  obtain ⟨hkind, -, -, -, -, -, -, -, -, -, hzone, -⟩ := hrec
  unfold ElementTakes kindLook
  match hk : byteAt rec 0, hkind with
  | 0, _ => simp [elKind, hk]
  | 1, _ => simp [elKind, hk, guideLook_eq_some_iff]
  | 2, _ =>
    obtain ⟨-, -, hnm, hmf, -⟩ := hzone hk
    simp [elKind, hk, zoneLook_eq_some_iff hnm hmf]
  | 3, _ => simp [elKind, hk, iconLook_eq_some_iff hg]
  | 4, _ => simp [elKind, hk, elColour, rectAt, rectBytes, eq_comm (b := k)]

/-! ## A shown element (R79) -/

theorem shownEntry_eq_some_iff (index : Nat) (e : DrawEntry) : shownEntry v t glyphs index rec = some e ↔
    ElementConditions v rec ∧ e.index = index ∧ e.record = rec ∧ kindLook v t glyphs rec = some e.look := by
  rw [← commonShown_iff]
  unfold shownEntry
  split
  · rename_i hshown
    rw [Option.map_eq_some_iff]
    constructor
    · rintro ⟨k, hk, rfl⟩
      exact ⟨hshown, rfl, rfl, hk⟩
    · rintro ⟨-, rfl, rfl, hk⟩
      exact ⟨e.look, hk, rfl⟩
  · rename_i hhidden
    exact iff_of_false nofun fun h => hhidden h.1

theorem shownEntry_index {index : Nat} {e : DrawEntry} (h : shownEntry v t glyphs index rec = some e) :
    e.index = index := ((shownEntry_eq_some_iff index e).mp h).2.1

/-! ## The draw list (R80) -/

/-- The entries of one layer, by index. -/
def layerEntries (v : FrameView) (t : BandTable) (glyphs : List Byte) (elements : List (List Byte)) (layer : Nat) :
    List DrawEntry :=
  (List.range elements.length).filterMap fun i =>
    if elLayer (elements.getD i []) = layer then shownEntry v t glyphs i (elements.getD i []) else none

theorem buildDrawList_eq (v : FrameView) (t : BandTable) (glyphs : List Byte) (elements : List (List Byte)) :
    buildDrawList v t glyphs elements = (List.range 8).flatMap (layerEntries v t glyphs elements) := rfl

variable {elements : List (List Byte)}

theorem mem_layerEntries_iff (layer : Nat) (e : DrawEntry) : e ∈ layerEntries v t glyphs elements layer ↔
    e.index < elements.length ∧ byteAt e.record 1 = layer ∧
      shownEntry v t glyphs e.index (elements.getD e.index []) = some e := by
  simp only [layerEntries, List.mem_filterMap, List.mem_range, Option.ite_none_right_eq_some]
  constructor
  · rintro ⟨i, hi, hlayer, hshown⟩
    obtain ⟨-, rfl, hrecord, -⟩ := (shownEntry_eq_some_iff i e).mp hshown
    exact ⟨hi, (congrArg (byteAt · 1) hrecord).trans hlayer, hshown⟩
  · rintro ⟨hi, hlayer, hshown⟩
    obtain ⟨-, -, hrecord, -⟩ := (shownEntry_eq_some_iff e.index e).mp hshown
    exact ⟨e.index, hi, (congrArg (byteAt · 1) hrecord).symm.trans hlayer, hshown⟩

theorem mem_buildDrawList_iff (hlayers : ∀ rec ∈ elements, byteAt rec 1 < 8) (e : DrawEntry) :
    e ∈ buildDrawList v t glyphs elements ↔
      e.index < elements.length ∧ shownEntry v t glyphs e.index (elements.getD e.index []) = some e := by
  simp only [buildDrawList_eq, List.mem_flatMap, List.mem_range, mem_layerEntries_iff]
  constructor
  · rintro ⟨layer, -, hi, -, hshown⟩
    exact ⟨hi, hshown⟩
  · rintro ⟨hi, hshown⟩
    obtain ⟨-, -, hrecord, -⟩ := (shownEntry_eq_some_iff e.index e).mp hshown
    have hmem : e.record ∈ elements := by
      rw [hrecord, List.getD_eq_getElem _ _ hi]
      exact List.getElem_mem hi
    exact ⟨byteAt e.record 1, hlayers _ hmem, hi, rfl, hshown⟩

/-- Drawn before (R80): a lower layer, or the same layer and a lower index. -/
def DrawnBefore (a b : DrawEntry) : Prop :=
  byteAt a.record 1 < byteAt b.record 1 ∨ (byteAt a.record 1 = byteAt b.record 1 ∧ a.index < b.index)

theorem layerEntries_pairwise (layer : Nat) : (layerEntries v t glyphs elements layer).Pairwise DrawnBefore := by
  have hindex : (layerEntries v t glyphs elements layer).Pairwise fun a b => a.index < b.index := by
    refine List.pairwise_filterMap.mpr (List.pairwise_lt_range.imp fun {i j} hij a ha b hb => ?_)
    rw [Option.ite_none_right_eq_some] at ha hb
    rwa [shownEntry_index ha.2, shownEntry_index hb.2]
  refine hindex.imp_of_mem fun {a b} ha hb hab => Or.inr ⟨?_, hab⟩
  obtain ⟨-, hla, -⟩ := (mem_layerEntries_iff layer a).mp ha
  obtain ⟨-, hlb, -⟩ := (mem_layerEntries_iff layer b).mp hb
  exact hla.trans hlb.symm

theorem buildDrawList_pairwise : (buildDrawList v t glyphs elements).Pairwise DrawnBefore := by
  refine List.pairwise_flatMap.mpr ⟨fun layer _ => layerEntries_pairwise layer,
    List.pairwise_lt_range.imp fun {l m} hlm a ha b hb => Or.inl ?_⟩
  obtain ⟨-, hla, -⟩ := (mem_layerEntries_iff l a).mp ha
  obtain ⟨-, hlb, -⟩ := (mem_layerEntries_iff m b).mp hb
  rwa [hla, hlb]

/-! ## The near indication (R87) -/

theorem DrawEntry.isNear_iff (e : DrawEntry) :
    e.isNear = true ↔ ∃ colour rect filled, e.look = .zone .near colour rect filled := by
  unfold DrawEntry.isNear
  cases e.look with
  | zone cls => cases cls <;> simp
  | guide => simp
  | icon => simp
  | frame => simp

theorem nearOf_iff (entries : List DrawEntry) :
    nearOf entries = true ↔ ∃ e ∈ entries, ∃ colour rect filled, e.look = .zone .near colour rect filled := by
  simp only [nearOf, List.any_eq_true, DrawEntry.isNear_iff]

end Sys2Proof.Machine
end

section
/-! PROOF. What each shown element covers (R84, R85, R87, R90, R91), how it is composited (R82), and O60. -/

namespace Sys2Proof.Machine

/-! ## A step of a guide (R84) -/

theorem majorCoordinate_eq (c d : Int) {s : Nat} (h : s ≤ d.natAbs) :
    (if d < 0 then c - s else c + s : Int) = c + d.sign * s := by
  obtain hd | rfl | hd := lt_trichotomy d 0
  · rw [if_pos hd, Int.sign_eq_neg_one_of_neg hd]
    omega
  · obtain rfl : s = 0 := by simpa using h
    simp
  · rw [if_neg (by omega), Int.sign_eq_one_of_pos hd, Int.one_mul]

/-- The rounded minor coordinate; that of a difference 0 is the start's, whatever the length. -/
theorem minorCoordinate_eq (c d : Int) {l : Nat} (s : Nat) (h : d.natAbs ≤ l) :
    (if 0 ≤ d then c + (if l = 0 then 0 else ((2 * s * d.natAbs + l) / (2 * l) : Nat) : Int)
      else c - (if l = 0 then 0 else ((2 * s * d.natAbs + l) / (2 * l) : Nat) : Int)) =
    c + d.sign * ((2 * s * d.natAbs + l) / (2 * l) : Nat) := by
  obtain hd | rfl | hd := lt_trichotomy d 0
  · rw [if_neg (by omega), if_neg (by omega), Int.sign_eq_neg_one_of_neg hd]
    omega
  · have hhalf : l ≠ 0 → l / (2 * l) = 0 := fun h0 => Nat.div_eq_of_lt (by omega)
    by_cases h0 : l = 0 <;> simp [h0, hhalf]
  · rw [if_pos hd.le, if_neg (by omega), Int.sign_eq_one_of_pos hd, Int.one_mul]

theorem stepCovers_iff (a b : Int × Int) (width : Nat) {s : Nat} (hs : s ≤ segmentLength a b) (x y : Int) :
    stepCovers a b width s x y = true ↔ StepPixel a.1 a.2 b.1 b.2 (segmentLength a b) s width x y := by
  unfold segmentLength at hs ⊢
  by_cases h : (b.2 - a.2).natAbs ≤ (b.1 - a.1).natAbs
  · have hx := majorCoordinate_eq a.1 (b.1 - a.1) (s := s) (by omega)
    have hy := minorCoordinate_eq a.2 (b.2 - a.2) s (le_max_right (b.1 - a.1).natAbs (b.2 - a.2).natAbs)
    simp only [stepCovers, segmentCentre, StepPixel, if_pos h, hx, hy, Bool.and_eq_true, decide_eq_true_iff]
  · have hx := minorCoordinate_eq a.1 (b.1 - a.1) s (le_max_left (b.1 - a.1).natAbs (b.2 - a.2).natAbs)
    have hy := majorCoordinate_eq a.2 (b.2 - a.2) (s := s) (by omega)
    simp only [stepCovers, segmentCentre, StepPixel, if_neg h, hx, hy, Bool.and_eq_true, decide_eq_true_iff]

/-! ## A guide's pixels (R84, R85) -/

theorem stepDrawn_iff (dashed : Bool) (n : Nat) : stepDrawn dashed n = true ↔ (dashed = true → n / 8 % 2 = 0) := by
  cases dashed <;> simp [stepDrawn]

/-- Step `s` of segment `k` of a polyline is drawn and covers a pixel, where the first point has step index `base`. -/
def SegmentStepPixel (dashed : Bool) (width base : Nat) (points : List (Int × Int)) (x y : Int) (k s : Nat) : Prop :=
  k + 1 < points.length ∧ s ≤ spanLength points k ∧
    (dashed = true → (base + (∑ j ∈ Finset.range k, spanLength points j) + s) / 8 % 2 = 0) ∧
    StepPixel (points.getD k (0, 0)).1 (points.getD k (0, 0)).2 (points.getD (k + 1) (0, 0)).1
      (points.getD (k + 1) (0, 0)).2 (spanLength points k) s width x y

section segments

variable (dashed : Bool) (width base : Nat) (a b : Int × Int) (rest : List (Int × Int)) (x y : Int) (s : Nat)

theorem segmentStepPixel_zero_iff : SegmentStepPixel dashed width base (a :: b :: rest) x y 0 s ↔
    s < segmentLength a b + 1 ∧ stepDrawn dashed (base + s) = true ∧ stepCovers a b width s x y = true := by
  rw [Nat.lt_succ_iff, stepDrawn_iff]
  constructor
  · rintro ⟨-, hs, hdrawn, hpixel⟩
    exact ⟨hs, hdrawn, (stepCovers_iff a b width hs x y).mpr hpixel⟩
  · rintro ⟨hs, hdrawn, hcovers⟩
    exact ⟨by simp, hs, hdrawn, (stepCovers_iff a b width hs x y).mp hcovers⟩

/-- A later segment is one of the polyline from the second point on, its step indices counted from there. -/
theorem segmentStepPixel_succ_iff (k : Nat) : SegmentStepPixel dashed width base (a :: b :: rest) x y (k + 1) s ↔
    SegmentStepPixel dashed width (base + segmentLength a b) (b :: rest) x y k s := by
  have hsum : base + (∑ j ∈ Finset.range (k + 1), spanLength (a :: b :: rest) j) =
      base + segmentLength a b + ∑ j ∈ Finset.range k, spanLength (b :: rest) j := by
    rw [Finset.sum_range_succ', Nat.add_assoc, Nat.add_comm (segmentLength a b)]
    rfl
  unfold SegmentStepPixel
  rw [hsum, List.length_cons, Nat.add_lt_add_iff_right]
  rfl

end segments

theorem polylineCovers_iff (dashed : Bool) (width : Nat) (x y : Int) (base : Nat) (points : List (Int × Int)) :
    polylineCovers dashed width x y base points = true ↔ ∃ k s, SegmentStepPixel dashed width base points x y k s := by
  induction points generalizing base with
  | nil => exact iff_of_false nofun fun ⟨_, _, h, _⟩ => by simp at h
  | cons a points ih =>
    cases points with
    | nil => exact iff_of_false nofun fun ⟨_, _, h, _⟩ => by simp at h
    | cons b rest =>
      rw [← Nat.or_exists_add_one]
      simp only [segmentStepPixel_zero_iff, segmentStepPixel_succ_iff, ← ih, polylineCovers, Bool.or_eq_true,
        List.any_eq_true, List.mem_range, Bool.and_eq_true]

theorem guidePixel_iff (dashed : Bool) (width : Nat) (points : List (Int × Int)) (x y : Int) :
    GuidePixel dashed width points x y ↔ polylineCovers dashed width x y 0 points = true := by
  simp only [polylineCovers_iff, SegmentStepPixel, Nat.zero_add]
  rfl

theorem ite_some_eq_some_iff {p : Prop} [Decidable p] (colour i : Nat) :
    (if p then some colour else none) = some i ↔ i = colour ∧ p := by
  split <;> simp [*, eq_comm]

theorem guide_colourAt_iff (colour width : Nat) (dashed : Bool) (points : List (Int × Int)) (x y : Int) (i : Nat) :
    (Look.guide colour dashed width points).colourAt x y = some i ↔ i = colour ∧ GuidePixel dashed width points x y := by
  rw [guidePixel_iff]
  exact ite_some_eq_some_iff colour i

/-! ## Rectangles (R76, R87, R91) -/

theorem Rect.holds_iff (r : Rect) (x y : Int) : r.holds x y = true ↔ InRect r x y := by
  simp only [Rect.holds, InRect, Bool.and_eq_true, decide_eq_true_iff, and_assoc]

theorem Rect.nearEdge_iff (r : Rect) (n : Nat) (x y : Int) : r.nearEdge n x y = true ↔
    x < r.left + n ∨ r.left + r.width - 1 - n < x ∨ y < r.top + n ∨ r.top + r.height - 1 - n < y := by
  simp only [Rect.nearEdge, Bool.or_eq_true, decide_eq_true_iff, or_assoc]

theorem zone_colourAt_iff (cls : ZoneClass) (colour : Nat) (r : Rect) (filled : Bool) (x y : Int) (i : Nat) :
    (Look.zone cls colour r filled).colourAt x y = some i ↔ i = colour ∧ InRect r x y ∧
      (filled = true ∨ x ≤ r.left + 1 ∨ r.left + r.width - 2 ≤ x ∨ y ≤ r.top + 1 ∨ r.top + r.height - 2 ≤ y) := by
  refine (ite_some_eq_some_iff colour i).trans ?_
  rw [Bool.and_eq_true, Bool.or_eq_true, Rect.holds_iff, Rect.nearEdge_iff]
  refine and_congr_right fun _ => and_congr_right fun _ => or_congr_right ?_
  omega

theorem frame_colourAt_iff (colour : Nat) (r : Rect) (border : Nat) (x y : Int) (i : Nat) :
    (Look.frame colour r border).colourAt x y = some i ↔ i = colour ∧ InRect r x y ∧
      (x < r.left + border ∨ r.left + r.width - 1 - border < x ∨ y < r.top + border ∨
        r.top + r.height - 1 - border < y) := by
  refine (ite_some_eq_some_iff colour i).trans ?_
  rw [Bool.and_eq_true, Rect.holds_iff, Rect.nearEdge_iff]

/-- A rectangle as narrow or as low as two borders has no pixel farther in than its Border (R91). -/
theorem frame_colourAt_of_narrow {r : Rect} {border : Nat} (h : r.width ≤ 2 * border ∨ r.height ≤ 2 * border)
    {x y : Int} (hin : InRect r x y) (colour : Nat) : (Look.frame colour r border).colourAt x y = some colour :=
  (frame_colourAt_iff colour r border x y colour).mpr ⟨rfl, hin, by omega⟩

/-! ## Glyphs (R90) -/

theorem glyphCode_inside (g : Glyph) (px py : Int) {u w : Nat} (hu : u < g.width) (hw : w < g.height) :
    glyphCode g px py (px + u) (py + w) = g.codes.getD (w * g.width + u) 0 := by
  rw [glyphCode, if_pos (by omega), show (py + w - py).toNat = w by omega, show (px + u - px).toNat = u by omega]

/-- A code other than 0 is that of a glyph pixel. -/
theorem glyphCode_ne_zero {g : Glyph} {px py x y : Int} (h : glyphCode g px py x y ≠ 0) :
    ∃ u < g.width, ∃ w < g.height, x = px + (u : Nat) ∧ y = py + (w : Nat) := by
  unfold glyphCode at h
  split at h
  · exact ⟨(x - px).toNat, by omega, (y - py).toNat, by omega, by omega, by omega⟩
  · exact absurd rfl h

theorem icon_colourAt_iff (px py x y : Int) (g : Glyph) (i : Nat) : (Look.icon px py g).colourAt x y = some i ↔
    ∃ u < g.width, ∃ w < g.height, x = px + (u : Nat) ∧ y = py + (w : Nat) ∧
      i = g.codes.getD (w * g.width + u) 0 ∧ i ≠ 0 := by
  rw [Look.colourAt, Option.ite_none_left_eq_some, Option.some_inj]
  constructor
  · rintro ⟨hne, rfl⟩
    obtain ⟨u, hu, w, hw, rfl, rfl⟩ := glyphCode_ne_zero hne
    exact ⟨u, hu, w, hw, rfl, rfl, glyphCode_inside g px py hu hw, hne⟩
  · rintro ⟨u, hu, w, hw, rfl, rfl, rfl, hne⟩
    rw [glyphCode_inside g px py hu hw]
    exact ⟨hne, rfl⟩

/-! ## The composite (R82) -/

theorem drawList_cons (palette : List Byte) (e : DrawEntry) (entries : List DrawEntry) (x y : Nat) (u : Pix) :
    drawList palette (e :: entries) x y u = drawList palette entries x y (drawEntry palette x y u e) := rfl

theorem drawEntry_of_none {e : DrawEntry} {x y : Nat} (h : e.look.colourAt x y = none) (palette : List Byte) (u : Pix) :
    drawEntry palette x y u e = u := by
  simp only [drawEntry, h]

theorem drawEntry_of_some {e : DrawEntry} {x y i : Nat} (h : e.look.colourAt x y = some i) (palette : List Byte)
    (u : Pix) : drawEntry palette x y u e = composite (paletteEntry palette i) u := by
  simp only [drawEntry, h]

/-! ## O60 -/

/-- Settles O60: what is shown, the draw list, what each kind covers, and the composite. -/
theorem elementsAreShownOrderedAndDrawn : Obligations.ElementsAreShownOrderedAndDrawn := by
  refine ⟨fun v t glyphs rec index e hrec hglyphs => ?_, fun v t glyphs elements entries hlen hok hentries => ?_,
    guide_colourAt_iff, zone_colourAt_iff, icon_colourAt_iff,
    fun colour r border x y i => ⟨frame_colourAt_iff colour r border x y i,
      fun hnarrow hin => frame_colourAt_of_narrow hnarrow hin colour⟩,
    fun palette x y u _ => ⟨rfl, fun e entries => ⟨fun hnone => ?_, fun i a hsome ha => ?_⟩⟩⟩
  · rw [shownEntry_eq_some_iff, kindLook_eq_some_iff hrec hglyphs]
  · have hlayers (rec : List Byte) (hrec : rec ∈ elements) : byteAt rec 1 < 8 := by
      obtain ⟨-, -, hlayer, -⟩ := (elementOk_iff rec).mp (hok rec hrec)
      omega
    subst hentries
    exact ⟨fun e => hlen ▸ mem_buildDrawList_iff hlayers e, buildDrawList_pairwise, nearOf_iff _⟩
  · rw [drawList_cons, drawEntry_of_none hnone]
  · rw [drawList_cons, drawEntry_of_some hsome, ha]
    rfl

end Sys2Proof.Machine
end

section
/-! PROOF. The view requests BIND-MODE, SET-VIEW and RELEASE-VIEW by their tests (O25; R102, R106, R30). -/

namespace Sys2Proof.Machine

variable {s : State}

/-! ## The operands (R102, test 1) -/

/-- The modes a view request can name are all but STANDBY. -/
theorem bindableMode_eq_some {n : Nat} {m : Mode} (h : modeOf n = some m) (hm : m ≠ .standby) :
    bindableMode n = some m := by
  unfold bindableMode
  rw [h]
  cases m with
  | standby => exact absurd rfl hm
  | panorama | turn | lift | kerb => rfl

/-- STANDBY and the codes outside the list name no mode of a view request. -/
theorem bindableMode_eq_none {n : Nat} (h : n = 0 ∨ 4 < n) : bindableMode n = none := by
  rcases h with rfl | h
  · rfl
  · obtain ⟨k, rfl⟩ := Nat.exists_eq_add_of_le' h
    rfl

theorem slotOperand_none : slotOperand 0xFF = some none := rfl

theorem slotOperand_of_slot {slot : Byte} {i : Fin 4} (h : slot.toNat = i.val) : slotOperand slot = some (some i) := by
  have hne : slot ≠ 0xFF := by
    rintro rfl
    have hi := i.isLt
    rw [← h] at hi
    exact absurd hi (by decide)
  rw [slotOperand, if_neg hne, (index4_eq_some_iff _ _).mpr h, Option.map_some]

theorem slotOperand_out_of_range {slot : Byte} (h : 3 < slot.toNat) (hne : slot ≠ 0xFF) : slotOperand slot = none := by
  rw [slotOperand, if_neg hne, (index4_eq_none_iff _).mpr h, Option.map_none]

/-! ## A binding asked for (R102) -/

theorem State.bind_bad_argument {mode slot : Byte}
    (h : bindableMode mode.toNat = none ∨ slotOperand slot = none) (s : State) : s.bind mode slot = (.badArgument, s) := by
  unfold State.bind
  split
  · rename_i hm hi
    rw [hm, hi] at h
    rcases h with h | h <;> cases h
  · rfl

section inRange

variable {mode slot : Byte} {m : Mode} {i : Option (Fin 4)} (hm : bindableMode mode.toNat = some m)
  (hi : slotOperand slot = some i)
include hm hi

theorem State.bind_refused {r : Result} (h : s.bindRefusal m i = some r) : s.bind mode slot = (r, s) := by
  simp only [State.bind, hm, hi, h]

theorem State.bind_accepted (h : s.bindRefusal m i = none) :
    s.bind mode slot = (.done, { s with modes.bind := s.modes.bind.set m i }) := by
  simp only [State.bind, hm, hi, h]

end inRange

/-- A slot asked for is refused NOT-READY where it is not VALID, and for a special mode where PANORAMA is unbound. -/
theorem State.bindRefusal_slot {m : Mode} {i : Fin 4} (h : (s.layouts.slots.get i).condition ≠ .valid ∨
    (m.isSpecial = true ∧ s.modes.bind.panorama = none)) : s.bindRefusal m (some i) = some .notReady := by
  unfold State.bindRefusal
  dsimp only
  by_cases hv : (s.layouts.slots.get i).condition = .valid
  · rw [if_neg (not_not.mpr hv), if_pos (h.resolve_left (not_not.mpr hv))]
  · rw [if_pos hv]

/-- PANORAMA is not unbound under a special mode, bound or current. -/
theorem State.bindRefusal_panorama {m : Mode} (h : m = .panorama ∧
    (s.modes.bind.anySpecial = true ∨ s.modes.mode.isSpecial = true)) : s.bindRefusal m none = some .inUse :=
  if_pos h

/-! ## A request taken at once (R159) -/

theorem exec_setView (h : s.takesAtOnce) (tag mode : Byte) :
    exec (.setView tag mode) s = .next (s.withPlace.serveSetView ⟨tag, 0x11⟩ mode) := by
  change Host.Outcome.next (s.submit ((Req.setView mode).toRequest tag)) = _
  rw [s.submit_takesAtOnce ((Req.setView mode).toRequest tag) h (show 1 ≤ 56 by decide),
    State.serve_of_parse _ _ (.setView mode) rfl]
  rfl

theorem exec_releaseView (h : s.takesAtOnce) (tag : Byte) :
    exec (.releaseView tag) s = .next (({ s with modes.override := none } : State).responded tag 0x12 .done []) := by
  change Host.Outcome.next (s.submit (Req.releaseView.toRequest tag)) = _
  rw [s.submit_takesAtOnce (Req.releaseView.toRequest tag) h (Nat.zero_le 56),
    State.serve_of_parse _ _ .releaseView rfl]
  exact congrArg _ (State.answerWith_reserved { s with modes.override := none } ⟨tag, 0x12⟩ .done [])

theorem exec_bindMode (h : s.takesAtOnce) (tag mode slot : Byte) :
    exec (.bindMode tag mode slot) s = .next (s.withPlace.serveBindMode ⟨tag, 0x10⟩ mode slot) := by
  change Host.Outcome.next (s.submit ((Req.bindMode mode slot).toRequest tag)) = _
  rw [s.submit_takesAtOnce ((Req.bindMode mode slot).toRequest tag) h (show 2 ≤ 56 by decide),
    State.serve_of_parse _ _ (.bindMode mode slot) rfl]
  rfl

/-- A SET-VIEW of no bindable mode. -/
theorem State.withPlace_serveSetView_bad_argument (t : Ticket) {mode : Byte} (h : bindableMode mode.toNat = none) :
    s.withPlace.serveSetView t mode = s.responded t.tag t.kind .badArgument [] := by
  simp only [State.serveSetView, h]
  exact s.withPlace_answerWith t .badArgument []

theorem State.withPlace_serveSetView_not_ready (t : Ticket) {mode : Byte} {m : Mode}
    (h : bindableMode mode.toNat = some m) (hb : s.modes.bind.of m = none) :
    s.withPlace.serveSetView t mode = s.responded t.tag t.kind .notReady [] := by
  simp only [State.serveSetView, h]
  exact (if_pos hb).trans (s.withPlace_answerWith t .notReady [])

theorem State.withPlace_serveSetView_done (t : Ticket) {mode : Byte} {m : Mode}
    (h : bindableMode mode.toNat = some m) (hb : s.modes.bind.of m ≠ none) : s.withPlace.serveSetView t mode =
      ({ s with modes.override := some m } : State).responded t.tag t.kind .done [] := by
  simp only [State.serveSetView, h]
  exact (if_neg hb).trans (State.withPlace_answerWith { s with modes.override := some m } t .done [])

/-- A binding refused leaves the Mode Table as it was. -/
theorem State.withPlace_serveBindMode_refused (t : Ticket) {mode slot : Byte} {r : Result}
    (h : s.withPlace.bind mode slot = (r, s.withPlace)) :
    s.withPlace.serveBindMode t mode slot = s.responded t.tag t.kind r [] := by
  rw [State.serveBindMode, h]
  exact s.withPlace_answerWith t r []

theorem State.withPlace_serveBindMode_done (t : Ticket) {mode slot : Byte} {m : Mode} {i : Option (Fin 4)}
    (hm : bindableMode mode.toNat = some m) (hi : slotOperand slot = some i) (h : s.bindRefusal m i = none) :
    s.withPlace.serveBindMode t mode slot =
      ({ s with modes.bind := s.modes.bind.set m i } : State).responded t.tag t.kind .done [] := by
  rw [State.serveBindMode, State.bind_accepted (s := s.withPlace) hm hi h]
  exact State.withPlace_answerWith { s with modes.bind := s.modes.bind.set m i } t .done []

/-! ## O25 -/

/-- Settles O25: SET-VIEW and RELEASE-VIEW, then BIND-MODE's operands out of range, NONE, and each slot. -/
theorem viewRequestsFollowTheirTests : Obligations.ViewRequestsFollowTheirTests := by
  intro tag mode slot s hs
  rw [exec_setView hs, exec_bindMode hs]
  refine ⟨⟨fun hout => ?_, fun m hmode hne => ⟨fun hb => ?_, fun hb => ?_⟩, exec_releaseView hs tag⟩, fun hout => ?_,
    fun m hmode hne => ?_⟩
  · rw [State.withPlace_serveSetView_bad_argument _ (bindableMode_eq_none hout)]
  · rw [State.withPlace_serveSetView_not_ready _ (bindableMode_eq_some hmode hne) hb]
  · rw [State.withPlace_serveSetView_done _ (bindableMode_eq_some hmode hne) hb]
  · have hoperand : bindableMode mode.toNat = none ∨ slotOperand slot = none := by
      rcases hout with h | h | ⟨h, hff⟩
      · exact Or.inl (bindableMode_eq_none (Or.inl h))
      · exact Or.inl (bindableMode_eq_none (Or.inr h))
      · exact Or.inr (slotOperand_out_of_range h hff)
    rw [State.withPlace_serveBindMode_refused _ (State.bind_bad_argument hoperand _)]
  · have hm := bindableMode_eq_some hmode hne
    refine ⟨?_, fun i hslot => ?_⟩
    · rintro rfl
      refine ⟨fun huse => ?_, fun hfree => ?_⟩
      · rw [State.withPlace_serveBindMode_refused _ (State.bind_refused hm slotOperand_none
          (State.bindRefusal_panorama (s := s.withPlace) huse))]
      · rw [State.withPlace_serveBindMode_done _ hm slotOperand_none
          ((s.bindRefusal_none_eq_none_iff m).mpr fun hp hu => hfree ⟨hp, hu⟩)]
    · have hi := slotOperand_of_slot hslot
      refine ⟨fun hbad => ?_, fun hvalid hpan => ?_⟩
      · rw [State.withPlace_serveBindMode_refused _ (State.bind_refused hm hi
          (State.bindRefusal_slot (s := s.withPlace) hbad))]
      · rw [State.withPlace_serveBindMode_done _ hm hi ((s.bindRefusal_some_eq_none_iff m i).mpr
          ⟨hvalid, fun hsp => Option.isSome_iff_ne_none.mpr (hpan hsp)⟩)]

end Sys2Proof.Machine
end

section
/-! SUPPORT. The mode controller in a turnover (R103 to R105, R107 to R110, R112 to R114): what the work before it leaves
it of what it reads, and the three ways it goes, held by a reset, held by boot, and by its own choice. -/

namespace Sys2Proof.Machine

variable {s : State}

/-! ## MODE-CHANGE through the work before the mode (R112, R166) -/

/-- The status of MODE-CHANGE. -/
def State.modeChange (s : State) : Bool := s.mgmt.status.getLsbD evModeChange

theorem getLsbD_modeChange_raised (st : BitVec 24) {n : Nat} (h : n < evModeChange) :
    (st ||| eventBit n).getLsbD evModeChange = st.getLsbD evModeChange := by
  rw [BitVec.getLsbD_or, getLsbD_eventBit n _ (by decide), decide_eq_false (Nat.ne_of_gt h), Bool.or_false]

theorem evChannelFault_lt (p : Cam) : evChannelFault p < evModeChange := by
  simp only [evChannelFault, evModeChange]
  omega

theorem evCamState_lt (p : Cam) : evCamState p < evModeChange := by
  simp only [evCamState, evModeChange]
  omega

theorem State.arbitrate_modeChange (s : State) (p : Cam) : (s.arbitrate p).modeChange = s.modeChange := by
  cases ha : (s.chan p).active with
  | true => rw [s.arbitrate_active p ha]
  | false =>
    cases hl : (s.port p).lock with
    | false =>
      rw [s.arbitrate_unlocked p ha hl]
      unfold State.modeChange State.drain
      dsimp only
      split
      · exact getLsbD_modeChange_raised _ (evChannelFault_lt p)
      · rfl
    | true =>
      cases hc : (s.chan p).choose with
      | none => rw [s.arbitrate_nothing p ((Channel.choose_eq_none _).mp hc)]
      | some ch =>
        rw [s.arbitrate_starts p ch ha hc hl]
        rfl

theorem State.profiled_modeChange (s : State) (p : Cam) (profile : List Byte) :
    (s.profiled p profile).modeChange = s.modeChange := by
  unfold State.modeChange State.profiled
  dsimp only
  split
  · exact getLsbD_modeChange_raised _ (evCamState_lt p)
  · rfl

theorem State.applyCamTable_modeChange (s : State) (d : TableLoad) : (s.applyCamTable d).modeChange = s.modeChange := by
  unfold State.applyCamTable
  split
  · rw [State.applyProfile_eq]
    split
    · exact (State.arbitrate_modeChange _ _).trans (s.profiled_modeChange d.cam d.content)
    · exact s.profiled_modeChange d.cam d.content
  · rfl
  · rfl

theorem State.applyCamTables_modeChange (ds : List TableLoad) (s : State) :
    (ds.foldl State.applyCamTable s).modeChange = s.modeChange := by
  induction ds generalizing s with
  | nil => rfl
  | cons d ds ih => exact (ih (s.applyCamTable d)).trans (s.applyCamTable_modeChange d)

theorem State.nudgeTest_modeChange (s : State) (c : Cam) : (s.nudgeTest c).modeChange = s.modeChange := by
  unfold State.nudgeTest
  split
  · split
    · rfl
    · split
      · rfl
      · exact State.arbitrate_modeChange _ c
  · rfl

theorem State.settleAndNudge_modeChange (s : State) (c : Cam) : (s.settleAndNudge c).modeChange = s.modeChange := by
  unfold State.settleAndNudge
  dsimp only
  split
  · exact State.nudgeTest_modeChange _ c
  · rfl

theorem State.balanceTurnover_modeChange (s : State) : s.balanceTurnover.modeChange = s.modeChange :=
  forCams_induction (P := fun u => u.modeChange = s.modeChange) State.settleAndNudge
    (fun c u h => (u.settleAndNudge_modeChange c).trans h) s.gainTurnover rfl

theorem State.turnBalance_modeChange (s : State) (table : Option (List Byte)) :
    (s.turnBalance table).modeChange = s.modeChange := by
  cases table with
  | none => exact s.balanceTurnover_modeChange
  | some bs =>
    have h := s.balanceTurnover_modeChange
    unfold State.turnBalance
    generalize s.balanceTurnover = u at h ⊢
    exact h

theorem State.balanced_modeChange (s : State) : s.balanced.modeChange = s.modeChange := by
  have htables : (s.dueTables.foldl State.applyCamTable s.turnRings).modeChange = s.modeChange :=
    s.turnRings.applyCamTables_modeChange s.dueTables
  exact (State.turnBalance_modeChange _ _).trans htables

theorem State.beforeModes_modeChange (s : State) : s.beforeModes.modeChange = s.modeChange := by
  rw [State.modeChange, s.beforeModes_status]
  exact s.balanced_modeChange

/-! ## What the mode controller finds (R103, R147, R174) -/

/-- Of the tables behind the balance unit none but Mode Rules reaches the mode controller. -/
theorem State.otherTables_modes (s : State) (bands palette glyphs overlay : Option (List Byte)) :
    (((((s.applyRules none).applyBands bands).applyPalette palette).applyGlyphs glyphs).applyEdits overlay).modes =
      s.modes := by
  have hbands : ((s.applyRules none).applyBands bands).modes = s.modes := by cases bands <;> rfl
  generalize (s.applyRules none).applyBands bands = u at hbands ⊢
  rw [State.applyEdits_eq]
  cases palette <;> cases glyphs <;> exact hbands

/-- With no Mode Rules due the mode controller finds its own records as they were; of the vehicle interface a Band Table
moves the current band alone (R129). -/
theorem State.beforeModes_inputs (h : ∀ d ∈ s.dueTables, d.table ≠ .modeRules) : s.beforeModes.modes = s.modes ∧
    ∃ band, s.beforeModes.veh = { s.veh with band := band } := by
  have hnone : dueContent s.dueTables .modeRules = none := by
    rw [dueContent, List.find?_eq_none.mpr fun d hd => by simpa using h d hd]
    rfl
  obtain ⟨ports, chans, bal, st, res, fil, e1⟩ := s.balanced_frame
  have hmodes := s.balanced.otherTables_modes (dueContent s.dueTables .bands) (dueContent s.dueTables .palette)
    (dueContent s.dueTables .glyphs) (dueContent s.dueTables .overlay)
  obtain ⟨r, ovl, band, res', fil', e2⟩ := s.balanced.otherTables_frame (dueContent s.dueTables .modeRules)
    (dueContent s.dueTables .bands) (dueContent s.dueTables .palette) (dueContent s.dueTables .glyphs)
    (dueContent s.dueTables .overlay)
  rw [← hnone] at hmodes
  change (s.turnRings.applyTables s.dueTables).modes = _ at hmodes
  change s.turnRings.applyTables s.dueTables = _ at e2
  obtain ⟨l, res'', fil'', e3⟩ := (s.turnRings.applyTables s.dueTables).finishLoad_frame
  obtain ⟨more, b, e4, -⟩ := (s.turnRings.applyTables s.dueTables).finishLoad.finishBootTable_frame
  rw [State.beforeModes, e4, e3]
  refine ⟨?_, band, ?_⟩
  · change (s.turnRings.applyTables s.dueTables).modes = _
    rw [hmodes, e1]
  · rw [e2, e1]

/-- Boot runs on behind its due table where that is not its last (R174). -/
theorem State.finishBootTable_running_iff (s : State) : s.finishBootTable.store.boot.status = .running ↔
    s.store.boot.status = .running ∧
      (s.store.boot.due = none ∨ s.store.boot.offset < 12 + s.store.boot.length) := by
  unfold State.finishBootTable
  split
  · rename_i hd
    simp [hd]
  · rename_i d hd
    simp only [hd, reduceCtorEq, false_or]
    unfold State.continueBoot
    split
    · rename_i hend
      have hstop : ¬s.store.boot.offset < 12 + s.store.boot.length := Nat.not_lt.mpr hend
      unfold State.finishBoot
      split <;> simp [State.endBoot, State.setBoot, hstop]
    · rename_i hmore
      exact ⟨fun hr => ⟨hr, Nat.not_le.mp hmore⟩, fun hr => hr.1⟩

/-- Boot still runs as the mode controller finds it. -/
theorem State.beforeModes_running_iff (s : State) : s.beforeModes.store.boot.status = .running ↔
    s.store.boot.status = .running ∧
      (s.store.boot.due = none ∨ s.store.boot.offset < 12 + s.store.boot.length) := by
  obtain ⟨ports, chans, bal, st, res, fil, e1⟩ := s.balanced_frame
  obtain ⟨r, ovl, band, res', fil', e2⟩ := s.balanced.otherTables_frame (dueContent s.dueTables .modeRules)
    (dueContent s.dueTables .bands) (dueContent s.dueTables .palette) (dueContent s.dueTables .glyphs)
    (dueContent s.dueTables .overlay)
  change s.turnRings.applyTables s.dueTables = _ at e2
  obtain ⟨l, res'', fil'', e3⟩ := (s.turnRings.applyTables s.dueTables).finishLoad_frame
  rw [State.beforeModes, State.finishBootTable_running_iff, e3, e2, e1]

/-! ## What the turnover makes of it (R104, R105, R107 to R110, R114) -/

/-- The KERB latch brought up to date (R105). -/
def State.kerbNow (s : State) : Bool := kerbAfter s.modes.rules s.modes.kerb s.veh.state s.veh.speed

/-- The causes by the latch brought up to date (R104). -/
def State.causesNow (s : State) : Causes := { s.causes with kerb := s.kerbNow }

/-- The dwell count brought up to date, before the choice (R108). -/
def State.dwellNow (s : State) : Nat :=
  dwellAfter s.modes.mode (reasonHolds s.causesNow s.modes.override s.modes.mode) s.modes.dwell

/-- The mode of the choice (R109, R110). -/
def State.modeNow (s : State) : Mode :=
  chosenMode s.modes.mode s.modes.bind (desiredMode s.causesNow s.modes.override s.modes.bind) s.dwellNow
    (rulesDwell s.modes.rules)

/-- The mode under the reset hold (R114). -/
def State.heldMode (s : State) : Mode :=
  if s.modes.mode = .panorama ∧ s.modes.bind.panorama = none then .standby else s.modes.mode

/-- After `s` the mode controller has `m` for the coming frame, with the dwell count `dwell` where that is no change; a
change begins the count at 0 and sets MODE-CHANGE (R108, R112). -/
structure State.ModeSet (s t : State) (m : Mode) (dwell : Nat) : Prop where
  modes : t.modes = { s.modes with
    kerb := s.kerbNow, hold := false, mode := m, dwell := if m = s.modes.mode then dwell else 0 }
  event : t.modeChange = (s.modeChange || decide (m ≠ s.modes.mode))

theorem State.setMode_modes (s : State) (m : Mode) : (s.setMode m).modes =
    { s.modes with mode := m, dwell := if m = s.modes.mode then s.modes.dwell else 0 } := by
  unfold State.setMode
  split
  · rename_i h
    simp [h]
  · rfl

theorem State.setMode_modeChange (s : State) (m : Mode) :
    (s.setMode m).modeChange = (s.modeChange || decide (m ≠ s.modes.mode)) := by
  unfold State.setMode
  split
  · rename_i h
    simp [h]
  · rename_i h
    change (s.mgmt.status ||| eventBit evModeChange).getLsbD evModeChange = _
    rw [BitVec.getLsbD_or, getLsbD_eventBit _ _ (by decide), decide_eq_true rfl, decide_eq_true h]
    rfl

theorem State.modeTurnover_of_hold (h : s.modes.hold = true) : s.ModeSet s.modeTurnover s.heldMode s.modes.dwell := by
  unfold State.modeTurnover
  dsimp only
  rw [if_pos h]
  exact ⟨State.setMode_modes _ _, State.setMode_modeChange _ _⟩

theorem State.modeTurnover_of_boot (h : s.modes.hold = false) (hb : s.store.boot.status = .running) :
    s.ModeSet s.modeTurnover s.modes.mode s.modes.dwell := by
  unfold State.modeTurnover
  dsimp only
  rw [if_neg (Bool.not_eq_true _ ▸ h), if_pos hb]
  refine ⟨?_, ?_⟩
  · rw [if_pos rfl, ← h]
    rfl
  · simp [State.modeChange]

theorem State.modeTurnover_of_choice (h : s.modes.hold = false) (hb : s.store.boot.status ≠ .running) :
    s.ModeSet s.modeTurnover s.modeNow s.dwellNow := by
  unfold State.modeTurnover
  dsimp only
  rw [if_neg (Bool.not_eq_true _ ▸ h), if_neg hb]
  refine ⟨(State.setMode_modes _ _).trans ?_, State.setMode_modeChange _ _⟩
  rw [← h]
  rfl

/-! ## The whole turnover (R147) -/

theorem State.turnover_modes (hq : s.mgmt.queue = []) : s.turnover.modes = s.settled.modes ∧
    s.turnover.modeChange = s.settled.modeChange := by
  obtain ⟨u, hu, ht⟩ := State.turnover_of_queue hq
  rw [ht, ← hu]
  exact ⟨rfl, rfl⟩

section turnover

variable (hq : s.mgmt.queue = []) (hr : ∀ d ∈ s.dueTables, d.table ≠ .modeRules)
include hq hr

/-- What the mode controller does in the state it finds, it does in the state before the turnover. -/
theorem State.ModeSet.of_beforeModes {m : Mode} {dwell : Nat}
    (h : s.beforeModes.ModeSet s.beforeModes.modeTurnover m dwell) : s.ModeSet s.turnover m dwell := by
  obtain ⟨hmodes, band, hveh⟩ := State.beforeModes_inputs hr
  obtain ⟨htm, hte⟩ := State.turnover_modes hq
  have hkerb : s.beforeModes.kerbNow = s.kerbNow := by rw [State.kerbNow, hmodes, hveh, State.kerbNow]
  refine ⟨htm.trans (h.modes.trans ?_), hte.trans (h.event.trans ?_)⟩
  · rw [hkerb, hmodes]
  · rw [s.beforeModes_modeChange, hmodes]

theorem State.turnover_of_hold (h : s.modes.hold = true) : s.ModeSet s.turnover s.heldMode s.modes.dwell := by
  obtain ⟨hmodes, -⟩ := State.beforeModes_inputs hr
  have hset := State.modeTurnover_of_hold (s := s.beforeModes) (by rw [hmodes, h])
  rw [State.heldMode, hmodes] at hset
  exact .of_beforeModes hq hr hset

theorem State.turnover_of_boot (h : s.modes.hold = false) (hb : s.store.boot.status = .running)
    (hon : s.store.boot.due = none ∨ s.store.boot.offset < 12 + s.store.boot.length) :
    s.ModeSet s.turnover s.modes.mode s.modes.dwell := by
  obtain ⟨hmodes, -⟩ := State.beforeModes_inputs hr
  have hset := State.modeTurnover_of_boot (s := s.beforeModes) (by rw [hmodes, h])
    (s.beforeModes_running_iff.mpr ⟨hb, hon⟩)
  rw [hmodes] at hset
  exact .of_beforeModes hq hr hset

theorem State.turnover_of_choice (h : s.modes.hold = false) (hb : s.store.boot.status = .running →
    ¬(s.store.boot.due = none ∨ s.store.boot.offset < 12 + s.store.boot.length)) :
    s.ModeSet s.turnover s.modeNow s.dwellNow := by
  obtain ⟨hmodes, band, hveh⟩ := State.beforeModes_inputs hr
  have hcauses : s.beforeModes.causesNow = s.causesNow := by
    simp only [State.causesNow, State.causes, State.kerbNow, hmodes, hveh]
    rfl
  have hdwell : s.beforeModes.dwellNow = s.dwellNow := by rw [State.dwellNow, hcauses, hmodes, State.dwellNow]
  have hmode : s.beforeModes.modeNow = s.modeNow := by rw [State.modeNow, hcauses, hdwell, hmodes, State.modeNow]
  have hset := State.modeTurnover_of_choice (s := s.beforeModes) (by rw [hmodes, h])
    fun hrun => hb (s.beforeModes_running_iff.mp hrun).1 (s.beforeModes_running_iff.mp hrun).2
  rw [hmode, hdwell] at hset
  exact .of_beforeModes hq hr hset

theorem State.turnover_modeSet : ∃ m dwell, s.ModeSet s.turnover m dwell := by
  cases h : s.modes.hold with
  | true => exact ⟨_, _, State.turnover_of_hold hq hr h⟩
  | false =>
    by_cases hb : s.store.boot.status = .running ∧
        (s.store.boot.due = none ∨ s.store.boot.offset < 12 + s.store.boot.length)
    · exact ⟨_, _, State.turnover_of_boot hq hr h hb.1 hb.2⟩
    · exact ⟨_, _, State.turnover_of_choice hq hr h (not_and.mp hb)⟩

end turnover

end Sys2Proof.Machine
end

section
/-! PROOF. The mode of the coming frame (O56; R103 to R105, R107 to R110, R112 to R114). -/

namespace Sys2Proof.Machine

variable {s : State}

/-! ## The desired mode (R107) -/

theorem fallBack_eq {b : Bindings} {m desired : Mode} {rank₀ rank : Nat}
    (h : (b.of m ≠ none ∧ desired = m ∧ rank = rank₀) ∨
      (b.of m = none ∧ b.panorama ≠ none ∧ desired = .panorama ∧ rank = 5) ∨
      (b.of m = none ∧ b.panorama = none ∧ desired = .standby ∧ rank = 5)) : fallBack b m rank₀ = (desired, rank) := by
  unfold fallBack
  rcases h with ⟨hb, rfl, rfl⟩ | ⟨hb, hp, rfl, rfl⟩ | ⟨hb, hp, rfl, rfl⟩
  · rw [if_pos (Option.isSome_iff_ne_none.mpr hb)]
  · rw [if_neg (by simp [hb]), if_pos (Option.isSome_iff_ne_none.mpr hp)]
  · rw [if_neg (by simp [hb]), if_neg (by simp [hp])]

/-- The mode is desired for the first reason that holds. -/
theorem desiredMode_eq_fallBack {c : Causes} {override : Option Mode} {reason : Mode} {rank : Nat}
    (h : (c.lift = true ∧ reason = .lift ∧ rank = 1) ∨
      (c.lift = false ∧ c.turn = true ∧ reason = .turn ∧ rank = 2) ∨
      (c.lift = false ∧ c.turn = false ∧ c.kerb = true ∧ reason = .kerb ∧ rank = 3) ∨
      (c.lift = false ∧ c.turn = false ∧ c.kerb = false ∧ override = some reason ∧ rank = 4) ∨
      (c.lift = false ∧ c.turn = false ∧ c.kerb = false ∧ override = none ∧ reason = .panorama ∧ rank = 5))
    (b : Bindings) : desiredMode c override b = fallBack b reason rank := by
  rcases h with ⟨hl, rfl, rfl⟩ | ⟨hl, ht, rfl, rfl⟩ | ⟨hl, ht, hk, rfl, rfl⟩ | ⟨hl, ht, hk, rfl, rfl⟩ |
    ⟨hl, ht, hk, rfl, rfl, rfl⟩
  · simp [desiredMode, hl]
  · simp [desiredMode, hl, ht]
  · simp [desiredMode, hl, ht, hk]
  · simp [desiredMode, hl, ht, hk]
  · simp [desiredMode, hl, ht, hk]

/-! ## The dwell count (R108) -/

theorem reasonHolds_iff (c : Causes) (override : Option Mode) (m : Mode) : reasonHolds c override m = true ↔
    (m = .lift ∧ c.lift = true) ∨ (m = .turn ∧ c.turn = true) ∨ (m = .kerb ∧ c.kerb = true) ∨ override = some m := by
  cases m with
  | standby | panorama | turn | lift | kerb => simp [reasonHolds]

theorem dwellAfter_of_special {m : Mode} (h : m.isSpecial = true) (reason : Bool) (dwell : Nat) :
    dwellAfter m reason dwell = if reason = true then 0 else min 255 (dwell + 1) := if_pos h

/-! ## The choice (R109, R110) -/

section choice

variable {mode : Mode} {b : Bindings} {desired : Mode × Nat} {dwell setting : Nat}

theorem chosenMode_of_not_special (h : mode.isSpecial = false) : chosenMode mode b desired dwell setting = desired.1 :=
  if_neg (by simp [h])

theorem chosenMode_kept (hs : mode.isSpecial = true) (hb : b.of mode ≠ none)
    (h : desired.1 = mode ∨ (modeRank mode ≤ desired.2 ∧ dwell < setting)) :
    chosenMode mode b desired dwell setting = mode := by
  rw [chosenMode, if_pos hs, if_neg hb]
  split
  · rfl
  · rename_i hne
    obtain ⟨hrank, hdwell⟩ := h.resolve_left hne
    rw [if_neg (Nat.not_lt.mpr hrank), if_neg (Nat.not_le.mpr hdwell)]

theorem chosenMode_left (hs : mode.isSpecial = true)
    (h : b.of mode = none ∨ (desired.1 ≠ mode ∧ (desired.2 < modeRank mode ∨ setting ≤ dwell))) :
    chosenMode mode b desired dwell setting = .panorama := by
  rw [chosenMode, if_pos hs]
  split
  · rfl
  · rename_i hb
    obtain ⟨hne, h⟩ := h.resolve_left hb
    rw [if_neg hne]
    split
    · rfl
    · rename_i hrank
      rw [if_pos (h.resolve_left hrank)]

end choice

/-- A special mode and its rank (R107). -/
theorem special_of_rank {m : Mode} {own : Nat} (h : (m = .lift ∧ own = 1) ∨ (m = .turn ∧ own = 2) ∨ (m = .kerb ∧ own = 3)) :
    m.isSpecial = true ∧ modeRank m = own := by
  rcases h with ⟨rfl, rfl⟩ | ⟨rfl, rfl⟩ | ⟨rfl, rfl⟩ <;> exact ⟨rfl, rfl⟩

theorem not_special_of_panorama_or_standby {m : Mode} (h : m = .panorama ∨ m = .standby) : m.isSpecial = false := by
  rcases h with rfl | rfl <;> rfl

/-- The cause TURN in the words of R104. -/
theorem State.causesNow_turn_iff (s : State) : s.causesNow.turn = true ↔
    s.veh.roleAsserted .nearsideIndicator = true ∧
      (s.veh.state ≠ .fresh ∨ s.veh.speed ≤ rulesTurnSpeed s.modes.rules) := by
  simp [State.causesNow, State.causes]

/-- The dwell count of a special mode in the words of R108. -/
theorem State.dwellNow_of_special (h : s.modes.mode.isSpecial = true) : s.dwellNow =
    if (s.modes.mode = .lift ∧ s.causesNow.lift = true) ∨ (s.modes.mode = .turn ∧ s.causesNow.turn = true) ∨
      (s.modes.mode = .kerb ∧ s.causesNow.kerb = true) ∨ s.modes.override = some s.modes.mode then 0
    else min 255 (s.modes.dwell + 1) := by
  rw [State.dwellNow, dwellAfter_of_special h]
  exact if_congr (reasonHolds_iff _ _ _) rfl rfl

/-! ## What a mode set leaves -/

section modeSet

variable {t : State} {m : Mode} {dwell : Nat} (h : s.ModeSet t m dwell)
include h

theorem State.ModeSet.mode_eq : t.modes.mode = m := by rw [h.modes]

theorem State.ModeSet.kerb_eq : t.modes.kerb = s.kerbNow := by rw [h.modes]

theorem State.ModeSet.changed (hne : t.modes.mode ≠ s.modes.mode) :
    t.mgmt.status.getLsbD 23 = true ∧ t.modes.dwell = 0 := by
  rw [h.mode_eq] at hne
  refine ⟨h.event.trans ?_, ?_⟩
  · rw [decide_eq_true hne, Bool.or_true]
  · rw [h.modes]
    exact if_neg hne

theorem State.ModeSet.unchanged (he : t.modes.mode = s.modes.mode) :
    t.mgmt.status.getLsbD 23 = s.mgmt.status.getLsbD 23 ∧ t.modes.dwell = dwell := by
  rw [h.mode_eq] at he
  refine ⟨h.event.trans ?_, ?_⟩
  · rw [decide_eq_false (not_not.mpr he), Bool.or_false]
    rfl
  · rw [h.modes]
    exact if_pos he

end modeSet

/-! ## O56 -/

/-- Settles O56: what every turnover leaves, then the reset hold, boot, and the choice. -/
theorem turnoverChoosesTheMode : Obligations.TurnoverChoosesTheMode := by
  intro s hq hr
  obtain ⟨m, d, hset⟩ := State.turnover_modeSet hq hr
  have hkerb := hset.kerb_eq
  refine ⟨s.turnover, rfl, by rw [hset.modes], by rw [hset.modes], by rw [hset.modes], by rw [hset.modes], hkerb,
    hset.changed, fun he => (hset.unchanged he).1, fun hhold => ?_, fun hhold hrun hon => ?_,
    fun hhold hboot turn hturn reason desired rank₀ rank hreason hdesired => ?_⟩
  · have hheld := State.turnover_of_hold hq hr hhold
    exact ⟨hheld.mode_eq, fun he => (hheld.unchanged he).2⟩
  · have hkept := State.turnover_of_boot hq hr hhold hrun hon
    exact ⟨hkept.mode_eq, (hkept.unchanged hkept.mode_eq).2⟩
  · have hchosen := State.turnover_of_choice hq hr hhold fun hrun hon => by
      obtain ⟨hdue, hend⟩ := hboot.resolve_left (not_not.mpr hrun)
      exact (hon.resolve_left hdue).not_ge hend
    have hcause : turn = s.causesNow.turn := by rw [Bool.eq_iff_iff, hturn, s.causesNow_turn_iff]
    rw [hkerb, hcause] at hreason
    have hd : desiredMode s.causesNow s.modes.override s.modes.bind = (desired, rank) :=
      (desiredMode_eq_fallBack hreason _).trans (fallBack_eq hdesired)
    have hmode : s.turnover.modes.mode = chosenMode s.modes.mode s.modes.bind (desired, rank) s.dwellNow
        (rulesDwell s.modes.rules) := by rw [hchosen.mode_eq, State.modeNow, hd]
    refine ⟨fun hm => ?_, fun own dwell hown hdwell => ?_⟩
    · rw [hmode, chosenMode_of_not_special (not_special_of_panorama_or_standby hm)]
    · obtain ⟨hspecial, rfl⟩ := special_of_rank hown
      rw [hkerb, hcause] at hdwell
      obtain rfl : dwell = s.dwellNow := hdwell.trans (State.dwellNow_of_special hspecial).symm
      refine ⟨fun hb hkeep => ?_, fun hleave => ?_⟩
      · have hkept := hmode.trans (chosenMode_kept hspecial hb hkeep)
        exact ⟨hkept, (hchosen.unchanged hkept).2⟩
      · rw [hmode, chosenMode_left hspecial hleave]

end Sys2Proof.Machine
end

section
/-! PROOF. Vehicle lines as inputs (R116 to R119): edges, the debounced level taken, raw changes and LINE-CONFIG (O33,
O34). -/

namespace Sys2Proof.Machine

variable {s : State}

/-! ## Edges and the debounced level (R117 to R119) -/

/-- The model's test of an edge is R119's: to the level asserted under the polarity, or to the other. -/
theorem edgeMatches_levelAsserted_iff (e : EdgeSelect) (pol : Polarity) (level : Bool) :
    edgeMatches e (levelAsserted pol level) = true ↔
      e = .both ∨ (e = .assert ∧ (level = true ↔ pol = .activeHigh)) ∨
        (e = .release ∧ (level = true ↔ pol = .activeLow)) := by
  cases e with
  | none => simp [edgeMatches]
  | assert => cases pol <;> simp [edgeMatches, levelAsserted]
  | release => cases pol <;> simp [edgeMatches, levelAsserted]
  | both => simp [edgeMatches]

/-- A debounced level taken: an edge that matches sets LINE-EDGE, and the line alone changes besides. -/
theorem State.setDebounced_eq (s : State) (l : Fin 8) (level : Bool) : s.setDebounced l level =
    ({ s with mgmt.status := if (s.line l).edgeMatched level then s.mgmt.status ||| BitVec.twoPow 24 (12 + l.val)
        else s.mgmt.status } : State).setLine l { s.line l with debounced := some level, timer := .stopped } := by
  rw [State.setDebounced, State.raiseIf_eq]
  simp only [Bool.and_eq_true, decide_eq_true_iff, edgeMatches_levelAsserted_iff]
  rfl

/-- The same for a line that has just been put in place. -/
theorem State.setLine_setDebounced (s : State) (l : Fin 8) (x : Line) (level : Bool) :
    (s.setLine l x).setDebounced l level =
      ({ s with mgmt.status := if x.edgeMatched level then s.mgmt.status ||| BitVec.twoPow 24 (12 + l.val)
          else s.mgmt.status } : State).setLine l { x with debounced := some level, timer := .stopped } := by
  rw [State.setDebounced_eq, State.line_setLine_self]
  simp only [State.setLine, Oct.set_set]

/-! ## Raw changes and the debounce timer (R117) -/

theorem State.rawChange_of_not_input {l : Fin 8} {level : Bool} (hf : (s.line l).cfg.function ≠ .input)
    (hraw : (s.line l).raw ≠ level) : s.rawChange l level = s.setLine l { s.line l with raw := level } := by
  simp only [State.rawChange, if_neg hraw, if_neg hf]

/-- The debounced level is kept: the timer stops at a level that is back, and starts afresh at one that differs. -/
theorem State.rawChange_of_waiting {l : Fin 8} {level : Bool} (hf : (s.line l).cfg.function = .input)
    (hraw : (s.line l).raw ≠ level) (h : (s.line l).debounced = some level ∨ (s.line l).cfg.debounce ≠ 0) :
    s.rawChange l level = s.setLine l { s.line l with
      raw := level
      timer := if (s.line l).debounced = some level then .stopped else .running (s.line l).cfg.debounce } := by
  simp only [State.rawChange, if_neg hraw, if_pos hf]
  by_cases hback : (s.line l).debounced = some level
  · rw [if_pos hback, if_pos hback]
  · rw [if_neg hback, if_neg (h.resolve_left hback), if_neg hback]

theorem State.rawChange_of_no_debounce {l : Fin 8} {level : Bool} (hf : (s.line l).cfg.function = .input)
    (hraw : (s.line l).raw ≠ level) (hdiff : (s.line l).debounced ≠ some level) (h : (s.line l).cfg.debounce = 0) :
    s.rawChange l level = (s.setLine l { s.line l with raw := level }).setDebounced l level := by
  simp only [State.rawChange, if_neg hraw, if_pos hf, if_neg hdiff, if_pos h]

theorem State.debounceExpiry_of_running {l : Fin 8} {n : Nat} (hf : (s.line l).cfg.function = .input)
    (ht : (s.line l).timer = .running n) : s.debounceExpiry l = s.setDebounced l (s.line l).raw :=
  if_pos ⟨by rw [ht]; rfl, hf⟩

/-- Settles O34: a raw change by the line's function and debounce time, and the timer's expiry. -/
theorem debouncedLevelFollowsASteadyRawLevel : Obligations.DebouncedLevelFollowsASteadyRawLevel := by
  intro l s
  refine ⟨fun level hf hraw => congrArg _ (State.rawChange_of_not_input hf hraw), fun hf => ⟨fun level hraw h => ?_,
    fun level hraw hdiff h => ?_, fun n ht => ?_⟩⟩
  · exact congrArg _ (State.rawChange_of_waiting hf hraw h)
  · exact congrArg _ ((State.rawChange_of_no_debounce hf hraw hdiff h).trans (s.setLine_setDebounced l _ level))
  · exact congrArg _ ((State.debounceExpiry_of_running hf ht).trans (s.setDebounced_eq l _))

/-! ## LINE-CONFIG (R116) -/

theorem State.configureLine_of_not_input {l : Fin 8} {cfg : LineRecord} (h : cfg.function ≠ .input) :
    s.configureLine l cfg = s.setLine l { s.line l with cfg := cfg, debounced := none, timer := .stopped } := by
  unfold State.configureLine
  cases hf : cfg.function with
  | input => exact absurd hf h
  | unused => rfl
  | output => rfl

/-- A line made an INPUT starts from its raw level. -/
theorem State.configureLine_of_made_input {l : Fin 8} {cfg : LineRecord} (h : cfg.function = .input)
    (hold : (s.line l).cfg.function ≠ .input) : s.configureLine l cfg =
      s.setLine l { s.line l with cfg := cfg, debounced := some (s.line l).raw, timer := .stopped } := by
  simp only [State.configureLine, h, if_neg hold]

/-- A line that stays an INPUT restarts a timer that runs with the new time. -/
theorem State.configureLine_of_kept_input {l : Fin 8} {cfg : LineRecord} (h : cfg.function = .input)
    (hold : (s.line l).cfg.function = .input) (hd : cfg.debounce ≠ 0) : s.configureLine l cfg =
      s.setLine l { s.line l with
        cfg := cfg
        timer := match (s.line l).timer with
          | .running _ => .running cfg.debounce
          | other => other } := by
  simp only [State.configureLine, h, if_pos hold, if_neg hd]
  cases (s.line l).timer with
  | running n => rfl
  | stopped => rfl
  | expired => rfl

/-- With no debounce time a line that stays an INPUT takes its raw level. -/
theorem State.configureLine_of_no_debounce {l : Fin 8} {cfg : LineRecord} (h : cfg.function = .input)
    (hold : (s.line l).cfg.function = .input) (hd : cfg.debounce = 0) : s.configureLine l cfg =
      (s.setLine l { s.line l with cfg := cfg }).setDebounced l (s.line l).raw := by
  simp only [State.configureLine, h, if_pos hold, if_pos hd]

/-- A code list that has nothing above `b` reads no code above `b`. -/
theorem code_le_of_eq_some {α : Type} {codes : Nat → Option α} (b : Nat) (hnone : ∀ k, codes (k + (b + 1)) = none)
    {n : Nat} {x : α} (h : codes n = some x) : n ≤ b := by
  by_contra hn
  obtain ⟨k, rfl⟩ := Nat.exists_eq_add_of_le' (Nat.lt_of_not_le hn)
  exact nomatch (hnone k).symm.trans h

/-- A line record with a code out of range is none. -/
theorem lineRecordOf_eq_none {function polarity debounce role edge source : Byte}
    (h : 2 < function.toNat ∨ 1 < polarity.toNat ∨ 6 < role.toNat ∨ 3 < edge.toNat ∨ 4 < source.toNat) :
    lineRecordOf function polarity debounce role edge source = none := by
  unfold lineRecordOf
  split
  · rename_i f p r e o hf hp hr he ho
    have hf := code_le_of_eq_some 2 (fun _ => rfl) hf
    have hp := code_le_of_eq_some 1 (fun _ => rfl) hp
    have hr := code_le_of_eq_some 6 (fun _ => rfl) hr
    have he := code_le_of_eq_some 3 (fun _ => rfl) he
    have ho := code_le_of_eq_some 4 (fun _ => rfl) ho
    omega
  · rfl

theorem index8_eq_none {n : Nat} (h : 7 < n) : index8 n = none := dif_neg (by omega)

theorem exec_lineConfig (h : s.takesAtOnce) (tag line function polarity debounce role edge source : Byte) :
    exec (.lineConfig tag line function polarity debounce role edge source) s =
      .next (s.withPlace.serveLineConfig ⟨tag, 0x40⟩ line function polarity debounce role edge source) := by
  change Host.Outcome.next
    (s.submit ((Req.lineConfig line function polarity debounce role edge source).toRequest tag)) = _
  rw [s.submit_takesAtOnce ((Req.lineConfig line function polarity debounce role edge source).toRequest tag) h
      (show 7 ≤ 56 by decide),
    State.serve_of_parse _ _ (.lineConfig line function polarity debounce role edge source) rfl]
  rfl

theorem State.withPlace_serveLineConfig_bad_argument (t : Ticket)
    {line function polarity debounce role edge source : Byte}
    (h : 7 < line.toNat ∨ 2 < function.toNat ∨ 1 < polarity.toNat ∨ 6 < role.toNat ∨ 3 < edge.toNat ∨
      4 < source.toNat) :
    s.withPlace.serveLineConfig t line function polarity debounce role edge source =
      s.responded t.tag t.kind .badArgument [] := by
  rw [← s.withPlace_answerWith t .badArgument []]
  unfold State.serveLineConfig
  split
  · rename_i hl hcfg
    rcases h with h | h
    · rw [index8_eq_none h] at hl
      exact nomatch hl
    · rw [lineRecordOf_eq_none h] at hcfg
      exact nomatch hcfg
  · rfl

/-- A LINE-CONFIG whose record is in range configures the line it names. -/
theorem exec_lineConfig_of_record (h : s.takesAtOnce) {tag line function polarity debounce role edge source : Byte}
    {l : Fin 8} {f : LineFunction} {pol : Polarity} {r : Option Role} {e : EdgeSelect} {o : OutputSource}
    (hl : line.toNat = l.val) (hf : functionOf function.toNat = some f) (hp : polarityOf polarity.toNat = some pol)
    (hr : roleOf role.toNat = some r) (he : edgeOf edge.toNat = some e) (ho : sourceOf source.toNat = some o)
    {t : State} (ht : s.withPlace.configureLine l ⟨f, pol, debounce.toNat, r, e, o⟩ = t.withPlace) :
    exec (.lineConfig tag line function polarity debounce role edge source) s =
      .next (t.responded tag 0x40 .done []) := by
  have hcfg : lineRecordOf function polarity debounce role edge source = some ⟨f, pol, debounce.toNat, r, e, o⟩ := by
    simp only [lineRecordOf, hf, hp, hr, he, ho]
  rw [exec_lineConfig h, State.serveLineConfig, (index8_eq_some_iff _ _).mpr hl, hcfg]
  change Host.Outcome.next ((s.withPlace.configureLine l _).answerWith ⟨tag, 0x40⟩ .done []) = _
  rw [ht, State.withPlace_answerWith]

/-- Settles O33: a field out of range, then the four cases of R116. -/
theorem lineConfigReplacesTheRecord : Obligations.LineConfigReplacesTheRecord := by
  intro tag line function polarity debounce role edge source s hs
  refine ⟨fun h => ?_, fun l f pol r e o hl hf hp hr he ho => ?_⟩
  · rw [exec_lineConfig hs, State.withPlace_serveLineConfig_bad_argument _ h]
  have hexec {t : State} := exec_lineConfig_of_record (t := t) (tag := tag) (debounce := debounce) hs hl hf hp hr he ho
  refine ⟨fun hnot => ?_, fun hin hold => ?_, fun hin hold hd => ?_, fun hin hold hd => ?_⟩
  · exact hexec (State.configureLine_of_not_input (s := s.withPlace) hnot)
  · exact hexec (State.configureLine_of_made_input (s := s.withPlace) hin hold)
  · exact hexec (State.configureLine_of_kept_input (s := s.withPlace) hin hold
      fun h0 => hd (BitVec.eq_of_toNat_eq h0))
  · subst hd
    exact hexec ((State.configureLine_of_no_debounce (s := s.withPlace) hin hold rfl).trans
      (s.withPlace.setLine_setDebounced l _ _))

end Sys2Proof.Machine
end

section
/-! PROOF. Vehicle lines as outputs (R120 to R122): the level an output drives, and LINES-SET and LINES-CLEAR (O32). -/

namespace Sys2Proof.Machine

variable {s : State}

/-! ## The level driven (R120, R121) -/

/-- The attention flag: some event has both status and enable (R166). -/
theorem State.attentionFlag_iff (s : State) : s.attentionFlag = true ↔
    ∃ e < 24, s.mgmt.status.getLsbD e = true ∧ s.mgmt.enable.getLsbD e = true := by
  simp only [State.attentionFlag, decide_eq_true_iff, ne_eq, BitVec.eq_of_getLsbD_eq_iff, BitVec.getLsbD_and,
    BitVec.ofNat_eq_ofNat, BitVec.getLsbD_zero, not_forall, Bool.not_eq_false, Bool.and_eq_true, exists_prop]

theorem State.cameraFault_iff (s : State) : s.cameraFault = true ↔
    ∃ p, profileEnabled (s.port p).profile = true ∧ (s.port p).st ≠ .live := by
  simp only [State.cameraFault, any_allCams_iff, Bool.and_eq_true, decide_eq_true_iff]

theorem Mode.isSpecial_iff (m : Mode) : m.isSpecial = true ↔ m = .turn ∨ m = .lift ∨ m = .kerb := by
  cases m <;> simp [Mode.isSpecial]

theorem levelAsserted_eq_true_iff (pol : Polarity) (b : Bool) :
    levelAsserted pol b = true ↔ (pol = .activeHigh ∧ b = true) ∨ (pol = .activeLow ∧ ¬b = true) := by
  cases pol <;> simp [levelAsserted]

/-- What R121 says of a line's source is the value the model gives it. -/
theorem State.sourceValue_iff {l : Fin 8} {asserted : Prop}
    (h : ((s.line l).cfg.source = .manual ∧ (asserted ↔ (s.line l).manual = true)) ∨
      ((s.line l).cfg.source = .attention ∧
        (asserted ↔ ∃ e < 24, s.mgmt.status.getLsbD e = true ∧ s.mgmt.enable.getLsbD e = true)) ∨
      ((s.line l).cfg.source = .cameraFault ∧
        (asserted ↔ ∃ p, profileEnabled (s.port p).profile = true ∧ (s.port p).st ≠ .live)) ∨
      ((s.line l).cfg.source = .specialView ∧
        (asserted ↔ s.veh.sentMode = .turn ∨ s.veh.sentMode = .lift ∨ s.veh.sentMode = .kerb)) ∨
      ((s.line l).cfg.source = .zoneNear ∧ (asserted ↔ s.veh.near = true))) :
    s.sourceValue l = true ↔ asserted := by
  unfold State.sourceValue
  rcases h with ⟨hsrc, ha⟩ | ⟨hsrc, ha⟩ | ⟨hsrc, ha⟩ | ⟨hsrc, ha⟩ | ⟨hsrc, ha⟩
  · rw [hsrc, ha]
  · rw [hsrc, ha, ← s.attentionFlag_iff]
  · rw [hsrc, ha, ← s.cameraFault_iff]
  · rw [hsrc, ha, ← Mode.isSpecial_iff]
  · rw [hsrc, ha]

theorem State.driven_of_output {l : Fin 8} (h : (s.line l).cfg.function = .output) :
    s.driven l = some (levelAsserted (s.line l).cfg.polarity (s.sourceValue l)) := if_pos h

theorem State.driven_of_not_output {l : Fin 8} (h : (s.line l).cfg.function ≠ .output) : s.driven l = none := if_neg h

/-- An OUTPUT line whose source is MANUAL drives its manual level. -/
theorem State.driven_of_manual {l : Fin 8} (h : (s.line l).cfg.function = .output)
    (hsrc : (s.line l).cfg.source = .manual) :
    s.driven l = some (levelAsserted (s.line l).cfg.polarity (s.line l).manual) := by
  rw [State.driven_of_output h, State.sourceValue, hsrc]

/-! ## LINES-SET and LINES-CLEAR (R122) -/

theorem Oct.build_get {α : Type} (q : Oct α) : (Oct.build fun i => q.get i) = q := rfl

theorem State.setManual_line (s : State) (mask : Byte) (level : Bool) (l : Fin 8) : (s.setManual mask level).line l =
    { s.line l with manual := if mask.getLsbD l.val then level else (s.line l).manual } := by
  simp only [State.line, State.setManual, Oct.get_build]
  split <;> rfl

theorem State.setManual_zero (s : State) (level : Bool) : s.setManual 0 level = s := by
  simp only [State.setManual, BitVec.ofNat_eq_ofNat, BitVec.getLsbD_zero, Bool.false_eq_true, if_false, Oct.build_get]

/-- A line whose source is not MANUAL drives what it drove. -/
theorem State.setManual_driven {l : Fin 8} (mask : Byte) (level : Bool) (h : (s.line l).cfg.source ≠ .manual) :
    (s.setManual mask level).driven l = s.driven l := by
  have hval : (s.setManual mask level).sourceValue l = s.sourceValue l := by
    unfold State.sourceValue
    rw [State.setManual_line]
    cases hsrc : (s.line l).cfg.source with
    | manual => exact absurd hsrc h
    | attention => rfl
    | cameraFault => rfl
    | specialView => rfl
    | zoneNear => rfl
  rw [State.driven, State.driven, hval, State.setManual_line]

theorem exec_linesSet (h : s.takesAtOnce) (tag mask : Byte) :
    exec (.linesSet tag mask) s = .next ((s.setManual mask true).responded tag 0x41 .done []) := by
  change Host.Outcome.next (s.submit ((Req.linesSet mask).toRequest tag)) = _
  rw [s.submit_takesAtOnce ((Req.linesSet mask).toRequest tag) h (show 1 ≤ 56 by decide),
    State.serve_of_parse _ _ (.linesSet mask) rfl]
  exact congrArg _ ((s.setManual mask true).withPlace_answerWith ⟨tag, 0x41⟩ .done [])

theorem exec_linesClear (h : s.takesAtOnce) (tag mask : Byte) :
    exec (.linesClear tag mask) s = .next ((s.setManual mask false).responded tag 0x42 .done []) := by
  change Host.Outcome.next (s.submit ((Req.linesClear mask).toRequest tag)) = _
  rw [s.submit_takesAtOnce ((Req.linesClear mask).toRequest tag) h (show 1 ≤ 56 by decide),
    State.serve_of_parse _ _ (.linesClear mask) rfl]
  exact congrArg _ ((s.setManual mask false).withPlace_answerWith ⟨tag, 0x42⟩ .done [])

/-- Either request of R122, with the level it sets and the kind it is answered under. -/
theorem exec_lines (h : s.takesAtOnce) {tag mask : Byte} {level : Bool} {c : Instr} {kind : Byte}
    (hc : (level = true ∧ c = .linesSet tag mask ∧ kind = 0x41) ∨
      (level = false ∧ c = .linesClear tag mask ∧ kind = 0x42)) :
    exec c s = .next ((s.setManual mask level).responded tag kind .done []) := by
  rcases hc with ⟨rfl, rfl, rfl⟩ | ⟨rfl, rfl, rfl⟩
  · exact exec_linesSet h tag mask
  · exact exec_linesClear h tag mask

/-- Settles O32: the level driven by source and polarity, then the manual levels set and cleared. -/
theorem linesSetAndClearSetManualLevels : Obligations.LinesSetAndClearSetManualLevels := by
  refine ⟨fun s l asserted hsrc hout => ⟨_, State.driven_of_output hout, ?_⟩, ?_⟩
  · rw [levelAsserted_eq_true_iff, State.sourceValue_iff hsrc]
  intro tag mask s hs level c kind hc
  refine ⟨_, exec_lines hs hc, rfl, s.setManual_line mask level, ?_, fun l hout hman hbit => ?_, fun l hout => ?_,
    fun l hsrc => State.setManual_driven mask level hsrc, fun l cfg hout hman => ?_⟩
  · rintro rfl
    rw [State.setManual_zero]
    rfl
  · have hline := s.setManual_line mask level l
    rw [if_pos hbit] at hline
    change (s.setManual mask level).driven l = _
    rw [State.driven_of_manual (by rw [hline]; exact hout) (by rw [hline]; exact hman), hline]
    rfl
  · exact State.driven_of_not_output (by
      change ((s.setManual mask level).line l).cfg.function ≠ _
      rw [State.setManual_line]; exact hout)
  · rw [State.driven_of_manual (by rw [State.line_setLine_self]; exact hout)
        (by rw [State.line_setLine_self]; exact hman), State.line_setLine_self]
    change some (levelAsserted cfg.polarity ((s.setManual mask level).line l).manual) = _
    rw [State.setManual_line]
    rfl

end Sys2Proof.Machine
end

section
/-! PROOF. Vehicle-data records (R124 to R128): what a record must be, what an accepted one leaves, and the expiries (O35
to O37). -/

namespace Sys2Proof.Machine

variable {s : State} {bs : List Byte}

/-! ## Which records are malformed (R124) -/

theorem readingIndices_nodup_iff (n : Nat) : (readingIndices bs n).Nodup ↔
    ¬∃ i j, i < j ∧ j < n ∧ byteAt bs (7 + 3 * i) = byteAt bs (7 + 3 * j) := by
  rw [readingIndices, List.nodup_map_iff_inj_on List.nodup_range]
  simp only [List.mem_range]
  constructor
  · rintro h ⟨i, j, hij, hj, he⟩
    exact Nat.ne_of_lt hij (h i (by omega) j hj he)
  · intro h i hi j hj he
    rcases Nat.lt_trichotomy i j with hij | hij | hij
    · exact absurd ⟨i, j, hij, hj, he⟩ h
    · exact hij
    · exact absurd ⟨j, i, hij, hi, he.symm⟩ h

theorem vehicleRecordOk_iff : vehicleRecordOk bs = true ↔
    ¬(u16At bs (bs.length - 2) ≠ (crc16 (bs.take (bs.length - 2))).toNat ∨ 8 < byteAt bs 6 ∨
      bs.length ≠ 9 + 3 * byteAt bs 6 ∨ (∃ i < byteAt bs 6, 7 < byteAt bs (7 + 3 * i)) ∨
      (∃ i j, i < j ∧ j < byteAt bs 6 ∧ byteAt bs (7 + 3 * i) = byteAt bs (7 + 3 * j))) := by
  have hrange : (readingIndices bs (byteAt bs 6)).all (fun i => decide (i ≤ 7)) = true ↔
      ¬∃ i < byteAt bs 6, 7 < byteAt bs (7 + 3 * i) := by simp [readingIndices]
  have hcrc : crc16Matches bs = true ↔
      2 ≤ bs.length ∧ u16At bs (bs.length - 2) = (crc16 (bs.take (bs.length - 2))).toNat := by simp [crc16Matches]
  simp only [vehicleRecordOk, Bool.and_eq_true, decide_eq_true_iff, hrange, hcrc, readingIndices_nodup_iff, not_or,
    not_not, Nat.not_lt]
  constructor
  · rintro ⟨⟨⟨⟨⟨-, h1⟩, h2⟩, h3⟩, h4⟩, h5⟩
    exact ⟨h1, h2, h3, h4, h5⟩
  · rintro ⟨h1, h2, h3, h4, h5⟩
    exact ⟨⟨⟨⟨⟨by omega, h1⟩, h2⟩, h3⟩, h4⟩, h5⟩

/-! ## The readings (R125) -/

theorem applyReading_get_of_named {q : Oct Sensor} {i : Nat} {k : Fin 8} (h : byteAt bs (7 + 3 * i) = k.val) :
    (applyReading bs q i).get k = ⟨readingOf (u16At bs (8 + 3 * i)), 0⟩ := by
  rw [applyReading, (index8_eq_some_iff _ _).mpr h]
  exact Oct.get_set_self q k _

theorem applyReading_get_of_not_named {q : Oct Sensor} {i : Nat} {k : Fin 8} (h : byteAt bs (7 + 3 * i) ≠ k.val) :
    (applyReading bs q i).get k = q.get k := by
  unfold applyReading
  split
  · rfl
  · rename_i j hj
    rw [index8_eq_some_iff] at hj
    exact Oct.get_set_ne q j k _ fun hkj => h (hkj ▸ hj)

/-- A sensor that no reading names keeps its reading. -/
theorem foldl_applyReading_of_not_named {is : List Nat} {k : Fin 8} (h : ∀ i ∈ is, byteAt bs (7 + 3 * i) ≠ k.val)
    (q : Oct Sensor) : (is.foldl (applyReading bs) q).get k = q.get k := by
  induction is generalizing q with
  | nil => rfl
  | cons j is ih =>
    rw [List.foldl_cons, ih fun i hi => h i (List.mem_cons_of_mem _ hi),
      applyReading_get_of_not_named (h j List.mem_cons_self)]

/-- A sensor named by one reading alone has that reading, whatever follows it. -/
theorem foldl_applyReading_of_named {is : List Nat} {k : Fin 8} {i : Nat}
    (hnd : (is.map fun i => byteAt bs (7 + 3 * i)).Nodup) (hi : i ∈ is) (h : byteAt bs (7 + 3 * i) = k.val)
    (q : Oct Sensor) : (is.foldl (applyReading bs) q).get k = ⟨readingOf (u16At bs (8 + 3 * i)), 0⟩ := by
  induction is generalizing q with
  | nil => exact absurd hi List.not_mem_nil
  | cons j is ih =>
    obtain ⟨hj, hnd⟩ := List.nodup_cons.mp hnd
    rw [List.foldl_cons]
    rcases List.mem_cons.mp hi with rfl | hi
    · have hrest : ∀ x ∈ is, byteAt bs (7 + 3 * x) ≠ k.val := fun x hx he =>
        hj (List.mem_map.mpr ⟨x, hx, he.trans h.symm⟩)
      rw [foldl_applyReading_of_not_named hrest, applyReading_get_of_named h]
    · exact ih hnd hi _

/-! ## The band (R128) -/

/-- The band is kept under the hysteresis where the data was FRESH or STALE, and chosen afresh otherwise. -/
theorem nextBand_eq (t : BandTable) (found : VdState) (k : Nat) (a : Int) : nextBand t found k a =
    if (found = .fresh ∨ found = .stale) ∧ (k = 0 ∨ t.edges.getD (k - 1) 0 - t.hysteresis ≤ a) ∧
      (k + 1 = t.count ∨ a < t.edges.getD k 0 + t.hysteresis) then k else bandContaining t.edges a := by
  cases found with
  | none => simp [nextBand]
  | lost => simp [nextBand]
  | fresh => simp [nextBand, bandKept]
  | stale => simp [nextBand, bandKept]

/-! ## A record that arrives (R124, R125, R127) -/

theorem State.vehicleRecord_of_ok (h : vehicleRecordOk bs = true) : s.vehicleRecord bs = { s with
    veh := s.veh.accept (bandTableOf s.ovl.bands) bs
    mgmt.status := if s.veh.state = .fresh then s.mgmt.status else s.mgmt.status ||| BitVec.twoPow 24 22 } := by
  rw [State.vehicleRecord, if_pos h, State.raiseIf_eq]
  simp only [decide_eq_true_iff, ite_not]
  rfl

theorem State.vehicleRecord_of_malformed (h : ¬vehicleRecordOk bs = true) : s.vehicleRecord bs = s := if_neg h

/-- A record of type 0x02 goes to the vehicle interface, by whichever command it comes. -/
theorem exec_vehicleRecord {c : Instr} (hc : c = .vehicleDataRecord bs ∨ c = .requestRecord bs)
    (hhead : bs.head? = some 0x02) : exec c s = .next (s.vehicleRecord bs) := by
  have hrec : s.receiveRecord bs = s.vehicleRecord bs := if_pos hhead
  rcases hc with rfl | rfl
  · exact congrArg _ hrec
  · exact congrArg _ hrec

/-- Settles O35: each field of the accepted record. -/
theorem acceptedVehicleRecordIsApplied : Obligations.AcceptedVehicleRecordIsApplied := by
  intro bs s c hc hhead hok
  have hnodup : (readingIndices bs (byteAt bs 6)).Nodup :=
    (readingIndices_nodup_iff _).mpr fun hdup => vehicleRecordOk_iff.mp hok (.inr (.inr (.inr (.inr hdup))))
  refine ⟨_, (exec_vehicleRecord hc hhead).trans (congrArg _ (State.vehicleRecord_of_ok hok)), rfl, rfl, rfl, rfl, rfl,
    rfl, fun i hi k hk => ?_, fun k hk => ?_, ?_, rfl, rfl, rfl, rfl⟩
  · exact foldl_applyReading_of_named hnodup (List.mem_range.mpr hi) hk _
  · exact foldl_applyReading_of_not_named (fun i hi => hk i (List.mem_range.mp hi)) _
  · exact nextBand_eq _ _ _ _

/-- Settles O36: a malformed record stops at the check, and any other is accepted as it stands. -/
theorem malformedVehicleRecordChangesNothing : Obligations.MalformedVehicleRecordChangesNothing := by
  intro bs s c malformed hc hhead hmal
  have hok : vehicleRecordOk bs = true ↔ ¬malformed := by rw [hmal, vehicleRecordOk_iff]
  rw [exec_vehicleRecord hc hhead]
  refine ⟨fun h => ?_, fun h => ?_⟩
  · rw [State.vehicleRecord_of_malformed fun h' => hok.mp h' h]
  · exact ⟨_, congrArg _ (State.vehicleRecord_of_ok (hok.mpr h)), rfl, rfl, rfl, rfl, rfl, rfl⟩

/-! ## The expiries (R127) -/

theorem State.staleExpiry_of_running {n : Nat} (hv : s.veh.state = .fresh) (ht : s.veh.staleTimer = .running n) :
    s.staleExpiry =
      ({ s with veh := { s.veh with state := .stale, staleTimer := .stopped } } : State).raise evVehicleData :=
  if_pos ⟨hv, by rw [ht]; rfl⟩

theorem State.lostExpiry_of_running {n : Nat} (hv : s.veh.state = .stale) (ht : s.veh.lostTimer = .running n) :
    s.lostExpiry =
      ({ s with veh := { s.veh with state := .lost, lostTimer := .stopped } } : State).raise evVehicleData :=
  if_pos ⟨hv, by rw [ht]; rfl⟩

/-- Settles O37: each expiry finds its timer running. -/
theorem staleAndLostExpiriesAgeTheData : Obligations.StaleAndLostExpiriesAgeTheData := fun _ _ =>
  ⟨fun hv ht => congrArg _ (State.staleExpiry_of_running hv ht),
    fun hv ht => congrArg _ (State.lostExpiry_of_running hv ht)⟩

end Sys2Proof.Machine
end

section
/-! PROOF. The step on an empty queue (R126; log 2): what one millisecond leaves of each timer and each reading (O2). -/

namespace Sys2Proof.Machine

theorem Timer.countedDown_tick (t : Timer) : t.countedDown t.tick := by
  cases t with
  | running n => exact ⟨fun m h => by cases h; rfl, fun h => absurd rfl (h n)⟩
  | stopped => exact ⟨nofun, fun _ => rfl⟩
  | expired => exact ⟨nofun, fun _ => rfl⟩

theorem Sensor.tick_reading (x : Sensor) : x.tick.reading = x.reading := by
  unfold Sensor.tick
  split <;> rfl

theorem Sensor.tick_age (x : Sensor) :
    x.tick.age = if x.reading = .none then x.age else min 65535 (x.age + 1) := by
  unfold Sensor.tick
  cases hr : x.reading with
  | none => rfl
  | noEcho => rfl
  | range r => rfl

theorem State.tick_port (s : State) (p : Cam) :
    s.tick.port p = { s.port p with staleness := (s.port p).staleness.tick } := Quad.get_build _ p

theorem State.tick_chan (s : State) (p : Cam) :
    s.tick.chan p = { s.chan p with timer := (s.chan p).timer.tick } := Quad.get_build _ p

theorem State.tick_line (s : State) (l : Fin 8) :
    s.tick.line l = { s.line l with timer := (s.line l).timer.tick } := Oct.get_build _ l

theorem State.tick_sensor (s : State) (i : Fin 8) : s.tick.veh.sensors.get i = (s.veh.sensors.get i).tick :=
  Oct.get_build _ i

theorem step_of_nothing_pending {s : State} (h : s.pending = []) : step s = .next s.tick := by
  rw [step, h]

/-- Settles O2: the readings, the timers one by one, and the rest. -/
theorem idleStepPassesOneMillisecond : Obligations.IdleStepPassesOneMillisecond := by
  intro s h
  refine ⟨s.tick, step_of_nothing_pending h, fun i => ?_, fun p => ?_, fun p => ?_, fun l => ?_,
    Timer.countedDown_tick _, Timer.countedDown_tick _, Timer.countedDown_tick _, Timer.countedDown_tick _,
    Timer.countedDown_tick _, rfl, rfl, rfl, rfl, rfl, rfl, rfl, rfl, rfl, rfl, rfl, h⟩
  · rw [State.tick_sensor]
    exact ⟨Sensor.tick_reading _, Sensor.tick_age _⟩
  · rw [State.tick_port]
    exact ⟨rfl, Timer.countedDown_tick _⟩
  · rw [State.tick_chan]
    exact ⟨rfl, Timer.countedDown_tick _⟩
  · rw [State.tick_line]
    exact ⟨rfl, Timer.countedDown_tick _⟩

end Sys2Proof.Machine
end

section
/-! PROOF. The exchange on a back channel (R133 to R137, R139, R142, R144): how each answer of the camera advances it or
ends it, what each requester is left with, and O28 to O30. -/

namespace Sys2Proof.Machine

variable {s : State} {p : Cam} {t : Transaction}

/-! ## An accepted byte, by the step it finishes (R133, R134) -/

theorem State.acceptStep_device (h : t.step = .device) : s.acceptStep p t =
    s.nextStep p { t with step := .regHigh } [.byte (BitVec.ofNat 8 (t.register / 256))] := by
  simp only [State.acceptStep, h]

/-- The byte on the wire is the register's low one. -/
theorem State.acceptStep_regHigh (h : t.step = .regHigh) : s.acceptStep p t =
    s.nextStep p { t with step := .regLow } [.byte (BitVec.ofNat 8 (t.register % 256))] := by
  have hlow : BitVec.ofNat 8 (t.register % 256) = BitVec.ofNat 8 t.register := BitVec.eq_of_toNat_eq (by simp)
  simp only [State.acceptStep, h, hlow]

theorem State.acceptStep_regLow_write (h : t.step = .regLow) (hw : t.read = false) : s.acceptStep p t =
    s.nextStep p { t with step := .dataByte 0 } [.byte (t.data.getD 0 0)] := by
  simp only [State.acceptStep, h, hw, Bool.false_eq_true, if_false]

theorem State.acceptStep_regLow_read (h : t.step = .regLow) (hr : t.read = true) : s.acceptStep p t =
    s.nextStep p { t with step := .deviceRead } [.restartMark, .device t.device true] := by
  simp only [State.acceptStep, h, hr, if_true]

theorem State.acceptStep_dataByte {k : Nat} (h : t.step = .dataByte k) (hk : k + 1 < t.count) : s.acceptStep p t =
    s.nextStep p { t with step := .dataByte (k + 1) } [.byte (t.data.getD (k + 1) 0)] := by
  simp only [State.acceptStep, h, hk, if_true]

theorem State.acceptStep_dataByte_last {k : Nat} (h : t.step = .dataByte k) (hk : t.count ≤ k + 1) :
    s.acceptStep p t = s.endTransaction p t .done [] [.stopMark] := by
  simp only [State.acceptStep, h, Nat.not_lt.mpr hk, if_false]

theorem State.acceptStep_deviceRead (h : t.step = .deviceRead) :
    s.acceptStep p t = s.nextStep p { t with step := .readByte } [] := by
  simp only [State.acceptStep, h]

theorem exec_cameraAnswer_accepted (h : (s.chan p).flight = some t) :
    exec (.cameraAnswer p true) s = .next (s.acceptStep p t) := by
  change Host.Outcome.next (s.cameraAnswer p true) = _
  simp only [State.cameraAnswer, h, if_true]

theorem exec_cameraAnswer_rejected (h : (s.chan p).flight = some t) :
    exec (.cameraAnswer p false) s = .next (s.rejectStep p t) := by
  change Host.Outcome.next (s.cameraAnswer p false) = _
  simp only [State.cameraAnswer, h, Bool.false_eq_true, if_false]

/-- Settles O28: each step by its equation; `State.nextStep` writes the channel out. -/
theorem acceptedBytesAdvanceTheExchange : Obligations.AcceptedBytesAdvanceTheExchange := by
  intro p s t hf
  rw [exec_cameraAnswer_accepted hf]
  refine ⟨fun h => ?_, fun h => ?_, fun h hw => ?_, fun k h hk => ?_, fun h hr => ?_, fun h => ?_⟩
  · rw [State.acceptStep_device h]
    rfl
  · rw [State.acceptStep_regHigh h]
    rfl
  · rw [State.acceptStep_regLow_write h hw]
    rfl
  · rw [State.acceptStep_dataByte h hk]
    rfl
  · rw [State.acceptStep_regLow_read h hr]
    rfl
  · rw [State.acceptStep_deviceRead h]
    rfl

/-! ## A result handed to its requester (R67, R137, R139, R142, R144) -/

variable {r : Result} {bytes : List Byte}

theorem State.handResult_pass {k : Ticket} (h : t.who = .pass k) :
    s.handResult p t r bytes = s.answerWith k r bytes := by
  simp only [State.handResult, h]

theorem State.handResult_exposure_done {v : Nat} (h : t.who = .exposure v) : s.handResult p t .done bytes =
    s.setChan p { s.chan p with cached := if t.current then some v else (s.chan p).cached } := by
  cases hc : t.current with
  | true => simp only [State.handResult, h, hc, if_true]
  | false =>
    simp only [State.handResult, h, hc, if_true, Bool.false_eq_true, if_false]
    exact (s.setChan_chan_self p).symm

theorem State.handResult_attention_done (h : t.who = .attention) : s.handResult p t .done bytes =
    (s.setChan p { s.chan p with attnValue := bytes.getD 0 0 }).raise (evCamAttn p) := by
  simp only [State.handResult, h, if_true]

/-- An exposure write or an attention read that is not DONE sets CHANNEL-FAULT. -/
theorem State.handResult_fault (hw : ∀ k, t.who ≠ .pass k) (hr : r ≠ .done) :
    s.handResult p t r bytes = s.raise (evChannelFault p) := by
  cases h : t.who with
  | pass k => exact absurd h (hw k)
  | exposure v => simp only [State.handResult, h, hr, if_false]
  | attention => simp only [State.handResult, h, hr, if_false]

/-! ## The end of a transaction (R137; log 14) -/

/-- The channel IDLE at the end of a transaction, `items` the last it sends. -/
def Channel.ended (c : Channel) (items : List WireItem) : Channel :=
  { c with active := false, flight := none, timer := .stopped, out := items }

variable {items : List WireItem}

theorem State.endTransaction_eq : s.endTransaction p t r bytes items =
    ((s.setChan p ((s.chan p).ended items)).handResult p t r bytes).arbitrate p := rfl

/-- Where nothing waits the arbiter has no part in the end of a transaction. -/
theorem State.endTransaction_of_nothingWaits (h : (s.chan p).nothingWaits) : s.endTransaction p t r bytes items =
    (s.setChan p ((s.chan p).ended items)).handResult p t r bytes := by
  rw [State.endTransaction_eq]
  refine State.arbitrate_nothing _ p ?_
  obtain ⟨c, st, res, fil, e, hc⟩ := (s.setChan p ((s.chan p).ended items)).handResult_frame p t r bytes
  rw [State.chan_setChan_self] at hc
  rw [e, State.chan, Quad.get_set_self, hc]
  exact h

theorem State.ended_pass {k : Ticket} (h : t.who = .pass k) :
    (s.setChan p ((s.chan p).ended items)).handResult p t r bytes =
      (({ s with mgmt.reserved := s.mgmt.reserved - 1 } : State).setChan p ((s.chan p).ended items)).responded k.tag
        k.kind r bytes :=
  State.handResult_pass h

theorem State.ended_fault (hw : ∀ k, t.who ≠ .pass k) (hr : r ≠ .done) :
    (s.setChan p ((s.chan p).ended items)).handResult p t r bytes =
      ({ s with mgmt.status := s.mgmt.status ||| BitVec.twoPow 24 (8 + p.val) } : State).setChan p
        ((s.chan p).ended items) :=
  State.handResult_fault hw hr

theorem State.ended_exposure_done {v : Nat} (h : t.who = .exposure v) :
    (s.setChan p ((s.chan p).ended items)).handResult p t .done bytes = s.setChan p
      { (s.chan p).ended items with cached := if t.current then some v else (s.chan p).cached } := by
  rw [State.handResult_exposure_done h, State.chan_setChan_self, State.setChan_setChan]
  rfl

theorem State.ended_attention_done (h : t.who = .attention) :
    (s.setChan p ((s.chan p).ended items)).handResult p t .done bytes =
      ({ s with mgmt.status := s.mgmt.status ||| BitVec.twoPow 24 (4 + p.val) } : State).setChan p
        { (s.chan p).ended items with attnValue := bytes.getD 0 0 } := by
  rw [State.handResult_attention_done h, State.chan_setChan_self, State.setChan_setChan]
  rfl

/-! ## O29 -/

/-- The camera's answer `accept` ends the transaction with a result and its data bytes (R133, R134). -/
def Transaction.EndsBy (t : Transaction) (accept : Bool) (r : Result) (bytes : List Byte) : Prop :=
  (accept = false ∧ (t.step = .device ∨ t.step = .deviceRead) ∧ r = .noDevice ∧ bytes = []) ∨
  (accept = false ∧ (t.step = .regHigh ∨ t.step = .regLow) ∧ r = .refusedAddress ∧ bytes = []) ∨
  (accept = false ∧ (∃ k, t.step = .dataByte k ∧ bytes = [BitVec.ofNat 8 k]) ∧ r = .partialWrite) ∨
  (accept = true ∧ (∃ k, t.step = .dataByte k ∧ t.count ≤ k + 1) ∧ r = .done ∧ bytes = [])

theorem exec_cameraAnswer_ends {accept : Bool} (hf : (s.chan p).flight = some t) (h : t.EndsBy accept r bytes) :
    exec (.cameraAnswer p accept) s = .next (s.endTransaction p t r bytes [.stopMark]) := by
  obtain ⟨rfl, hstep, rfl, rfl⟩ | ⟨rfl, hstep, rfl, rfl⟩ | ⟨rfl, ⟨k, hstep, rfl⟩, rfl⟩ |
    ⟨rfl, ⟨k, hstep, hk⟩, rfl, rfl⟩ := h
  · rw [exec_cameraAnswer_rejected hf]
    obtain hstep | hstep := hstep <;> simp only [State.rejectStep, hstep]
  · rw [exec_cameraAnswer_rejected hf]
    obtain hstep | hstep := hstep <;> simp only [State.rejectStep, hstep]
  · rw [exec_cameraAnswer_rejected hf]
    simp only [State.rejectStep, hstep]
  · rw [exec_cameraAnswer_accepted hf, State.acceptStep_dataByte_last hstep hk]

/-- Settles O29: the answer ends the transaction, and then the result by its requester. -/
theorem cameraAnswersEndTransactions : Obligations.CameraAnswersEndTransactions := by
  intro p s t accept r bytes hf hn hend
  rw [exec_cameraAnswer_ends hf hend, State.endTransaction_of_nothingWaits hn]
  refine ⟨fun k hw => ?_, fun v hw hr => ?_, fun v hw hr => ?_, fun hw hr => ?_⟩
  · rw [State.ended_pass hw]
    rfl
  · subst hr
    rw [State.ended_exposure_done hw]
    rfl
  · rw [State.ended_fault (fun k hk => nomatch hw.symm.trans hk) hr]
    rfl
  · rw [State.ended_fault (fun k hk => nomatch hw.symm.trans hk) hr]
    rfl

/-! ## The bytes of a READ (R134) -/

theorem exec_readByte_more (b : Byte) (hf : (s.chan p).flight = some t) (hstep : t.step = .readByte)
    (hmore : t.got.length + 1 < t.count) :
    exec (.readByte p b) s = .next (s.nextStep p { t with got := t.got ++ [b] } [.accept]) := by
  change Host.Outcome.next (s.readByte p b) = _
  simp only [State.readByte, hf, hstep, hmore, if_true]

theorem exec_readByte_last (b : Byte) (hf : (s.chan p).flight = some t) (hstep : t.step = .readByte)
    (hlast : t.count ≤ t.got.length + 1) :
    exec (.readByte p b) s = .next (s.endTransaction p t .done (t.got ++ [b]) [.reject, .stopMark]) := by
  change Host.Outcome.next (s.readByte p b) = _
  simp only [State.readByte, hf, hstep, Nat.not_lt.mpr hlast, if_true, if_false]

/-- Settles O30: more bytes to come, or the last one by its requester. -/
theorem readBytesAreGatheredAndAnswered : Obligations.ReadBytesAreGatheredAndAnswered := by
  intro p b s t hf hstep
  refine ⟨fun hmore => ?_, fun hlast hn => ?_⟩
  · rw [exec_readByte_more b hf hstep hmore]
    rfl
  · rw [exec_readByte_last b hf hstep hlast, State.endTransaction_of_nothingWaits hn]
    refine ⟨fun k hw => ?_, fun hw hgot => ?_⟩
    · rw [State.ended_pass hw]
      rfl
    · rw [State.ended_attention_done hw, hgot]
      rfl

end Sys2Proof.Machine
end

section
/-! PROOF. The arbiter of a camera control channel at an IDLE channel of a locked link (R143), the commands that let it
choose (R135, R145; O31), and a CAM-XFER that joins its channel's queue (R136, R138; O27). -/

namespace Sys2Proof.Machine

variable {s : State} {p : Cam}

/-! ## The choice (R132, R140, R143) -/

theorem Channel.choose_attention {c : Channel} (h : c.attnWaiting = true) : c.choose = some .attention := if_pos h

theorem Channel.choose_pass {c : Channel} {x : XferRequest} {rest : List XferRequest} (ha : c.attnWaiting = false)
    (hq : c.queue = x :: rest) (h : c.exposure = none ∨ c.lastServed = .exposure) : c.choose = some (.pass x) := by
  obtain he | hl := h
  · simp [Channel.choose, ha, hq, he]
  · cases he : c.exposure <;> simp [Channel.choose, ha, hq, he, hl]

theorem Channel.choose_exposure {c : Channel} {v : Nat} (ha : c.attnWaiting = false) (he : c.exposure = some v)
    (h : c.queue = [] ∨ c.lastServed = .passThrough) : c.choose = some (.exposure v) := by
  obtain hq | hl := h
  · simp [Channel.choose, ha, he, hq]
  · cases hq : c.queue <;> simp [Channel.choose, ha, he, hq, hl]

section idle

variable (hidle : (s.chan p).active = false) (hl : (s.port p).lock = true)
include hidle hl

theorem State.arbitrate_attention {r : Nat} (ha : (s.chan p).attnWaiting = true)
    (hr : profileStatus (s.port p).profile = some r) : s.arbitrate p = s.setChan p
      { (s.chan p).started (attentionRead (s.port p).profile r) with attnWaiting := false } := by
  rw [State.arbitrate_starts s p _ hidle (Channel.choose_attention ha) hl, transactionFor_attention hr]
  rfl

theorem State.arbitrate_pass {x : XferRequest} {rest : List XferRequest} (ha : (s.chan p).attnWaiting = false)
    (hq : (s.chan p).queue = x :: rest) (h : (s.chan p).exposure = none ∨ (s.chan p).lastServed = .exposure) :
    s.arbitrate p = s.setChan p
      { (s.chan p).started ⟨.pass x.ticket, x.device, x.read, x.register, x.count, x.data, .device, [], false⟩ with
        queue := rest, lastServed := .passThrough } := by
  rw [State.arbitrate_starts s p _ hidle (Channel.choose_pass ha hq h) hl, Channel.take, hq]
  rfl

theorem State.arbitrate_exposure {v : Nat} {x : ExposureControl} (ha : (s.chan p).attnWaiting = false)
    (he : (s.chan p).exposure = some v) (h : (s.chan p).queue = [] ∨ (s.chan p).lastServed = .passThrough)
    (hx : profileExposure (s.port p).profile = some x) : s.arbitrate p = s.setChan p
      { (s.chan p).started (exposureWrite (s.port p).profile x v) with exposure := none, lastServed := .exposure } := by
  rw [State.arbitrate_starts s p _ hidle (Channel.choose_exposure ha he h) hl, transactionFor_exposure hx]
  rfl

end idle

/-! ## The commands after which the arbiter chooses (R135, R145) -/

/-- State `u` is `s` with channel `p` IDLE: the link, and what waits and was served last at the channel, stand. -/
structure State.Freed (p : Cam) (s u : State) : Prop where
  idle : (u.chan p).active = false
  queue : (u.chan p).queue = (s.chan p).queue
  exposure : (u.chan p).exposure = (s.chan p).exposure
  attnWaiting : (u.chan p).attnWaiting = (s.chan p).attnWaiting
  lastServed : (u.chan p).lastServed = (s.chan p).lastServed
  port : u.port p = s.port p

/-- A channel whose transaction has ended, or whose stop mark is sent, is freed where the links stand. -/
theorem State.freed_of_chan {u : State} {c : Channel} (hc : u.chan p = c)
    (h : c = { s.chan p with active := false, flight := c.flight, timer := c.timer, out := c.out })
    (hp : u.ports = s.ports) : State.Freed p s u := by
  rw [h] at hc
  have hport : u.port p = s.port p := congrArg (Quad.get · p) hp
  exact ⟨by rw [hc], by rw [hc], by rw [hc], by rw [hc], by rw [hc], hport⟩

theorem exec_stopMarkSent_of_reset (ha : (s.chan p).active = true) (hf : (s.chan p).flight = none) :
    exec (.stopMarkSent p) s = .next ((s.setChan p { s.chan p with active := false }).arbitrate p) := by
  change Host.Outcome.next (s.stopMarkSent p) = _
  rw [State.stopMarkSent, if_pos ⟨ha, hf⟩]

theorem exec_stepTimerExpiry_running {t : Transaction} {n : Nat} (hf : (s.chan p).flight = some t)
    (ht : (s.chan p).timer = .running n) : exec (.stepTimerExpiry p) s =
      .next (((s.setChan p ((s.chan p).ended [.stopMark])).handResult p t .timeout []).arbitrate p) := by
  change Host.Outcome.next (s.stepTimerExpiry p) = _
  simp only [State.stepTimerExpiry, hf, ht, Timer.isRunning, if_true, State.endTransaction_eq]

/-- The command frees the channel, leaving `u`, and its arbiter chooses: at the stop mark of a reset, or at the expiry of
a running step timer, whose TIMEOUT is handed over first. -/
def State.FreesLeaving (p : Cam) (s u : State) (c : Instr) : Prop :=
  (c = .stopMarkSent p ∧ (s.chan p).active = true ∧ (s.chan p).flight = none ∧
    u = s.setChan p { s.chan p with active := false }) ∨
  ∃ t n, c = .stepTimerExpiry p ∧ (s.chan p).flight = some t ∧ (s.chan p).timer = .running n ∧
    ((∃ k, t.who = .pass k ∧
        u = (({ s with mgmt.reserved := s.mgmt.reserved - 1 } : State).setChan p
          ((s.chan p).ended [.stopMark])).responded k.tag k.kind .timeout []) ∨
      ((∀ k, t.who ≠ .pass k) ∧
        u = ({ s with mgmt.status := s.mgmt.status ||| BitVec.twoPow 24 (8 + p.val) } : State).setChan p
          ((s.chan p).ended [.stopMark])))

theorem State.FreesLeaving.exec_eq {u : State} {c : Instr} (h : State.FreesLeaving p s u c) :
    exec c s = .next (u.arbitrate p) ∧ State.Freed p s u := by
  obtain ⟨rfl, ha, hf, rfl⟩ | ⟨t, n, rfl, hf, ht, ⟨k, hw, rfl⟩ | ⟨hw, rfl⟩⟩ := h
  · exact ⟨exec_stopMarkSent_of_reset ha hf, State.freed_of_chan (s.chan_setChan_self p _) rfl rfl⟩
  · refine ⟨by rw [exec_stepTimerExpiry_running hf ht, State.ended_pass hw], ?_⟩
    exact State.freed_of_chan (State.chan_setChan_self { s with mgmt.reserved := _ } p _) rfl rfl
  · refine ⟨by rw [exec_stepTimerExpiry_running hf ht, State.ended_fault hw (by decide)], ?_⟩
    exact State.freed_of_chan (State.chan_setChan_self { s with mgmt.status := _ } p _) rfl rfl

/-- Settles O31: what the command leaves, and the arbiter's choice there. -/
theorem timeoutsAndStopMarksLetTheArbiterChoose : Obligations.TimeoutsAndStopMarksLetTheArbiterChoose := by
  intro p s u c h
  obtain ⟨hexec, hu⟩ := State.FreesLeaving.exec_eq (s := s) (u := u) (c := c) h
  rw [hexec, ← hu.port, Channel.nothingWaits, ← hu.queue, ← hu.exposure, ← hu.attnWaiting, ← hu.lastServed]
  refine ⟨fun hn => ?_, fun hl => ⟨fun r ha hr => ?_, fun x rest ha hq hor => ?_, fun v x ha he hor hx => ?_⟩⟩
  · rw [State.arbitrate_nothing u p hn]
  · rw [State.arbitrate_attention hu.idle hl ha hr]
  · rw [State.arbitrate_pass hu.idle hl ha hq hor]
  · rw [State.arbitrate_exposure hu.idle hl ha he hor hx]

/-! ## The tests of a CAM-XFER (R138) -/

theorem xferArgsOk_iff (device direction count : Byte) (data : List Byte) :
    xferArgsOk device direction count data = true ↔ device.toNat ≤ 127 ∧ direction.toNat ≤ 1 ∧ 1 ≤ count.toNat ∧
      count.toNat ≤ 16 ∧ (direction = 0 → data.length = count.toNat) ∧ (direction ≠ 0 → data = []) := by
  by_cases hd : direction = 0#8 <;> simp [xferArgsOk, hd, and_assoc]

section request

variable {camera device direction count : Byte} {register : BitVec 16} {data : List Byte} (k : Ticket)

theorem State.serveCamXfer_out_of_range
    (h : 3 < camera.toNat ∨ 127 < device.toNat ∨ 1 < direction.toNat ∨ count.toNat = 0 ∨ 16 < count.toNat ∨
      (direction = 0 ∧ data.length ≠ count.toNat) ∨ (direction = 1 ∧ data ≠ [])) :
    s.serveCamXfer k camera device direction register count data = s.answer k .badArgument := by
  obtain hcam | hargs := h
  · simp only [State.serveCamXfer, (index4_eq_none_iff _).mpr hcam]
  · have hbad : xferArgsOk device direction count data = false := by
      rw [Bool.eq_false_iff, ne_eq, xferArgsOk_iff]
      rintro ⟨hdev, hdir, hone, hmax, hwrite, hread⟩
      obtain h | h | h | h | ⟨h, hne⟩ | ⟨rfl, hne⟩ := hargs
      · omega
      · omega
      · omega
      · omega
      · exact hne (hwrite h)
      · exact hne (hread (by decide))
    unfold State.serveCamXfer
    split
    · rfl
    · rw [hbad]
      rfl

/-- The record that waits for a CAM-XFER (R138). -/
def xferOf (k : Ticket) (device direction : Byte) (register : BitVec 16) (count : Byte) (data : List Byte) :
    XferRequest :=
  ⟨k, device.toNat, decide (direction = 1), register.toNat, count.toNat, data⟩

/-- A channel with one more pass-through at the tail of its queue. -/
def Channel.joined (c : Channel) (x : XferRequest) : Channel := { c with queue := c.queue ++ [x] }

section inRange

variable (hcam : camera.toNat = p.val) (hargs : xferArgsOk device direction count data = true)
include hcam hargs

theorem State.serveCamXfer_full (hq : 4 ≤ (s.chan p).queue.length) :
    s.serveCamXfer k camera device direction register count data = s.answer k .busy := by
  simp [State.serveCamXfer, (index4_eq_some_iff _ p).mpr hcam, hargs, Config.passPlaces, hq]

theorem State.serveCamXfer_joins (hq : (s.chan p).queue.length < 4) :
    s.serveCamXfer k camera device direction register count data =
      (s.setChan p ((s.chan p).joined (xferOf k device direction register count data))).arbitrate p := by
  simp [State.serveCamXfer, (index4_eq_some_iff _ p).mpr hcam, hargs, Config.passPlaces, Nat.not_le.mpr hq, xferOf,
    Channel.joined]

end inRange

end request

/-! ## A pass-through that joins an empty queue (R133, R136, R143) -/

variable {x : XferRequest}

/-- A pass-through that joins an empty queue and is started at once leaves the queue empty. -/
theorem Channel.joined_take_start {c : Channel} (hq : c.queue = []) (profile : List Byte) :
    ((c.joined x).take (.pass x)).start (transactionFor profile (.pass x)) =
      { c.started ⟨.pass x.ticket, x.device, x.read, x.register, x.count, x.data, .device, [], false⟩ with
        lastServed := .passThrough } := by
  rw [Channel.joined, Channel.take, hq]
  exact congrArg (fun q => { c.started _ with queue := q, lastServed := .passThrough }) hq.symm

theorem State.arbitrate_joined_locked (ha : (s.chan p).active = false) (hn : (s.chan p).nothingWaits)
    (hl : (s.port p).lock = true) : (s.setChan p ((s.chan p).joined x)).arbitrate p = s.setChan p
      { (s.chan p).started ⟨.pass x.ticket, x.device, x.read, x.register, x.count, x.data, .device, [], false⟩ with
        lastServed := .passThrough } := by
  obtain ⟨hq, he, hw⟩ := hn
  have hchoose : ((s.chan p).joined x).choose = some (.pass x) :=
    Channel.choose_pass (rest := []) hw (by simp [Channel.joined, hq]) (Or.inl he)
  rw [State.arbitrate_put _ (by exact ha) hchoose hl, Channel.joined_take_start hq]

theorem Channel.joined_drained {c : Channel} (hn : c.nothingWaits) :
    (c.joined x).drained = { c with lastServed := .passThrough } := by
  obtain ⟨hq, he, hw⟩ := hn
  simp [Channel.drained, Channel.joined, hq, he, hw]

/-- On an unlocked link the pass-through ends NO-LINK as it is selected, and is recorded as served last. -/
theorem State.arbitrate_joined_unlocked (ha : (s.chan p).active = false) (hn : (s.chan p).nothingWaits)
    (hl : (s.port p).lock = false) : (s.setChan p ((s.chan p).joined x)).arbitrate p =
      (s.setChan p { s.chan p with lastServed := .passThrough }).answerWith x.ticket .noLink [] := by
  have ⟨hq, he, hw⟩ := hn
  have hfault : ((s.chan p).joined x).faultWaits = false := by simp [Channel.faultWaits, Channel.joined, he, hw]
  have hqueue : ((s.chan p).joined x).queue = [x] := by simp [Channel.joined, hq]
  rw [State.arbitrate_unlocked _ p (by simpa [Channel.joined] using ha) (by exact hl), State.chan_setChan_self,
    State.drain_setChan, State.drain, Channel.joined_drained hn, hfault, hqueue]
  rfl

/-! ## A CAM-XFER taken at once (R138, R159) -/

theorem parseRequest_camXfer (camera device direction : Byte) (register : BitVec 16) (count : Byte) {data : List Byte}
    (h : data.length ≤ 16) :
    parseRequest 0x30 ([camera, device, direction] ++ be16 register.toNat ++ [count] ++ data) =
      .ok (.camXfer camera device direction register count data) := by
  have hreg : u16At ([camera, device, direction] ++ be16 register.toNat ++ [count] ++ data) 3 = register.toNat :=
    (u16At_drop _ 3 0).symm.trans (u16At_be16 register.isLt (count :: data))
  change Parsed.ofLength _ (.camXfer _ _ _ (BitVec.ofNat 16 (u16At _ 3)) _ _) = _
  rw [hreg, BitVec.ofNat_toNat, BitVec.setWidth_eq]
  exact if_pos (by simp [be16]; omega)

theorem exec_camXfer (h : s.takesAtOnce) (tag camera device direction : Byte) (register : BitVec 16) (count : Byte)
    {data : List Byte} (hl : data.length ≤ 16) :
    exec (.camXfer tag camera device direction register count data) s =
      .next (s.withPlace.serveCamXfer ⟨tag, 0x30⟩ camera device direction register count data) := by
  have hpay : ((Req.camXfer camera device direction register count data).toRequest tag).payload.length =
      6 + data.length := by
    simp [Req.toRequest, Req.payload, be16]
    omega
  change Host.Outcome.next (s.submit ((Req.camXfer camera device direction register count data).toRequest tag)) = _
  rw [s.submit_takesAtOnce _ h (by omega),
    State.serve_of_parse _ _ _ (parseRequest_camXfer camera device direction register count hl)]
  rfl

/-- Settles O27: out of range, then by the queue, the channel and its link. -/
theorem camXferStartsWaitsOrIsRefused : Obligations.CamXferStartsWaitsOrIsRefused := by
  intro tag camera device direction register count data s h hlen
  rw [exec_camXfer h tag camera device direction register count hlen]
  refine ⟨fun hbad => ?_, fun p hcam hdev hdir hone hmax hwrite hread => ?_⟩
  · rw [State.serveCamXfer_out_of_range _ hbad, State.answer, State.withPlace_answerWith]
  have hread' : direction ≠ 0 → data = [] := fun hne => hread (by bv_omega)
  have hargs := (xferArgsOk_iff device direction count data).mpr ⟨hdev, hdir, hone, hmax, hwrite, hread'⟩
  have hjoins (hq : (s.chan p).queue.length < 4) := State.serveCamXfer_joins (s := s.withPlace) (register := register)
    ⟨tag, 0x30⟩ hcam hargs hq
  refine ⟨fun hq => ?_, fun ha hq => ?_, fun ha hn => ⟨fun hl => ?_, fun hl => ?_⟩⟩
  · rw [State.serveCamXfer_full _ hcam hargs (by exact hq), State.answer, State.withPlace_answerWith]
  · rw [hjoins hq, State.arbitrate_put_active _ (by exact ha)]
    rfl
  · rw [hjoins (by simp [hn.1]), State.arbitrate_joined_locked (s := s.withPlace) ha hn hl]
    rfl
  · rw [hjoins (by simp [hn.1]), State.arbitrate_joined_unlocked (s := s.withPlace) ha hn hl]
    exact congrArg Host.Outcome.next
      ((s.setChan p { s.chan p with lastServed := .passThrough }).withPlace_answerWith ⟨tag, 0x30⟩ .noLink [])

end Sys2Proof.Machine
end

section
/-! PROOF. Power-on (O3, O4; R154 and the power-on rule of each block): what the part holds when power is first applied,
block by block, and power applied anew. -/

namespace Sys2Proof.Machine

/-! ## The blocks that there are several of, at the first power-on -/

theorem State.reset_port (p : Cam) : State.reset.port p = Port.powerOn false :=
  (Quad.get_build _ p).trans (by rw [Quad.get_fill])

theorem State.reset_chan (p : Cam) : State.reset.chan p = Channel.powerOn false :=
  (Quad.get_build _ p).trans (by rw [Quad.get_fill])

theorem State.reset_camBal (c : Cam) : State.reset.camBal c = ⟨256, 256, 0, 0, 0⟩ := Quad.get_fill _ c

theorem State.reset_line (l : Fin 8) : ∃ raw, State.reset.line l = Line.powerOn raw := ⟨_, Oct.get_build _ l⟩

/-! ## Tables in force at power-on, through their named fields -/

/-- R59: no camera has a partner, and every manual gain is 256. -/
theorem balancePowerOn_fields (c : Cam) :
    balancePartner balancePowerOn c = none ∧ balanceManual balancePowerOn c = 256 := by
  revert c
  decide

/-- R75: every element is of kind NONE. -/
theorem elKind_of_mem_powerOn {e : List Byte} (h : e ∈ OverlayEngine.powerOn.elements) : elKind e = 0 := by
  rw [List.eq_of_mem_replicate h]
  rfl

/-- R81: the entries above the first are black and transparent. -/
theorem palettePowerOn_above : ∀ i < 15, paletteEntry palettePowerOn (i + 1) = ⟨16, 128, 128, 0⟩ := by decide

/-- R92: one band, with one empty curve set. -/
theorem bandsPowerOn_fields : bandTableOf bandsPowerOn = ⟨0, 0, [], [[]]⟩ := by decide

/-! ## O3 and O4 -/

/-- Settles O3, block by block: the single records by computation, the others from their power-on values above. -/
theorem resetHoldsThePowerOnValues : Obligations.ResetHoldsThePowerOnValues := by
  refine ⟨rfl, rfl, rfl, rfl, rfl, fun c => Quad.get_fill _ c, rfl, rfl, rfl, rfl, rfl, rfl, rfl, rfl, rfl, rfl, rfl,
    rfl, fun p => ?port, fun i => ?slot, rfl, rfl, ?seam, rfl, rfl, rfl, rfl, rfl, rfl, rfl, fun c => ?balance,
    fun e he => elKind_of_mem_powerOn he, rfl, rfl, palettePowerOn_above, rfl, rfl, rfl, rfl, bandsPowerOn_fields,
    rfl, rfl, rfl, rfl, rfl, rfl, rfl, rfl, rfl, rfl, fun l => ?line, rfl, rfl, rfl, rfl, rfl,
    fun i => ?sensor, rfl, rfl, rfl, rfl, fun p => ?channel, rfl, rfl, rfl, rfl, rfl, rfl, rfl, rfl, rfl, rfl,
    rfl, rfl, rfl, rfl, rfl⟩
  case port =>
    rw [State.reset_port]
    exact ⟨rfl, rfl, rfl, rfl, rfl, rfl, rfl, rfl, rfl, rfl, rfl, rfl, rfl, rfl, rfl, rfl, rfl,
      fun i => Tri.get_fill _ i⟩
  case slot => exact congrArg LayoutSlot.condition (Quad.get_fill _ i)
  case seam => decide
  case balance => exact ⟨State.reset_camBal c, balancePowerOn_fields c⟩
  case line =>
    obtain ⟨raw, e⟩ := State.reset_line l
    rw [e]
    exact ⟨rfl, rfl, rfl, rfl⟩
  case sensor =>
    revert i
    decide
  case channel =>
    rw [State.reset_chan]
    exact ⟨rfl, rfl, rfl, rfl, ⟨rfl, rfl, rfl⟩, rfl, rfl, rfl⟩

/-- Settles O4: the power-on values on the links, the pins and the settled memory (`State.powerOnAgain_frame`). -/
theorem powerOnRestoresPowerOnValues : Obligations.PowerOnRestoresPowerOnValues := fun s => by
  obtain ⟨mem, e, hsettled⟩ := s.powerOnAgain_frame
  exact ⟨mem, congrArg Host.Outcome.next e, hsettled⟩

end Sys2Proof.Machine
end

section
/-! SUPPORT. What the halves of the band buffer hold (R50, R53): every sample put into one has passed the output stage, so
the compositor's and the transmitter's operations keep the halves in range. -/

namespace Sys2Proof.Machine

variable {s t : State}

/-! ## The output stage (R50) -/

/-- A pixel held to range. -/
def Pix.Held (p : Pix) : Prop :=
  (16 ≤ p.y ∧ p.y ≤ 235) ∧ (16 ≤ p.cb ∧ p.cb ≤ 240) ∧ 16 ≤ p.cr ∧ p.cr ≤ 240

theorem holdTo_bounds {lo hi : Nat} (h : lo ≤ hi) (v : Nat) : lo ≤ holdTo lo hi v ∧ holdTo lo hi v ≤ hi := by
  unfold holdTo
  omega

theorem holdPixel_held (p : Pix) : (holdPixel p).Held :=
  ⟨holdTo_bounds (by decide) _, holdTo_bounds (by decide) _, holdTo_bounds (by decide) _⟩

/-- A rounded mean of two chroma values in range is in range. -/
theorem chromaMean_bounds {a b : Nat} (ha : 16 ≤ a ∧ a ≤ 240) (hb : 16 ≤ b ∧ b ≤ 240) :
    16 ≤ (a + b + 1) / 2 ∧ (a + b + 1) / 2 ≤ 240 := by
  omega

theorem packLine_inRange {pix : Nat → Pix} (h : ∀ x, (pix x).Held) {v : Sample} (hv : v ∈ packLine pix) :
    Sample.inRange v := by
  obtain ⟨x, -, rfl⟩ := List.mem_map.mp hv
  obtain ⟨⟨hlo, hhi⟩, hcb, hcr⟩ := h x
  split
  · obtain ⟨-, hcb', -⟩ := h (x + 1)
    exact ⟨hlo, hhi, chromaMean_bounds hcb hcb'⟩
  · obtain ⟨-, -, hcr'⟩ := h (x - 1)
    exact ⟨hlo, hhi, chromaMean_bounds hcr' hcr⟩

/-- Black (R148). -/
theorem black_inRange : Sample.inRange ⟨16, 128⟩ := by
  unfold Sample.inRange
  decide

/-! ## A half, and both -/

/-- Every sample of a half is in range. -/
def Half.InRange (h : Half) : Prop := ∀ l ∈ h.lines, ∀ v ∈ l, Sample.inRange v

theorem Half.inRange_of_no_lines {h : Half} (e : h.lines = []) : h.InRange := fun l hl => by
  rw [e] at hl
  cases hl

theorem bandLines_inRange (st : HalfState) (plan : Plan) (slots : Quad LayoutSlot) (palette : List Byte)
    (entries : List DrawEntry) (fetch : Cam → Nat → Nat) (b : Nat) :
    Half.InRange ⟨st, b, bandLines plan slots palette entries fetch b⟩ := fun l hl v hv => by
  obtain ⟨r, -, rfl⟩ := List.mem_map.mp hl
  exact packLine_inRange (fun _ => holdPixel_held _) hv

theorem Half.InRange.fullReset {h : Half} (hh : h.InRange) : h.fullReset.InRange := by
  unfold Half.fullReset
  split
  · exact hh
  · exact hh
  · exact Half.inRange_of_no_lines rfl
  · exact Half.inRange_of_no_lines rfl
  · exact Half.inRange_of_no_lines rfl

theorem halvesInRange_iff (s : State) : HalvesInRange s ↔ ∀ b, (s.comp.half b).InRange := by
  refine ⟨fun ⟨h0, h1⟩ b => ?_, fun h => ⟨h 0, h 1⟩⟩
  unfold Compositor.half
  split
  · exact h0
  · exact h1

theorem HalvesInRange.of_half (h : HalvesInRange s) (e : ∀ b, t.comp.half b = s.comp.half b) : HalvesInRange t :=
  (halvesInRange_iff t).mpr fun b => by
    rw [e]
    exact (halvesInRange_iff s).mp h b

/-- A half put in place of the one of its parity. -/
theorem HalvesInRange.setHalf (h : HalvesInRange s) (b : Nat) {x : Half} (hx : x.InRange)
    (e : ∀ m, t.comp.half m = if m % 2 = b % 2 then x else s.comp.half m) : HalvesInRange t :=
  (halvesInRange_iff t).mpr fun m => by
    rw [e]
    split
    · exact hx
    · exact (halvesInRange_iff s).mp h m

/-! ## The compositor and the transmitter (R53 to R57) -/

theorem HalvesInRange.grant (h : HalvesInRange s) : HalvesInRange s.grant := h.of_half s.grant_half

theorem HalvesInRange.startBand (h : HalvesInRange s) (b : Nat) : HalvesInRange (s.startBand b) :=
  h.setHalf b (Half.inRange_of_no_lines rfl) (s.startBand_half b)

theorem HalvesInRange.tryStartBand (h : HalvesInRange s) : HalvesInRange s.tryStartBand := by
  obtain ⟨-, e⟩ | ⟨-, -, -, e⟩ := s.tryStartBand_cases
  · rw [e]
    exact h
  · rw [e]
    exact h.startBand _

theorem HalvesInRange.dropWork (h : HalvesInRange s) : HalvesInRange s.dropWork := by
  rw [State.dropWork_eq]
  exact h

theorem HalvesInRange.sourceReadComplete (h : HalvesInRange s) : HalvesInRange s.sourceReadComplete := by
  have htake (r : SourceRead) : HalvesInRange (s.takeRead r) := by
    unfold State.takeRead
    split <;> exact h
  unfold State.sourceReadComplete
  split
  · rename_i r wanted _
    have hread : HalvesInRange (if wanted then s.takeRead r else s) := by
      split
      · exact htake r
      · exact h
    exact HalvesInRange.grant (s := { (if wanted then s.takeRead r else s) with dram.granted := none }) hread
  · exact h
  · exact h

/-- A completed band's samples come from the output stage (R50). -/
theorem HalvesInRange.bandCompletion (h : HalvesInRange s) (b : Nat) : HalvesInRange (s.bandCompletion b) := by
  unfold State.bandCompletion
  split
  · exact h
  · split
    · refine HalvesInRange.tryStartBand (h.setHalf b ?_ fun m => s.comp.half_setHalf m b _)
      split
      · exact bandLines_inRange _ _ _ _ _ _ _
      · exact (halvesInRange_iff s).mp h b
    · exact h

theorem HalvesInRange.fillBand (h : HalvesInRange s) (b : Nat) : HalvesInRange (s.fillBand b) :=
  HalvesInRange.grant (HalvesInRange.tryStartBand
    (h.setHalf b (Half.inRange_of_no_lines rfl) fun m => s.comp.half_setHalf m b ⟨.fill, b, []⟩))

theorem HalvesInRange.bandStart (h : HalvesInRange s) (b : Nat) : HalvesInRange (s.bandStart b) := by
  unfold State.bandStart
  dsimp only
  split
  · exact h.setHalf b (x := { s.comp.half b with st := .sending }) ((halvesInRange_iff s).mp h b)
      fun m => s.comp.half_setHalf m b _
  · obtain e | e := State.underrunBand_cases { s with tx.phase := .inBand b } b <;> rw [e]
    · exact HalvesInRange.fillBand (s := { s with tx.phase := .inBand b }) h b
    · exact (HalvesInRange.dropWork (s := { s with tx.phase := .inBand b }) h).fillBand b
  · exact h
  · exact h
  · exact h

theorem HalvesInRange.bandEnd (h : HalvesInRange s) (b : Nat) : HalvesInRange (s.bandEnd b) := by
  have hfreed : HalvesInRange (s.bandSent b) := h.setHalf b (Half.inRange_of_no_lines rfl) (s.bandSent_half b)
  unfold State.bandEnd
  dsimp only
  split
  · exact hfreed.tryStartBand
  · exact hfreed.tryStartBand
  · exact h
  · exact h
  · exact h

theorem HalvesInRange.frameStart (h : HalvesInRange s) : HalvesInRange s.frameStart :=
  HalvesInRange.startBand (HalvesInRange.dropWork (s := s.openFrame) h) 0

theorem HalvesInRange.resetCompositor (h : HalvesInRange s) : HalvesInRange s.resetCompositor := by
  obtain ⟨h0, h1⟩ := h
  exact HalvesInRange.tryStartBand ⟨Half.InRange.fullReset h0, Half.InRange.fullReset h1⟩

theorem halvesInRange_powerOn (s : State) : HalvesInRange s.powerOnAgain := by
  obtain ⟨mem, e, -⟩ := s.powerOnAgain_frame
  rw [e]
  exact halvesInRange_reset

end Sys2Proof.Machine
end

section
/-! SUPPORT. What a command leaves of the output (R147, R155): every command but frame start and power-on leaves the frame
number as it is, and the halves in range. -/

namespace Sys2Proof.Machine

variable {s t u : State}

/-- The output frame number stands, and the halves stay in range. -/
structure OutputKept (s t : State) : Prop where
  frameNo : t.tx.frameNo = s.tx.frameNo
  halves : HalvesInRange s → HalvesInRange t

theorem OutputKept.of_halves (hx : t.tx.frameNo = s.tx.frameNo) (hc : ∀ b, t.comp.half b = s.comp.half b) :
    OutputKept s t :=
  ⟨hx, fun h => h.of_half hc⟩

theorem OutputKept.of_same (hx : t.tx = s.tx) (hc : t.comp = s.comp) : OutputKept s t :=
  .of_halves (by rw [hx]) fun _ => by rw [hc]

theorem OutputKept.trans (h : OutputKept s t) (h' : OutputKept t u) : OutputKept s u :=
  ⟨h'.frameNo.trans h.frameNo, fun hs => h'.halves (h.halves hs)⟩

/-! ## The frame number under the transmitter's own commands -/

theorem State.tryStartBand_tx (s : State) : s.tryStartBand.tx = s.tx := by
  obtain ⟨g, lp, c, e⟩ := s.tryStartBand_band_frame
  rw [e]

theorem State.bandStart_frameNo (s : State) (b : Nat) : (s.bandStart b).tx.frameNo = s.tx.frameNo := by
  unfold State.bandStart
  dsimp only
  split
  · rfl
  · obtain ⟨g, lp, c, u, m, e⟩ := State.underrunBand_frame { s with tx.phase := .inBand b } b
    rw [e]
  · rfl
  · rfl
  · rfl

theorem State.bandEnd_frameNo (s : State) (b : Nat) : (s.bandEnd b).tx.frameNo = s.tx.frameNo := by
  unfold State.bandEnd
  dsimp only
  split
  · rw [State.tryStartBand_tx]
  · rw [State.tryStartBand_tx]
  · rfl
  · rfl
  · rfl

theorem State.frameStart_tx (s : State) :
    s.frameStart.tx = { s.tx with frameNo := s.tx.frameNo + 1, phase := .header, underrun := ⟨none, 0⟩ } := by
  obtain ⟨g, lp, rest, e, -⟩ := s.openFrame.dropWork.startBand_frame 0
  rw [State.frameStart, e, State.dropWork_eq]
  rfl

theorem State.settled_tx (s : State) : s.settled.tx = s.tx := by
  obtain ⟨modes, ovl, band, inUse, m, more, b, e, -⟩ := s.settled_frame
  obtain ⟨ports, chans, bal, st, res, fil, e'⟩ := s.balanced_frame
  rw [e, e']

/-! ## The taking of a request (R155, R159, R160) -/

theorem OutputKept.rebuildHeader (s : State) : OutputKept s s.rebuildHeader := by
  unfold State.rebuildHeader
  split
  · exact .of_halves rfl fun _ => rfl
  · exact .of_same rfl rfl

/-- The blocks that a FULL reset sets before the compositor's. -/
def State.resetBeforeCompositor (s : State) : State :=
  { s.resetPorts with
    layouts := LayoutStore.powerOn, bal := BalanceUnit.powerOn, ovl := OverlayEngine.powerOn
    modes := ModeController.powerOn, mgmt := Management.powerOn }

theorem State.fullResetBlocks_eq (s : State) : s.fullResetBlocks =
    s.resetBeforeCompositor.resetCompositor.resetVehicle.resetChannels.resetStore := rfl

/-! The blocks set behind the compositor's are not its, nor the transmitter's. -/

theorem State.behindCompositor_comp (s : State) : s.resetVehicle.resetChannels.resetStore.comp = s.comp := rfl

theorem State.behindCompositor_tx (s : State) : s.resetVehicle.resetChannels.resetStore.tx = s.tx := rfl

theorem State.fullResetBlocks_comp (s : State) :
    s.fullResetBlocks.comp = s.resetBeforeCompositor.resetCompositor.comp := by
  rw [State.fullResetBlocks_eq, State.behindCompositor_comp]

theorem State.fullResetBlocks_tx (s : State) : s.fullResetBlocks.tx = s.tx := by
  obtain ⟨g, lp, work, next, h0, h1, e, -⟩ := s.resetBeforeCompositor.resetCompositor_frame
  rw [State.fullResetBlocks_eq, State.behindCompositor_tx, e]
  rfl

/-- At a FULL reset the transmitter goes on (R155), and a half that does not go on is emptied (R57). -/
theorem OutputKept.fullReset (s : State) (k : Ticket) : OutputKept s (s.fullReset k) := by
  have hblocks : OutputKept s s.fullResetBlocks := by
    refine ⟨by rw [s.fullResetBlocks_tx], fun h => ?_⟩
    have hbefore : HalvesInRange s.resetBeforeCompositor := h.of_half fun _ => rfl
    exact hbefore.resetCompositor.of_half fun _ => by rw [s.fullResetBlocks_comp]
  unfold State.fullReset
  generalize s.fullResetBlocks = u at hblocks ⊢
  have hanswer : OutputKept u { u with mgmt.filled := [⟨k.tag, k.kind, .done, []⟩] } := .of_same rfl rfl
  exact (hblocks.trans hanswer).trans (.rebuildHeader _)

theorem OutputKept.serveReset (s : State) (k : Ticket) (w : Byte) : OutputKept s (s.serveReset k w) := by
  unfold State.serveReset
  split
  · exact .fullReset s k
  · split
    · obtain ⟨bal, modes, mgmt, e⟩ := s.viewReset_frame k
      rw [e]
      exact .of_halves rfl fun _ => rfl
    · exact .of_same rfl rfl

theorem OutputKept.serveReq (s : State) (k : Ticket) (q : Req) : OutputKept s (s.serveReq k q) := by
  by_cases hr : ∃ w, q = .reset w
  · obtain ⟨w, rfl⟩ := hr
    exact .serveReset s k w
  · obtain ⟨layouts, modes, ovl, chans, veh, mgmt, store, e, -⟩ := s.serveReq_frame k q fun w hw => hr ⟨w, hw⟩
    rw [e]
    exact .of_same rfl rfl

theorem OutputKept.serve (s : State) (r : Request) : OutputKept s (s.serve r) := by
  unfold State.serve
  split
  · exact .of_same rfl rfl
  · exact .of_same rfl rfl
  · exact .serveReq s _ _

theorem OutputKept.serveNext (h : OutputKept s t) (r : Request) (rest : List Request) :
    OutputKept s ((t.popRequest rest).serve r) := by
  have hpop : OutputKept t (t.popRequest rest) := .of_same rfl rfl
  exact (h.trans hpop).trans (.serve _ r)

theorem OutputKept.takeUp (s : State) : OutputKept s s.takeUp :=
  s.takeUp_induction (P := OutputKept s) (.of_same rfl rfl) fun _ r rest h _ _ => h.serveNext r rest

theorem OutputKept.submit (s : State) (r : Request) : OutputKept s (s.submit r) :=
  s.submit_induction (P := OutputKept s) r (.of_same rfl rfl) (fun _ => .of_same rfl rfl)
    (fun _ _ _ => .of_same rfl rfl) fun _ r rest h _ _ => h.serveNext r rest

theorem OutputKept.receiveRecord (s : State) (bs : List Byte) : OutputKept s (s.receiveRecord bs) := by
  unfold State.receiveRecord
  split
  · obtain ⟨m, v, e⟩ := s.vehicleRecord_frame bs
    rw [e]
    exact .of_same rfl rfl
  · split
    · exact .submit s _
    · exact .of_same rfl rfl

/-! ## The turnover -/

theorem OutputKept.turnoverWork (s : State) : OutputKept s s.turnoverWork := by
  have hx := s.settled_tx
  have hc := s.settled_comp
  rw [State.turnoverWork_eq]
  generalize s.settled = u at hx hc ⊢
  exact (OutputKept.of_same hx hc).trans (.of_halves rfl fun _ => rfl)

/-! ## Every command but frame start and power-on -/

theorem exec_outputKept (c : Instr) (s t : State) (hp : c ≠ .powerOn) (hf : c ≠ .frameStart)
    (e : exec c s = .next t) : OutputKept s t := by
  cases c with
  | powerOn => exact absurd rfl hp
  | frameStart => exact absurd rfl hf
  | lockGained p =>
    cases e
    obtain ⟨ports, m, h⟩ := s.putPort_frame p (s.port p).lockGained
    rw [State.lockGained, h]
    exact .of_same rfl rfl
  | lockLost p =>
    cases e
    obtain ⟨ports, ch, m, h⟩ := s.lockLost_frame p
    exact .of_same (by rw [h]) (by rw [h])
  | frameStartMark p =>
    cases e
    obtain ⟨ports, h⟩ := s.frameStartMark_frame p
    exact .of_same (by rw [h]) (by rw [h])
  | lineReceived p pixels =>
    cases e
    obtain ⟨ports, d, work, h⟩ := s.lineReceived_frame p pixels
    rw [h]
    exact .of_halves rfl fun _ => rfl
  | frameEndMark p n attention =>
    cases e
    obtain ⟨ports, ch, m, h⟩ := s.frameEndMark_frame p n attention
    exact .of_same (by rw [h]) (by rw [h])
  | stalenessTimerExpiry p =>
    cases e
    obtain ⟨ports, m, h⟩ := s.stalenessExpiry_frame p
    exact .of_same (by rw [h]) (by rw [h])
  | dramWriteComplete =>
    cases e
    obtain ⟨ports, d, work, h⟩ := s.dramWriteComplete_frame
    rw [h]
    exact .of_halves rfl fun _ => rfl
  | sourceReadComplete =>
    cases e
    obtain ⟨g, lp, comp, h⟩ := s.sourceReadComplete_frame
    exact ⟨by rw [h], HalvesInRange.sourceReadComplete⟩
  | bandCompletion b =>
    cases e
    obtain ⟨g, lp, comp, h⟩ := s.bandCompletion_frame b
    exact ⟨by rw [h], fun hs => hs.bandCompletion b⟩
  | bandStart b =>
    cases e
    exact ⟨s.bandStart_frameNo b, fun hs => hs.bandStart b⟩
  | bandEnd b =>
    cases e
    exact ⟨s.bandEnd_frameNo b, fun hs => hs.bandEnd b⟩
  | turnover =>
    cases e
    exact (OutputKept.turnoverWork s).trans (.takeUp _)
  | staleExpiry =>
    cases e
    obtain ⟨m, v, h⟩ := s.staleExpiry_frame
    exact .of_same (by rw [h]) (by rw [h])
  | lostExpiry =>
    cases e
    obtain ⟨m, v, h⟩ := s.lostExpiry_frame
    exact .of_same (by rw [h]) (by rw [h])
  | rawChange l level =>
    cases e
    obtain ⟨m, v, h⟩ := s.rawChange_frame l level
    exact .of_same (by rw [h]) (by rw [h])
  | debounceTimerExpiry l =>
    cases e
    obtain ⟨m, v, h⟩ := s.debounceExpiry_frame l
    exact .of_same (by rw [h]) (by rw [h])
  | loadTimerExpiry =>
    cases e
    obtain ⟨m, h⟩ := s.loadTimerExpiry_frame
    exact .of_same (by rw [h]) (by rw [h])
  | cameraAnswer p accept =>
    cases e
    obtain ⟨ch, m, h⟩ := s.cameraAnswer_frame p accept
    exact .of_same (by rw [h]) (by rw [h])
  | readByte p b =>
    cases e
    obtain ⟨ch, m, h⟩ := s.readByte_frame p b
    exact .of_same (by rw [h]) (by rw [h])
  | stepTimerExpiry p =>
    cases e
    obtain ⟨ch, m, h⟩ := s.stepTimerExpiry_frame p
    exact .of_same (by rw [h]) (by rw [h])
  | stopMarkSent p =>
    cases e
    obtain ⟨ch, m, h⟩ := s.stopMarkSent_frame p
    exact .of_same (by rw [h]) (by rw [h])
  | pageWriteComplete =>
    cases e
    obtain ⟨m, x, n, h⟩ := s.pageWriteComplete_frame
    exact .of_same (by rw [h]) (by rw [h])
  | writeTimerExpiry =>
    cases e
    obtain ⟨m, x, h⟩ := s.writeTimerExpiry_frame
    exact .of_same (by rw [h]) (by rw [h])
  | storeReadComplete answered =>
    cases e
    obtain ⟨m, x, n, h⟩ := s.storeReadComplete_frame answered
    exact .of_same (by rw [h]) (by rw [h])
  | bootWaitExpiry =>
    cases e
    obtain ⟨x, h⟩ := s.bootWaitExpiry_frame
    exact .of_same (by rw [h]) (by rw [h])
  | bootHeaderRead answered =>
    cases e
    obtain ⟨x, n, h⟩ := s.bootHeaderRead_frame answered
    exact .of_same (by rw [h]) (by rw [h])
  | bootEntryRead answered =>
    cases e
    obtain ⟨l, m, x, n, h⟩ := s.bootEntryRead_frame answered
    exact .of_same (by rw [h]) (by rw [h])
  | requestRecord bs | vehicleDataRecord bs =>
    cases e
    exact .receiveRecord s bs
  | resetFull | resetView | unknownKind | loadBegin | loadData | loadEnd | loadAbort | tableRead | bindMode | setView
  | releaseView | elementWrite | elementClear | camXfer | lineConfig | linesSet | linesClear | eventEnable | eventAck
  | storeWrite | storeRead =>
    cases e
    exact .submit s _

end Sys2Proof.Machine
end

section
/-! PROOF. Frame start and the output frame number (O52; R53, R55, R87, R111, R147, R155, R156). -/

namespace Sys2Proof.Machine

/-- A plan that goes through no layout slot needs no source data (R56). -/
theorem bandReads_of_no_slot {plan : Plan} (h : plan.slot = none) (slots : Quad LayoutSlot) (b : Nat) :
    bandReads plan slots b = [] := by
  simp [bandReads, planLayout, h]

/-- Frame start, written out: the compositor's work before it is given up, and band 0 has half 0. -/
theorem State.frameStart_opens (s : State) : ∃ g lp rest,
    s.frameStart = { s.openFrame with
      dram := { s.openFrame.dropWork.dram with granted := g, lastPort := lp }
      comp := { s.comp with
        half0 := ⟨.writing, 0, []⟩
        work := some ⟨0, rest, Quad.fill [], (bandReads s.comp.plan s.layouts.slots 0).isEmpty⟩
        next := 1 } } ∧
    (bandReads s.comp.plan s.layouts.slots 0 = [] → rest = []) := by
  obtain ⟨g, lp, rest, e, hrest⟩ := s.openFrame.dropWork.startBand_frame 0
  have hplan : s.openFrame.dropWork.comp.plan = s.comp.plan := State.dropWork_plan _
  have hslots : s.openFrame.dropWork.layouts = s.layouts := by
    rw [State.dropWork_eq]
    rfl
  rw [hplan, hslots] at e hrest
  refine ⟨g, lp, rest, ?_, hrest⟩
  rw [State.frameStart, e, State.dropWork_eq]
  rfl

theorem State.dropWork_dram_mem (s : State) : s.dropWork.dram.mem = s.dram.mem := by
  obtain ⟨g, c, e⟩ := s.dropWork_frame
  rw [e]

/-- Settles O52: frame start written out (`State.frameStart_opens`), and every other command but power-on keeps the
frame number (`exec_outputKept`). -/
theorem frameStartOpensAndNumbersTheFrame : Obligations.FrameStartOpensAndNumbersTheFrame := by
  refine ⟨fun s => ⟨s.frameStart, rfl, s.frameStart_tx, ?_⟩, fun c s t e => ⟨?_, ?_, fun hp hf => ?_⟩⟩
  · obtain ⟨g, lp, rest, e, hrest⟩ := s.frameStart_opens
    rw [e]
    refine ⟨rfl, rfl, rfl, rfl, ⟨_, rfl, rfl, fun hslot => ?_⟩, rfl, rfl, rfl, s.openFrame.dropWork_dram_mem,
      rfl, rfl, rfl, rfl, rfl, rfl, rfl, rfl⟩
    have hreads := bandReads_of_no_slot hslot s.layouts.slots 0
    exact ⟨hrest hreads, by rw [hreads]; rfl⟩
  · rintro rfl
    cases e
    obtain ⟨mem, h, -⟩ := s.powerOnAgain_frame
    rw [h]
    rfl
  · rintro rfl
    cases e
    rw [State.frameStart_tx]
  · exact (exec_outputKept c s t hp hf e).frameNo

end Sys2Proof.Machine
end

section
/-! PROOF. What the transmitter sends, sample by sample (O13; R50, R147, R148). -/

namespace Sys2Proof.Machine

variable {s t : State}

/-! ## In range at every step -/

theorem HalvesInRange.exec (h : HalvesInRange s) {c : Instr} (e : exec c s = .next t) : HalvesInRange t := by
  by_cases hp : c = .powerOn
  · subst hp
    cases e
    exact halvesInRange_powerOn s
  by_cases hf : c = .frameStart
  · subst hf
    cases e
    exact h.frameStart
  exact (exec_outputKept c s t hp hf e).halves h

theorem HalvesInRange.step (h : HalvesInRange s) (e : step s = .next t) : HalvesInRange t := by
  unfold Machine.step at e
  split at e
  · cases e
    exact h
  · rename_i c rest _
    exact HalvesInRange.exec (s := { s with pending := rest }) h e

/-! ## The active lines (R148) -/

theorem State.activeSample_black {b : Nat} (h : (s.comp.half b).st ≠ .sending) (r x : Nat) :
    s.activeSample b r x = ⟨16, 128⟩ := if_neg fun ⟨hs, _⟩ => h hs

theorem State.activeSample_sending {b r x : Nat} (hs : (s.comp.half b).st = .sending) (hb : (s.comp.half b).band = b)
    {l : List Sample} (hl : (s.comp.half b).lines[r]? = some l) {v : Sample} (hv : l[x]? = some v) :
    s.activeSample b r x = v := by
  simp [State.activeSample, hs, hb, List.getD_eq_getElem?_getD, hl, hv]

/-- A sample past the end of what a half holds is black. -/
theorem State.activeSample_cases (s : State) (b r x : Nat) : s.activeSample b r x = ⟨16, 128⟩ ∨
    ∃ l ∈ (s.comp.half b).lines, s.activeSample b r x ∈ l := by
  unfold State.activeSample
  split
  · by_cases hr : r < (s.comp.half b).lines.length
    · rw [List.getD_eq_getElem _ _ hr]
      by_cases hx : x < ((s.comp.half b).lines[r]).length
      · rw [List.getD_eq_getElem _ _ hx]
        exact Or.inr ⟨_, List.getElem_mem hr, List.getElem_mem hx⟩
      · exact Or.inl (List.getD_eq_default _ _ (Nat.le_of_not_lt hx))
    · rw [List.getD_eq_default _ _ (Nat.le_of_not_lt hr)]
      exact Or.inl rfl
  · exact Or.inl rfl

theorem HalvesInRange.activeSample (h : HalvesInRange s) (b r x : Nat) : Sample.inRange (s.activeSample b r x) := by
  obtain e | ⟨l, hl, hv⟩ := s.activeSample_cases b r x
  · rw [e]
    exact black_inRange
  · exact (halvesInRange_iff s).mp h b l hl _ hv

/-! ## The lines of the frame (R147) -/

theorem State.lineSample_header {line : Nat} (h : line < 4) (x : Nat) : s.lineSample line x = s.headerSample line x :=
  if_pos h

/-- Line 4 + 32b + r is row r of band b. -/
theorem State.lineSample_active {b r : Nat} (hb : b < 18) (hr : r < 32) (x : Nat) :
    s.lineSample (4 + 32 * b + r) x = s.activeSample b r x := by
  have hband : (4 + 32 * b + r - 4) / 32 = b := by omega
  have hrow : (4 + 32 * b + r - 4) % 32 = r := by omega
  rw [State.lineSample, if_neg (by omega), if_pos (by omega), hband, hrow]

theorem State.lineSample_blanking {line : Nat} (h : 580 ≤ line) (x : Nat) : s.lineSample line x = ⟨16, 128⟩ := by
  rw [State.lineSample, if_neg (by omega), if_neg (by omega)]

/-- Settles O13: the halves stay in range at every step, what is sent is theirs or black, and each line has its
source. -/
theorem everyActiveSampleIsInRange : Obligations.EveryActiveSampleIsInRange := by
  refine ⟨fun s t h e => h.step e, fun s b r x h => h.activeSample b r x, fun s line x =>
    ⟨fun hline => State.lineSample_header hline x, ?_, fun hline _ => State.lineSample_blanking hline x⟩⟩
  rintro b r hb hr rfl
  rw [State.lineSample_active hb hr]
  refine ⟨rfl, fun hfill => State.activeSample_black (by simp [hfill]) r x, fun hs hband hrows hcols hx => ?_⟩
  have hline := List.getElem?_eq_getElem (l := (s.comp.half b).lines) (i := r) (by omega)
  have hcol := List.getElem?_eq_getElem (l := (s.comp.half b).lines[r]) (i := x)
    (by rw [hcols _ (List.getElem_mem _)]; exact hx)
  exact ⟨_, hline, by rw [State.activeSample_sending hs hband hline hcol, hcol]⟩

end Sys2Proof.Machine
end

section
/-! SUPPORT. What the header takes from the owners at a turnover and no owner's work moves (R147, R149 to R151): the
drop counts, the attention values, and the responses already filled, which more can only follow. -/

namespace Sys2Proof.Machine

variable {s t u : State}

/-- The filled responses `b` are those of `a`, and others behind them. -/
def AnswersFollow (a b : List Response) : Prop := ∃ new, b = a ++ new

theorem AnswersFollow.refl (a : List Response) : AnswersFollow a a := ⟨[], (List.append_nil a).symm⟩

theorem AnswersFollow.trans {a b c : List Response} (h : AnswersFollow a b) (h' : AnswersFollow b c) :
    AnswersFollow a c := by
  obtain ⟨new, rfl⟩ := h
  obtain ⟨newer, rfl⟩ := h'
  exact ⟨new ++ newer, List.append_assoc a new newer⟩

/-- The drop counts and the attention values stand, and the responses filled before stay in front. -/
structure HeaderSourcesKept (s t : State) : Prop where
  drops : ∀ c, (t.port c).drops = (s.port c).drops
  attnValue : ∀ c, (t.chan c).attnValue = (s.chan c).attnValue
  filled : AnswersFollow s.mgmt.filled t.mgmt.filled

theorem HeaderSourcesKept.trans (h : HeaderSourcesKept s t) (h' : HeaderSourcesKept t u) : HeaderSourcesKept s u :=
  ⟨fun c => (h'.drops c).trans (h.drops c), fun c => (h'.attnValue c).trans (h.attnValue c), h.filled.trans h'.filled⟩

theorem HeaderSourcesKept.of_same (hp : t.ports = s.ports) (hc : t.chans = s.chans)
    (hf : AnswersFollow s.mgmt.filled t.mgmt.filled) : HeaderSourcesKept s t :=
  ⟨fun _ => by rw [State.port, hp, State.port], fun _ => by rw [State.chan, hc, State.chan], hf⟩

theorem HeaderSourcesKept.refl (s : State) : HeaderSourcesKept s s := .of_same rfl rfl (AnswersFollow.refl _)

theorem HeaderSourcesKept.setPort (s : State) (p : Cam) {q : Port} (h : q.drops = (s.port p).drops) :
    HeaderSourcesKept s (s.setPort p q) := by
  refine ⟨fun c => ?_, fun _ => rfl, AnswersFollow.refl _⟩
  by_cases hc : c = p
  · rw [hc, State.port_setPort_self, h]
  · rw [State.port_setPort_ne _ _ _ _ hc]

theorem HeaderSourcesKept.setChan (s : State) (p : Cam) {x : Channel} (h : x.attnValue = (s.chan p).attnValue) :
    HeaderSourcesKept s (s.setChan p x) := by
  refine ⟨fun _ => rfl, fun c => ?_, AnswersFollow.refl _⟩
  by_cases hc : c = p
  · rw [hc, State.chan_setChan_self, h]
  · rw [State.chan_setChan_ne _ _ _ _ hc]

/-! ## The channels (R143) -/

@[simp] theorem Channel.take_attnValue (c : Channel) (ch : Choice) : (c.take ch).attnValue = c.attnValue := by
  cases ch <;> rfl

/-- No choice of the arbiter is an attention value; on an unlocked link the pass-throughs are answered. -/
theorem HeaderSourcesKept.arbitrate (s : State) (p : Cam) : HeaderSourcesKept s (s.arbitrate p) := by
  cases ha : (s.chan p).active with
  | true =>
    rw [s.arbitrate_active p ha]
    exact .refl s
  | false =>
    cases hl : (s.port p).lock with
    | false =>
      rw [s.arbitrate_unlocked p ha hl]
      exact (HeaderSourcesKept.setChan s p (x := (s.chan p).drained) rfl).trans
        (.of_same rfl rfl ⟨_, rfl⟩)
    | true =>
      cases hc : (s.chan p).choose with
      | none =>
        rw [s.arbitrate_nothing p ((Channel.choose_eq_none _).mp hc)]
        exact .refl s
      | some ch =>
        rw [s.arbitrate_starts p ch ha hc hl]
        exact .setChan s p (Channel.take_attnValue _ ch)

theorem HeaderSourcesKept.askAttention (s : State) (p : Cam) : HeaderSourcesKept s (s.askAttention p) :=
  (HeaderSourcesKept.setChan s p (x := { s.chan p with attnWaiting := true }) rfl).trans (.arbitrate _ p)

theorem HeaderSourcesKept.handExposure (s : State) (p : Cam) (v : Nat) : HeaderSourcesKept s (s.handExposure p v) :=
  (HeaderSourcesKept.setChan s p (x := { s.chan p with exposure := some v }) rfl).trans (.arbitrate _ p)

/-! ## The tables of cameras (R6, R8) -/

theorem Port.dropFlight_drops (p : Port) (granted : Bool) : (p.dropFlight granted).drops = p.drops := by
  unfold Port.dropFlight
  split <;> rfl

theorem Port.applyProfile_drops (p : Port) (granted : Bool) (profile : List Byte) :
    (p.applyProfile granted profile).drops = p.drops := by
  obtain ⟨-, e⟩ | ⟨-, -, -, e⟩ | ⟨-, -, -, e⟩ | ⟨-, -, e⟩ := p.applyProfile_cases granted profile <;> rw [e]
  · rfl
  · exact p.dropFlight_drops granted

theorem HeaderSourcesKept.profiled (s : State) (p : Cam) (profile : List Byte) :
    HeaderSourcesKept s (s.profiled p profile) := by
  have hport := HeaderSourcesKept.setPort s p (q := (s.port p).applyProfile (s.writingFor p) profile)
    (Port.applyProfile_drops _ _ _)
  have hchan := HeaderSourcesKept.setChan (s.setPort p ((s.port p).applyProfile (s.writingFor p) profile)) p
    (x := (s.chan p).applyProfile profile) rfl
  exact (hport.trans hchan).trans (.of_same rfl rfl (AnswersFollow.refl _))

theorem HeaderSourcesKept.applyCamTable (s : State) (d : TableLoad) : HeaderSourcesKept s (s.applyCamTable d) := by
  unfold State.applyCamTable
  split
  · rw [State.applyProfile_eq]
    split
    · exact (HeaderSourcesKept.profiled s d.cam d.content).trans (.askAttention _ d.cam)
    · exact .profiled s d.cam d.content
  · exact .setPort s d.cam rfl
  · exact .refl s

theorem HeaderSourcesKept.applyCamTables (ds : List TableLoad) (s : State) :
    HeaderSourcesKept s (ds.foldl State.applyCamTable s) := by
  induction ds generalizing s with
  | nil => exact .refl s
  | cons d ds ih => exact (HeaderSourcesKept.applyCamTable s d).trans (ih (s.applyCamTable d))

theorem HeaderSourcesKept.turnRings (s : State) : HeaderSourcesKept s s.turnRings :=
  ⟨fun c => by rw [State.turnRings_port], fun _ => rfl, AnswersFollow.refl _⟩

/-! ## The balance unit (R63 to R70) -/

theorem HeaderSourcesKept.setBal (s : State) (c : Cam) (b : Balance) : HeaderSourcesKept s (s.setBal c b) :=
  .of_same rfl rfl (AnswersFollow.refl _)

theorem HeaderSourcesKept.nudgeTest (s : State) (c : Cam) : HeaderSourcesKept s (s.nudgeTest c) := by
  unfold State.nudgeTest
  split
  · split
    · exact .refl s
    · split
      · exact .refl s
      · exact (HeaderSourcesKept.setBal s c _).trans (.handExposure _ c _)
  · exact .refl s

theorem HeaderSourcesKept.settleAndNudge (s : State) (c : Cam) : HeaderSourcesKept s (s.settleAndNudge c) := by
  unfold State.settleAndNudge
  dsimp only
  split
  · exact (HeaderSourcesKept.setBal s c _).trans (.nudgeTest _ c)
  · exact .setBal s c _

theorem HeaderSourcesKept.balanceTurnover (s : State) : HeaderSourcesKept s s.balanceTurnover := by
  have hgain : HeaderSourcesKept s s.gainTurnover := .of_same rfl rfl (AnswersFollow.refl _)
  exact forCams_induction (P := HeaderSourcesKept s) State.settleAndNudge
    (fun c u h => h.trans (.settleAndNudge u c)) s.gainTurnover hgain

theorem HeaderSourcesKept.turnBalance (s : State) (table : Option (List Byte)) :
    HeaderSourcesKept s (s.turnBalance table) := by
  have h := HeaderSourcesKept.balanceTurnover s
  unfold State.turnBalance
  generalize s.balanceTurnover = u at h ⊢
  cases table with
  | none => exact h
  | some bs => exact h.trans (.of_same rfl rfl (AnswersFollow.refl _))

theorem HeaderSourcesKept.balanced (s : State) : HeaderSourcesKept s s.balanced :=
  ((HeaderSourcesKept.turnRings s).trans (.applyCamTables s.dueTables _)).trans (.turnBalance _ _)

/-! ## The tables behind it, the answers and boot (R96, R164, R174) -/

theorem State.otherTables_filled (s : State) (rules bands palette glyphs overlay : Option (List Byte)) :
    AnswersFollow s.mgmt.filled
      (((((s.applyRules rules).applyBands bands).applyPalette palette).applyGlyphs glyphs).applyEdits
        overlay).mgmt.filled := by
  have hbefore : ((((s.applyRules rules).applyBands bands).applyPalette palette).applyGlyphs glyphs).mgmt = s.mgmt := by
    cases rules <;> cases bands <;> cases palette <;> cases glyphs <;> rfl
  rw [State.applyEdits_eq, hbefore]
  exact ⟨_, rfl⟩

theorem State.finishLoad_filled (s : State) : AnswersFollow s.mgmt.filled s.finishLoad.mgmt.filled := by
  unfold State.finishLoad
  split
  · exact ⟨_, rfl⟩
  · exact AnswersFollow.refl _

theorem HeaderSourcesKept.settled (s : State) : HeaderSourcesKept s s.settled := by
  have hports := s.settled_ports.trans s.balanced_ports.symm
  have hchans : s.settled.chans = s.balanced.chans := by
    obtain ⟨modes, ovl, band, inUse, m, more, b, e, -⟩ := s.settled_frame
    rw [e]
  have htables : AnswersFollow s.balanced.mgmt.filled (s.turnRings.applyTables s.dueTables).mgmt.filled :=
    s.balanced.otherTables_filled _ _ _ _ _
  obtain ⟨more, b, e, -⟩ := (s.turnRings.applyTables s.dueTables).finishLoad.finishBootTable_frame
  obtain ⟨m, use, st, e'⟩ := s.beforeModes.modeTurnover_frame
  have hrest : s.settled.mgmt.filled = (s.turnRings.applyTables s.dueTables).finishLoad.mgmt.filled := by
    rw [State.settled_eq_modeTurnover, e', State.beforeModes, e]
  refine (HeaderSourcesKept.balanced s).trans (.of_same hports hchans ?_)
  rw [hrest]
  exact htables.trans (State.finishLoad_filled _)

end Sys2Proof.Machine
end

section
/-! PROOF. The header record of the coming frame (O53; R149 to R151, R153). -/

namespace Sys2Proof.Machine

variable {s : State}

/-- The in-use slot is the one bound to the mode set (R31, R111). -/
theorem State.settled_inUse (s : State) : s.settled.layouts.inUse = s.settled.modes.bind.of s.settled.modes.mode := by
  rw [State.settled_eq_modeTurnover, State.modeTurnover_layouts, State.modeTurnover_bind]

/-- The vehicle interface's state and sequence number stand, whatever band a Band Table chooses (R93, R129). -/
theorem State.settled_veh (s : State) : s.settled.veh = { s.veh with band := s.settled.veh.band } := by
  obtain ⟨modes, ovl, band, inUse, m, more, b, e, -⟩ := s.settled_frame
  obtain ⟨ports, chans, bal, st, res, fil, e'⟩ := s.balanced_frame
  rw [e, e']

theorem State.settled_kept (s : State) : s.settled.dram = s.dram ∧ s.settled.mgmt.hold = s.mgmt.hold ∧
    s.settled.mgmt.lost = s.mgmt.lost ∧ s.settled.store.writing = s.store.writing := by
  obtain ⟨modes, ovl, band, inUse, m, more, b, e, -⟩ := s.settled_frame
  obtain ⟨ports, chans, bal, st, res, fil, e'⟩ := s.balanced_frame
  rw [e, e']
  exact ⟨rfl, rfl, rfl, rfl⟩

theorem State.settled_enable (s : State) : s.settled.mgmt.enable = s.mgmt.enable := by
  obtain ⟨ports, chans, bal, st, res, fil, e1⟩ := s.balanced_frame
  obtain ⟨r, ovl, band, res', fil', e2⟩ := s.balanced.otherTables_frame (dueContent s.dueTables .modeRules)
    (dueContent s.dueTables .bands) (dueContent s.dueTables .palette) (dueContent s.dueTables .glyphs)
    (dueContent s.dueTables .overlay)
  change s.turnRings.applyTables s.dueTables = _ at e2
  obtain ⟨l, res'', fil'', e3⟩ := (s.turnRings.applyTables s.dueTables).finishLoad_frame
  obtain ⟨more, b, e4, -⟩ := (s.turnRings.applyTables s.dueTables).finishLoad.finishBootTable_frame
  obtain ⟨m, use, st', e5⟩ := s.beforeModes.modeTurnover_frame
  rw [State.settled_eq_modeTurnover, e5, State.beforeModes, e4, e3, e2, e1]

/-- The responses handed over are the first eight of those filled, or all where there are fewer (R151). -/
theorem length_take_eq_min_take_drop {α : Type} (n : Nat) (l : List α) :
    (l.take n).length = min n ((l.take n).length + (l.drop n).length) := by
  rw [← List.length_append, List.take_append_drop, List.length_take]

/-- Settles O53: the header is built from the settled state (`State.settled`), in which the records named stand as
before the turnover. -/
theorem turnoverBuildsTheHeader : Obligations.TurnoverBuildsTheHeader := by
  intro s hq
  obtain ⟨u, hu, ht⟩ := State.turnover_of_queue hq
  have hkept : HeaderSourcesKept s u := hu ▸ .settled s
  obtain ⟨new, hnew⟩ := hkept.filled
  obtain ⟨hdram, hhold, hlost, hwriting⟩ : u.dram = s.dram ∧ u.mgmt.hold = s.mgmt.hold ∧ u.mgmt.lost = s.mgmt.lost ∧
      u.store.writing = s.store.writing := hu ▸ s.settled_kept
  have hinUse : u.layouts.inUse = u.modes.bind.of u.modes.mode := hu ▸ s.settled_inUse
  have hveh : u.veh = { s.veh with band := u.veh.band } := hu ▸ s.settled_veh
  have henable : u.mgmt.enable = s.mgmt.enable := hu ▸ s.settled_enable
  have htx : u.tx = s.tx := hu ▸ s.settled_tx
  clear hu
  have hframeNo : u.tx.frameNo = s.tx.frameNo := by rw [htx]
  have hunderrun : u.tx.underrun = s.tx.underrun := by rw [htx]
  have hcoming : u.tx.frameNo + 1 = s.tx.frameNo + 1 := by rw [htx]
  have hstate : u.veh.state = s.veh.state := by rw [hveh]
  have hseq : (if u.veh.state = .none then 0 else u.veh.seq) = if s.veh.state = .none then 0 else s.veh.seq := by
    rw [hveh]
  have hflag : u.attentionFlag = decide (u.mgmt.status &&& s.mgmt.enable ≠ 0) := by rw [State.attentionFlag, henable]
  have hresponses : u.mgmt.filled.take 8 ++ u.mgmt.filled.drop 8 = s.mgmt.filled ++ new := by
    rw [List.take_append_drop, hnew]
  refine ⟨s.turnover, rfl, ?_⟩
  rw [ht]
  exact ⟨hframeNo, rfl, hunderrun, hcoming, hunderrun, rfl, rfl, hinUse, fun c => Quad.get_build _ c,
    fun c => ⟨hkept.drops c, hkept.attnValue c⟩, hstate, hseq, rfl, hhold, hlost, rfl, rfl,
    congrArg Option.isSome hwriting, rfl, henable, hflag, ⟨new, hresponses⟩,
    length_take_eq_min_take_drop 8 u.mgmt.filled, hdram, hveh⟩

end Sys2Proof.Machine
end

section
/-! SUPPORT. The books of the response queue (R158, R159): what is reserved against what is owed, and how an answer, a
channel and its arbiter keep them. -/

namespace Sys2Proof.Machine

variable {s t : State} {k : Nat}

/-! ## The books -/

/-- The books of the two queues are in order with `k` places reserved for requests that no owner holds: those being
answered (R158, R159). -/
structure Accounted (k : Nat) (s : State) : Prop where
  places : s.mgmt.reserved = s.owed + k
  taken : s.mgmt.reserved + s.mgmt.filled.length ≤ 32
  waiting : s.mgmt.queue.length ≤ 16
  lost : s.mgmt.lost ≤ 255

theorem responsesAccounted_iff (s : State) : ResponsesAccounted s ↔ Accounted 0 s :=
  ⟨fun ⟨hp, ht, hq, hl⟩ => ⟨hp, ht, hq, hl⟩, fun ⟨hp, ht, hq, hl⟩ => ⟨hp, ht, hq, hl⟩⟩

/-- Nothing that the books count has changed. -/
structure SameBooks (s t : State) : Prop where
  reserved : t.mgmt.reserved = s.mgmt.reserved
  filled : t.mgmt.filled = s.mgmt.filled
  queue : t.mgmt.queue = s.mgmt.queue
  lost : t.mgmt.lost = s.mgmt.lost
  owed : t.owed = s.owed

theorem SameBooks.refl (s : State) : SameBooks s s := ⟨rfl, rfl, rfl, rfl, rfl⟩

theorem SameBooks.trans {u : State} (h : SameBooks s t) (h' : SameBooks t u) : SameBooks s u :=
  ⟨h'.reserved.trans h.reserved, h'.filled.trans h.filled, h'.queue.trans h.queue, h'.lost.trans h.lost,
    h'.owed.trans h.owed⟩

theorem Accounted.of_same (h : Accounted k s) (e : SameBooks s t) : Accounted k t :=
  ⟨by rw [e.reserved, e.owed, h.places], by rw [e.reserved, e.filled]; exact h.taken, by rw [e.queue]; exact h.waiting,
    by rw [e.lost]; exact h.lost⟩

/-- A request that joins an owner is no longer one being answered. -/
theorem Accounted.of_owed (h : Accounted (k + 1) s) (hm : t.mgmt.reserved = s.mgmt.reserved)
    (hf : t.mgmt.filled = s.mgmt.filled) (hq : t.mgmt.queue = s.mgmt.queue) (hl : t.mgmt.lost = s.mgmt.lost)
    (ho : t.owed = s.owed + 1) : Accounted k t :=
  ⟨by rw [hm, ho, h.places]; omega, by rw [hm, hf]; exact h.taken, by rw [hq]; exact h.waiting, by rw [hl]; exact h.lost⟩

/-- A request that leaves its owner is one being answered. -/
theorem Accounted.left (h : Accounted k s) (hm : t.mgmt.reserved = s.mgmt.reserved)
    (hf : t.mgmt.filled = s.mgmt.filled) (hq : t.mgmt.queue = s.mgmt.queue) (hl : t.mgmt.lost = s.mgmt.lost) {n : Nat}
    (ho : s.owed = t.owed + n) : Accounted (k + n) t :=
  ⟨by rw [hm, h.places, ho]; omega, by rw [hm, hf]; exact h.taken, by rw [hq]; exact h.waiting, by rw [hl]; exact h.lost⟩

/-- An answer uses the place of the request answered (R159). -/
theorem Accounted.answerWith (h : Accounted (k + 1) s) (t : Ticket) (r : Result) (data : List Byte) :
    Accounted k (s.answerWith t r data) := by
  obtain ⟨hp, ht, hq, hl⟩ := h
  refine ⟨?_, ?_, hq, hl⟩
  · show s.mgmt.reserved - 1 = s.owed + k
    omega
  · simp only [State.answerWith_mgmt_reserved, State.answerWith_mgmt_filled, List.length_append, List.length_singleton]
    omega

/-! ## What is owed, block by block -/

/-- What is owed at the configuration memory. -/
def Store.owed (x : Store) : Nat := x.writing.toList.length + (x.access.filter Access.isRead).length

/-- What is owed in the management unit itself. -/
def Management.owed (m : Management) : Nat := if m.load.st = .applying then 1 else 0

/-- What is owed at the channels. -/
def owedAt (chans : Quad Channel) : Nat :=
  (chans.get 0).owed + (chans.get 1).owed + (chans.get 2).owed + (chans.get 3).owed

theorem State.owed_eq (s : State) :
    s.owed = owedAt s.chans + s.ovl.edits.length + s.mgmt.owed + s.store.owed := by
  have hw : (if s.store.writing.isSome then 1 else 0) = s.store.writing.toList.length := by
    cases s.store.writing <;> rfl
  simp only [State.owed, hw, owedAt, Management.owed, Store.owed, State.chan]
  omega

/-- An update of the status word and of what the books do not look at. -/
theorem SameBooks.of_status {st : BitVec 24} (hm : t.mgmt = { s.mgmt with status := st }) (hc : t.chans = s.chans)
    (he : t.ovl.edits = s.ovl.edits) (hs : t.store = s.store) : SameBooks s t :=
  ⟨by rw [hm], by rw [hm], by rw [hm], by rw [hm], by rw [State.owed_eq, State.owed_eq, hm, hc, he, hs]; rfl⟩

/-- An update of the configuration memory that leaves what is owed there. -/
theorem SameBooks.of_store (hm : t.mgmt = s.mgmt) (hc : t.chans = s.chans) (he : t.ovl.edits = s.ovl.edits)
    (hs : t.store.owed = s.store.owed) : SameBooks s t :=
  ⟨by rw [hm], by rw [hm], by rw [hm], by rw [hm], by rw [State.owed_eq, State.owed_eq, hm, hc, he, hs]⟩

/-- A channel put in place changes what is owed by its own part. -/
theorem State.owed_setChan (s : State) (p : Cam) (c : Channel) :
    (s.setChan p c).owed + (s.chan p).owed = s.owed + c.owed := by
  have h : owedAt (s.chans.set p c) + (s.chans.get p).owed = owedAt s.chans + c.owed := by
    match p with
    | 0 => simp only [owedAt, Quad.set, Quad.get]; omega
    | 1 => simp only [owedAt, Quad.set, Quad.get]; omega
    | 2 => simp only [owedAt, Quad.set, Quad.get]; omega
    | 3 => simp only [owedAt, Quad.set, Quad.get]; omega
  simp only [State.owed_eq, State.setChan, State.chan]
  omega

/-- A channel that owes as much as the one it replaces. -/
theorem SameBooks.setChan (s : State) {p : Cam} {c : Channel} (h : c.owed = (s.chan p).owed) :
    SameBooks s (s.setChan p c) :=
  ⟨rfl, rfl, rfl, rfl, by have := s.owed_setChan p c; omega⟩

theorem SameBooks.setPort (s : State) (p : Cam) (q : Port) : SameBooks s (s.setPort p q) := ⟨rfl, rfl, rfl, rfl, rfl⟩

theorem SameBooks.putPort (s : State) (p : Cam) (q : Port) : SameBooks s (s.putPort p q) := by
  rw [State.putPort_eq]
  exact .of_status rfl rfl rfl rfl

/-! ## The channels (R137, R138, R143) -/

/-- What a channel with nothing in flight owes. -/
theorem Channel.owed_idle {c : Channel} (h : c.flight = none) : c.owed = c.queue.length := by simp [Channel.owed, h]

/-- What a transaction owes: a pass-through its result. -/
def Transaction.owed (x : Transaction) : Nat := if x.isPass then 1 else 0

theorem Channel.owed_flight {c : Channel} {x : Transaction} (h : c.flight = some x) :
    c.owed = c.queue.length + x.owed := by simp [Channel.owed, Transaction.owed, h]

/-- A selected requester takes along what it is owed (R143). -/
theorem Channel.owed_take_start {c : Channel} {ch : Choice} (hf : c.flight = none) (hc : c.choose = some ch)
    (profile : List Byte) : ((c.take ch).start (transactionFor profile ch)).owed = c.owed := by
  rw [Channel.owed_idle hf, Channel.owed_flight rfl]
  obtain ⟨rfl, -⟩ | ⟨v, rfl, -⟩ | ⟨x, xs, rfl, -, hq, -⟩ := c.choose_cases ch hc
  · rfl
  · rfl
  · simp [Channel.start, Channel.take, hq, transactionFor, Transaction.owed, Transaction.isPass]

/-- The arbiter of a channel answers as many requests as it takes from the queue unserved (R136, R143). -/
theorem Accounted.arbitrate (h : Accounted k s) {p : Cam} (hf : (s.chan p).active = false → (s.chan p).flight = none) :
    Accounted k (s.arbitrate p) := by
  cases ha : (s.chan p).active with
  | true => rwa [s.arbitrate_active p ha]
  | false =>
    have hidle := hf ha
    cases hl : (s.port p).lock with
    | true =>
      cases hc : (s.chan p).choose with
      | none => rwa [s.arbitrate_nothing p ((Channel.choose_eq_none _).mp hc)]
      | some ch =>
        rw [s.arbitrate_starts p ch ha hc hl]
        exact h.of_same (.setChan s (Channel.owed_take_start hidle hc _))
    | false =>
      rw [s.arbitrate_unlocked p ha hl]
      have ho := s.owed_setChan p (s.chan p).drained
      have hd : (s.chan p).drained.owed = 0 := Channel.owed_idle (c := (s.chan p).drained) hidle
      rw [Channel.owed_idle hidle, hd] at ho
      have hdrain : (s.drain p (s.chan p)).owed = (s.setChan p (s.chan p).drained).owed := rfl
      obtain ⟨hp, ht, hq, hlost⟩ := h
      refine ⟨?_, ?_, hq, hlost⟩
      · show s.mgmt.reserved - (s.chan p).queue.length = (s.drain p (s.chan p)).owed + k
        omega
      · simp only [State.drain, List.length_append, List.length_map]
        omega

/-- A channel that owes as much as the one it replaces, arbitrated. -/
theorem Accounted.setChan_arbitrate (h : Accounted k s) {p : Cam} {c : Channel} (hc : c.owed = (s.chan p).owed)
    (hf : c.active = false → c.flight = none) : Accounted k ((s.setChan p c).arbitrate p) :=
  (h.of_same (.setChan s hc)).arbitrate (by rwa [State.chan_setChan_self])

/-- A result handed over pays what its transaction is owed (R137, R142, R144). -/
theorem Accounted.handResult {x : Transaction} (h : Accounted (k + x.owed) s) (p : Cam) (r : Result) (data : List Byte) :
    Accounted k (s.handResult p x r data) := by
  unfold State.handResult
  unfold Transaction.owed Transaction.isPass at h
  split
  · rename_i hw
    rw [hw] at h
    exact h.answerWith _ _ _
  · rename_i hw
    rw [hw] at h
    split
    · split
      · exact h.of_same (.setChan s rfl)
      · exact h
    · exact h.of_same (.of_status rfl rfl rfl rfl)
  · rename_i hw
    rw [hw] at h
    split
    · have hset := h.of_same (.setChan s (p := p) (c := { s.chan p with attnValue := data.getD 0 0 }) rfl)
      exact hset.of_same (.of_status rfl rfl rfl rfl)
    · exact h.of_same (.of_status rfl rfl rfl rfl)

/-- The end of a transaction answers it, and then the arbiter chooses (R137). -/
theorem Accounted.endTransaction (h : Accounted k s) {p : Cam} {x y : Transaction} (hx : (s.chan p).flight = some x)
    (hy : y.owed = x.owed) (r : Result) (data : List Byte) (items : List WireItem) :
    Accounted k (s.endTransaction p y r data items) := by
  unfold State.endTransaction
  generalize hc : ({ s.chan p with active := false, flight := none, timer := .stopped, out := items } : Channel) = c
  have hflight : c.flight = none := by rw [← hc]
  have hqueue : c.queue = (s.chan p).queue := by rw [← hc]
  have ho : s.owed = (s.setChan p c).owed + y.owed := by
    have := s.owed_setChan p c
    rw [Channel.owed_idle hflight, Channel.owed_flight hx, hqueue] at this
    omega
  refine ((h.left (t := s.setChan p c) rfl rfl rfl rfl ho).handResult p r data).arbitrate fun _ => ?_
  obtain ⟨c', st, res, fil, e, hc'⟩ := (s.setChan p c).handResult_frame p y r data
  rw [State.chan_setChan_self] at hc'
  rw [e]
  simp only [State.chan, Quad.get_set_self]
  rw [hc']
  exact hflight

/-- A transaction goes on: its channel owes what it owed. -/
theorem Accounted.nextStep (h : Accounted k s) {p : Cam} {x y : Transaction} (hx : (s.chan p).flight = some x)
    (items : List WireItem) (hy : y.owed = x.owed) : Accounted k (s.nextStep p y items) :=
  h.of_same (.setChan s (by rw [Channel.owed_flight hx, Channel.owed_flight rfl, hy]))

theorem Accounted.cameraAnswer (h : Accounted k s) (p : Cam) (accept : Bool) : Accounted k (s.cameraAnswer p accept) := by
  unfold State.cameraAnswer
  split
  · exact h
  · rename_i x hx
    split
    · unfold State.acceptStep
      split
      · exact h.nextStep hx _ rfl
      · exact h.nextStep hx _ rfl
      · split
        · exact h.nextStep hx _ rfl
        · exact h.nextStep hx _ rfl
      · split
        · exact h.nextStep hx _ rfl
        · exact h.endTransaction hx rfl _ _ _
      · exact h.nextStep hx _ rfl
      · exact h
    · unfold State.rejectStep
      split
      · exact h.endTransaction hx rfl _ _ _
      · exact h.endTransaction hx rfl _ _ _
      · exact h.endTransaction hx rfl _ _ _
      · exact h.endTransaction hx rfl _ _ _
      · exact h.endTransaction hx rfl _ _ _
      · exact h

theorem Accounted.readByte (h : Accounted k s) (p : Cam) (b : Byte) : Accounted k (s.readByte p b) := by
  unfold State.readByte
  split
  · exact h
  · rename_i x hx
    split
    · split
      · exact h.nextStep hx _ rfl
      · exact h.endTransaction hx rfl _ _ _
    · exact h

theorem Accounted.stepTimerExpiry (h : Accounted k s) (p : Cam) : Accounted k (s.stepTimerExpiry p) := by
  unfold State.stepTimerExpiry
  split
  · exact h
  · rename_i x hx
    split
    · exact h.endTransaction hx rfl _ _ _
    · exact h

theorem Accounted.stopMarkSent (h : Accounted k s) (p : Cam) : Accounted k (s.stopMarkSent p) := by
  unfold State.stopMarkSent
  split
  · rename_i hs
    exact h.setChan_arbitrate rfl fun _ => hs.2
  · exact h

theorem Accounted.lockLost (h : Accounted k s) (p : Cam) : Accounted k (s.lockLost p) := by
  unfold State.lockLost
  have hu := h.of_same (.putPort s p ((s.port p).lockLost (s.writingFor p)))
  generalize s.putPort p ((s.port p).lockLost (s.writingFor p)) = u at hu
  unfold State.channelLockLost
  split
  · rename_i x hx
    exact hu.endTransaction hx rfl _ _ _
  · rename_i hf
    exact hu.setChan_arbitrate rfl fun _ => hf

theorem Accounted.askAttention (h : Accounted k s) {p : Cam} (hf : (s.chan p).active = false → (s.chan p).flight = none) :
    Accounted k (s.askAttention p) := h.setChan_arbitrate rfl hf

theorem Accounted.handExposure (h : Accounted k s) {p : Cam} (hf : (s.chan p).active = false → (s.chan p).flight = none)
    (v : Nat) : Accounted k (s.handExposure p v) := h.setChan_arbitrate rfl hf

end Sys2Proof.Machine
end

section
/-! PROOF. Every step keeps the responses accounted (O9; R158 to R160): the answers of the configuration memory, the loads,
the pending element list and the channels, each against the place it uses. -/

namespace Sys2Proof.Machine

variable {s t : State} {k : Nat}

/-! ## The configuration memory (R172 to R175) -/

theorem filter_isRead_late (ws : List PageWrite) : (ws.map Access.lateWrite).filter Access.isRead = [] := by
  induction ws with
  | nil => rfl
  | cons w ws ih => exact ih

/-- A request that leaves the configuration memory is one being answered. -/
theorem Accounted.leaves_store (h : Accounted k s) (hm : t.mgmt = s.mgmt) (hc : t.chans = s.chans)
    (he : t.ovl.edits = s.ovl.edits) (hs : s.store.owed = t.store.owed + 1) : Accounted (k + 1) t :=
  h.left (by rw [hm]) (by rw [hm]) (by rw [hm]) (by rw [hm]) (by
    rw [State.owed_eq, t.owed_eq, hm, hc, he, hs]
    omega)

/-- A request being answered joins the configuration memory. -/
theorem Accounted.joins_store (h : Accounted (k + 1) s) (hm : t.mgmt = s.mgmt) (hc : t.chans = s.chans)
    (he : t.ovl.edits = s.ovl.edits) (hs : t.store.owed = s.store.owed + 1) : Accounted k t :=
  h.of_owed (by rw [hm]) (by rw [hm]) (by rw [hm]) (by rw [hm]) (by
    rw [State.owed_eq, s.owed_eq, hm, hc, he, hs]
    omega)

/-- A STORE-READ at the interface is owed its answer; the other accesses answer nothing of themselves. -/
theorem Store.owed_access_cons (x : Store) (a : Access) (rest : List Access) :
    ({ x with access := a :: rest } : Store).owed = ({ x with access := rest } : Store).owed + a.isRead.toNat := by
  cases a <;> rfl

theorem Store.owed_access_append (x : Store) (a : Access) :
    ({ x with access := x.access ++ [a] } : Store).owed = x.owed + a.isRead.toNat := by
  simp only [Store.owed, List.filter_append, List.length_append, ← Nat.add_assoc]
  cases a <;> rfl

theorem Store.owed_popped {x : Store} {a : Access} {rest : List Access} (h : x.access = a :: rest) :
    x.owed = ({ x with access := x.access.tail } : Store).owed + a.isRead.toNat := by
  rw [h, List.tail_cons, ← Store.owed_access_cons, ← h]

theorem SameBooks.endLateWrites (s : State) : SameBooks s s.endLateWrites := by
  obtain ⟨mem, e, -⟩ := s.endLateWrites_frame
  rw [e]
  refine .of_store rfl rfl rfl ?_
  have hreads : (s.store.access.filter Access.isRead).length =
      ((splitLate s.store.access).2.filter Access.isRead).length := by
    conv_lhs => rw [(splitLate_eq s.store.access).1, List.filter_append, filter_isRead_late, List.nil_append]
  simp only [Store.owed, hreads]

theorem Accounted.pageWriteComplete (h : Accounted k s) : Accounted k s.pageWriteComplete := by
  unfold State.pageWriteComplete
  split
  · rename_i w ha hw
    refine (h.leaves_store (t := s.endWrite.writePage w) rfl rfl rfl ?_).answerWith _ _ _
    simp [Store.owed, State.endWrite, State.writePage, ha, hw, Access.isRead]
    omega
  · rename_i w rest ha
    exact h.of_same (.of_store rfl rfl rfl (by simp [Store.owed, State.popAccess, State.settlePage, ha, Access.isRead]))
  · exact h

theorem Accounted.writeTimerExpiry (h : Accounted k s) : Accounted k s.writeTimerExpiry := by
  unfold State.writeTimerExpiry
  split
  · exact h
  · rename_i w hw
    split
    · refine (h.leaves_store (t := s.loseWrite w) rfl rfl rfl ?_).answerWith _ _ _
      have hreads (as : List Access) : ((as.map fun a => if a = .pageWrite then .lateWrite w else a).filter
          Access.isRead).length = (as.filter Access.isRead).length := by
        induction as with
        | nil => rfl
        | cons a as ih => cases a <;> simp [List.filter_cons, Access.isRead, ih]
      simp only [Store.owed, State.loseWrite, hw, hreads]
      simp
      omega
    · exact h

theorem Accounted.storeReadComplete (h : Accounted k s) (answered : Bool) : Accounted k (s.storeReadComplete answered) := by
  unfold State.storeReadComplete
  dsimp only
  split
  · rename_i ticket offset ha
    have hu := h.of_same (.endLateWrites s)
    generalize s.endLateWrites = u at hu ha
    refine (hu.leaves_store (t := u.popAccess) rfl rfl rfl ?_).answerWith _ _ _
    obtain ⟨rest, hrest⟩ := List.head?_eq_some_iff.mp ha
    exact Store.owed_popped hrest
  · exact h

/-! ## Boot (R173, R174) -/

/-- Boot's own work at the memory: its reads answer no request. -/
theorem SameBooks.setBoot (s : State) (b : Boot) : SameBooks s (s.setBoot b) := .of_store rfl rfl rfl rfl

theorem SameBooks.continueBoot (s : State) : SameBooks s s.continueBoot := by
  unfold State.continueBoot
  split
  · exact .of_store rfl rfl rfl rfl
  · exact .of_store rfl rfl rfl (s.store.owed_access_append .bootEntry)

theorem SameBooks.popBoot {a : Access} (ha : s.store.access.head? = some a) (hr : a.isRead = false) :
    SameBooks s s.popAccess := by
  obtain ⟨rest, hrest⟩ := List.head?_eq_some_iff.mp ha
  exact .of_store rfl rfl rfl (by rw [Store.owed_popped hrest, hr]; rfl)

theorem SameBooks.bootHeaderRead (s : State) (answered : Bool) : SameBooks s (s.bootHeaderRead answered) := by
  unfold State.bootHeaderRead
  dsimp only
  split
  · rename_i ha
    have hpop := (SameBooks.endLateWrites s).trans (.popBoot ha.1 rfl)
    split
    · exact hpop.trans (.setBoot _ _)
    · exact (hpop.trans (.setBoot _ _)).trans (.continueBoot _)
  · exact .refl s

theorem SameBooks.applyBindings (s : State) (data : List Byte) : SameBooks s (s.applyBindings data).2 := by
  obtain ⟨b, e⟩ := s.applyBindings_frame data
  rw [e]
  exact .of_store rfl rfl rfl rfl

theorem SameBooks.writeLayout (s : State) (d : TableLoad) : SameBooks s (s.writeLayout d) := by
  obtain ⟨slots, e⟩ := s.writeLayout_frame d
  rw [e]
  exact .of_store rfl rfl rfl rfl

theorem SameBooks.applyEntry (s : State) (index : Nat) (code slot camera : Byte) (data : List Byte) :
    SameBooks s (s.applyEntry index code slot camera data) := by
  unfold State.applyEntry
  split
  · exact (SameBooks.setBoot s _).trans (.continueBoot _)
  · dsimp only
    split
    · exact (SameBooks.applyBindings s data).trans (.continueBoot _)
    · exact ((SameBooks.applyBindings s data).trans (.setBoot _ _)).trans (.continueBoot _)
  · exact (SameBooks.writeLayout s _).trans (.continueBoot _)
  · exact .setBoot s _

theorem SameBooks.bootEntryRead (s : State) (answered : Bool) : SameBooks s (s.bootEntryRead answered) := by
  unfold State.bootEntryRead
  dsimp only
  split
  · rename_i ha
    have hpop := (SameBooks.endLateWrites s).trans (.popBoot ha rfl)
    split
    · exact (hpop.trans (.setBoot _ _)).trans (.setBoot _ _)
    · exact (hpop.trans (.setBoot _ _)).trans (.applyEntry _ _ _ _ _ _)
  · exact .refl s

/-! ## Requests taken (R160) -/

/-- The load context between IDLE and OPEN owes nothing (R162). -/
theorem SameBooks.setLoad (s : State) {l : LoadContext} (hs : s.mgmt.load.st ≠ .applying) (hl : l.st ≠ .applying) :
    SameBooks s { s with mgmt.load := l } :=
  ⟨rfl, rfl, rfl, rfl, by simp only [State.owed, hs, hl]; rfl⟩

theorem Accounted.serveLoadBegin (h : Accounted (k + 1) s) (i : Ticket) (table slot camera : Byte) (total : BitVec 16)
    (crc : BitVec 32) : Accounted k (s.serveLoadBegin i table slot camera total crc) := by
  unfold State.serveLoadBegin
  split
  · exact h.answerWith _ _ _
  · rename_i hst
    have hidle : s.mgmt.load.st ≠ .applying := fun e => hst (Or.inl (by rw [e]; decide))
    split
    · exact h.answerWith _ _ _
    · split
      · exact h.answerWith _ _ _
      · split
        · exact h.answerWith _ _ _
        · exact (h.of_same (.setLoad s hidle (by simp [LoadContext.open_]))).answerWith _ _ _

theorem SameBooks.closeLoad (hs : s.mgmt.load.st = .opened) : SameBooks s s.closeLoad :=
  .setLoad s (by simp [hs]) (by simp [LoadContext.idle])

theorem Accounted.serveLoadData (h : Accounted (k + 1) s) (i : Ticket) (segment : BitVec 16) (data : List Byte) :
    Accounted k (s.serveLoadData i segment data) := by
  unfold State.serveLoadData
  split
  · exact h.answerWith _ _ _
  · rename_i hst
    have hopen : s.mgmt.load.st = .opened := not_not.mp hst
    split
    · exact (h.of_same (.closeLoad hopen)).answerWith _ _ _
    · exact (h.of_same (.setLoad s (by simp [hopen]) (by simp [LoadContext.accept, hopen]))).answerWith _ _ _

theorem Accounted.serveLoadEnd (h : Accounted (k + 1) s) (i : Ticket) : Accounted k (s.serveLoadEnd i) := by
  unfold State.serveLoadEnd
  split
  · exact h.answerWith _ _ _
  · rename_i hst
    have hopen : s.mgmt.load.st = .opened := not_not.mp hst
    have hclosed := h.of_same (.closeLoad hopen)
    split
    · exact hclosed.answerWith _ _ _
    · exact hclosed.answerWith _ _ _
    · exact hclosed.answerWith _ _ _
    · exact hclosed.answerWith _ _ _
    · split
      · exact (hclosed.of_same (.writeLayout _ _)).answerWith _ _ _
      · exact h.of_owed rfl rfl rfl rfl (by simp only [State.owed_eq, Management.owed, hopen]; simp; omega)

theorem Accounted.serveLoadAbort (h : Accounted (k + 1) s) (i : Ticket) : Accounted k (s.serveLoadAbort i) := by
  unfold State.serveLoadAbort
  split
  · rename_i hopen
    exact (h.of_same (.closeLoad hopen)).answerWith _ _ _
  · exact h.answerWith _ _ _

theorem Accounted.serveTableRead (h : Accounted (k + 1) s) (i : Ticket) (table slot camera : Byte) (offset : BitVec 16)
    (length : Byte) : Accounted k (s.serveTableRead i table slot camera offset length) := by
  unfold State.serveTableRead
  split
  · exact h.answerWith _ _ _
  · split
    · exact h.answerWith _ _ _
    · split <;> exact h.answerWith _ _ _

theorem Accounted.serveBindMode (h : Accounted (k + 1) s) (i : Ticket) (mode slot : Byte) :
    Accounted k (s.serveBindMode i mode slot) := by
  obtain ⟨b, e⟩ := s.bind_frame mode slot
  have hu : Accounted (k + 1) (s.bind mode slot).2 := by
    rw [e]
    exact h.of_same (.of_store rfl rfl rfl rfl)
  exact hu.answerWith _ _ _

theorem Accounted.serveSetView (h : Accounted (k + 1) s) (i : Ticket) (mode : Byte) : Accounted k (s.serveSetView i mode) := by
  unfold State.serveSetView
  split
  · exact h.answerWith _ _ _
  · split
    · exact h.answerWith _ _ _
    · rename_i m _ _
      have hu : Accounted (k + 1) { s with modes.override := some m } := h.of_same (.of_store rfl rfl rfl rfl)
      exact hu.answerWith _ _ _

/-- A change that joins the list adds an entry, or takes the place of one whose request is answered (R95). -/
theorem Accounted.joinEdits (h : Accounted (k + 1) s) (e : Edit) : Accounted k (s.joinEdits e) := by
  unfold State.joinEdits
  split
  · rename_i hfind
    have hnew : (s.ovl.edits.any fun x => x.index == e.index) = false := by
      rw [List.find?_eq_none] at hfind
      simpa using hfind
    exact h.of_owed rfl rfl rfl rfl (by simp [State.owed_eq, putEdit, hnew]; omega)
  · rename_i x hfind
    have hold : (s.ovl.edits.any fun x => x.index == e.index) = true :=
      List.any_eq_true.mpr ⟨x, List.mem_of_find?_eq_some hfind, List.find?_some (p := fun x : Edit => x.index == e.index) hfind⟩
    have hsame : SameBooks s { s with ovl.edits := putEdit s.ovl.edits e } :=
      ⟨rfl, rfl, rfl, rfl, by simp [State.owed_eq, putEdit, hold]⟩
    exact (h.of_same hsame).answerWith _ _ _

theorem Accounted.serveElementWrite (h : Accounted (k + 1) s) (i : Ticket) (index : Byte) (record : List Byte) :
    Accounted k (s.serveElementWrite i index record) := by
  unfold State.serveElementWrite
  split
  · exact h.answerWith _ _ _
  · split
    · exact h.answerWith _ _ _
    · split
      · exact h.answerWith _ _ _
      · exact h.joinEdits _

theorem Accounted.serveElementClear (h : Accounted (k + 1) s) (i : Ticket) (index : Byte) :
    Accounted k (s.serveElementClear i index) := by
  unfold State.serveElementClear
  split
  · exact h.answerWith _ _ _
  · split
    · exact h.answerWith _ _ _
    · exact h.joinEdits _

theorem Accounted.serveCamXfer (h : Accounted (k + 1) s) (hc : ChannelsConsistent s) (i : Ticket)
    (camera device direction : Byte) (register : BitVec 16) (count : Byte) (data : List Byte) :
    Accounted k (s.serveCamXfer i camera device direction register count data) := by
  obtain ⟨r, e⟩ | ⟨p, x, -, e⟩ := s.serveCamXfer_cases i camera device direction register count data
  · rw [e]
    exact h.answerWith _ _ _
  · rw [e]
    generalize hx : ({ s.chan p with queue := (s.chan p).queue ++ [x] } : Channel) = c
    have ho := s.owed_setChan p c
    have hone : c.owed = (s.chan p).owed + 1 := by simp [← hx, Channel.owed]; omega
    refine (h.of_owed (t := s.setChan p c) rfl rfl rfl rfl (by omega)).arbitrate ?_
    rw [State.chan_setChan_self, ← hx]
    exact fun ha => ((hc p).1 ha).1

theorem SameBooks.setDebounced (s : State) (l : Fin 8) (level : Bool) : SameBooks s (s.setDebounced l level) := by
  unfold State.setDebounced
  rw [State.raiseIf_eq]
  exact .of_status rfl rfl rfl rfl

theorem SameBooks.setLine (s : State) (l : Fin 8) (v : Line) : SameBooks s (s.setLine l v) := .of_store rfl rfl rfl rfl

theorem SameBooks.configureLine (s : State) (l : Fin 8) (cfg : LineRecord) : SameBooks s (s.configureLine l cfg) := by
  unfold State.configureLine
  dsimp only
  split
  · split
    · split
      · exact (SameBooks.setLine s l _).trans (.setDebounced _ l _)
      · split <;> exact .setLine s l _
    · exact .setLine s l _
  · exact .setLine s l _
  · exact .setLine s l _

theorem Accounted.serveLineConfig (h : Accounted (k + 1) s) (i : Ticket)
    (line function polarity debounce role edge source : Byte) :
    Accounted k (s.serveLineConfig i line function polarity debounce role edge source) := by
  unfold State.serveLineConfig
  split
  · exact (h.of_same (.configureLine s _ _)).answerWith _ _ _
  · exact h.answerWith _ _ _

theorem Accounted.serveStoreWrite (h : Accounted (k + 1) s) (i : Ticket) (offset : BitVec 16) (data : List Byte) :
    Accounted k (s.serveStoreWrite i offset data) := by
  obtain ⟨r, e⟩ | ⟨-, hw, e⟩ := s.serveStoreWrite_cases i offset data
  · rw [e]
    exact h.answerWith _ _ _
  · rw [e]
    exact h.joins_store rfl rfl rfl (by simp [Store.owed, hw, Access.isRead]; omega)

theorem Accounted.serveStoreRead (h : Accounted (k + 1) s) (i : Ticket) (offset : BitVec 16) :
    Accounted k (s.serveStoreRead i offset) := by
  obtain ⟨r, e⟩ | e := s.serveStoreRead_cases i offset
  · rw [e]
    exact h.answerWith _ _ _
  · rw [e]
    exact h.joins_store rfl rfl rfl (s.store.owed_access_append (.storeRead i offset.toNat))

/-! ## Resets (R168, R169) -/

/-- The blocks after a FULL reset, the compositor's work and DRAM's transfer aside (R168). -/
theorem State.fullResetBlocks_frame (s : State) : ∃ g lp work next h0 h1, s.fullResetBlocks = { s with
    ports := Quad.build fun p => (s.port p).fullReset (s.writingFor p)
    dram := { s.dram with granted := g, lastPort := lp }
    layouts := LayoutStore.powerOn, comp := ⟨Plan.powerOn, work, next, Seam.zero, true, h0, h1⟩
    bal := BalanceUnit.powerOn, ovl := OverlayEngine.powerOn, modes := ModeController.powerOn
    veh := Vehicle.powerOn (Oct.build fun l => (s.line l).raw)
    chans := Quad.build fun p => Channel.powerOn (s.port p).lock
    mgmt := Management.powerOn, store := s.resetStore.store } := by
  obtain ⟨g, lp, work, next, h0, h1, e, -⟩ := s.resetBeforeCompositor.resetCompositor_frame
  have hl : ∀ p, ((Quad.build fun p => (s.port p).fullReset (s.writingFor p)).get p).lock = (s.port p).lock := fun p => by
    rw [Quad.get_build]; rfl
  refine ⟨g, lp, work, next, h0, h1, ?_⟩
  rw [State.fullResetBlocks_eq, e]
  dsimp only [State.resetVehicle, State.resetChannels, State.resetStore, State.resetBeforeCompositor, State.resetPorts]
  simp only [hl]
  rfl

/-- A channel at its power-on values owes nothing, and no access that a FULL reset leaves is a STORE-READ (R145, R172). -/
theorem State.fullResetBlocks_owed (s : State) : s.fullResetBlocks.owed = 0 := by
  obtain ⟨g, lp, work, next, h0, h1, e⟩ := s.fullResetBlocks_frame
  have hreads : s.resetStore.store.owed = 0 := by
    simp only [Store.owed, State.resetStore, List.filter_append, filter_isRead_late]
    rfl
  rw [State.owed_eq, e]
  simp only [hreads]
  rfl

/-- After a FULL reset nothing is owed: its own response is the one that is filled, or is handed over at once (R168). -/
theorem accounted_fullReset (s : State) (i : Ticket) : Accounted 0 (s.fullReset i) := by
  have howed := s.fullResetBlocks_owed
  obtain ⟨g, lp, work, next, h0, h1, e⟩ := s.fullResetBlocks_frame
  have hmgmt : s.fullResetBlocks.mgmt = Management.powerOn := by rw [e]
  unfold State.fullReset
  generalize s.fullResetBlocks = u at howed hmgmt
  unfold State.rebuildHeader
  have hplaces : u.mgmt.reserved = 0 := by rw [hmgmt]; rfl
  have hqueue : u.mgmt.queue.length ≤ 16 := by rw [hmgmt]; decide
  have hlost : u.mgmt.lost ≤ 255 := by rw [hmgmt]; decide
  have htaken (filled : List Response) (hf : filled.length ≤ 1) : u.mgmt.reserved + filled.length ≤ 32 := by omega
  dsimp only
  split
  · exact ⟨hplaces.trans howed.symm, htaken _ (Nat.zero_le _), hqueue, hlost⟩
  · exact ⟨hplaces.trans howed.symm, htaken _ (Nat.le_refl _), hqueue, hlost⟩

theorem SameBooks.viewResetBlocks (s : State) : SameBooks s s.viewResetBlocks := by
  have hports : SameBooks s (forCams State.viewResetPort s) :=
    forCams_induction (P := SameBooks s) State.viewResetPort (fun c u hu => hu.trans (.putPort u c _)) s (.refl s)
  unfold State.viewResetBlocks
  generalize forCams State.viewResetPort s = u at hports
  obtain ⟨m, st, e⟩ := u.resetBalanceView.resetModeView_frame
  dsimp only
  rw [e]
  exact hports.trans (.of_status rfl rfl rfl rfl)

/-! ## The taking of a request (R159, R160) -/

theorem Accounted.serveReset (h : Accounted 1 s) (i : Ticket) (w : Byte) : Accounted 0 (s.serveReset i w) := by
  unfold State.serveReset
  split
  · exact accounted_fullReset s i
  · split
    · exact (h.of_same (.viewResetBlocks s)).answerWith _ _ _
    · exact h.answerWith _ _ _

/-- Whatever its owner makes of it, a request taken is answered, or owed its answer (R159, R160). -/
theorem Accounted.serveReq (h : Accounted 1 s) (hc : ChannelsConsistent s) (i : Ticket) (q : Req) :
    Accounted 0 (s.serveReq i q) := by
  cases q with
  | loadBegin table slot camera total crc => exact h.serveLoadBegin i table slot camera total crc
  | loadData segment data => exact h.serveLoadData i segment data
  | loadEnd => exact h.serveLoadEnd i
  | loadAbort => exact h.serveLoadAbort i
  | tableRead table slot camera offset length => exact h.serveTableRead i table slot camera offset length
  | bindMode mode slot => exact h.serveBindMode i mode slot
  | setView mode => exact h.serveSetView i mode
  | releaseView =>
    have hu : Accounted 1 { s with modes.override := none } := h.of_same (.of_store rfl rfl rfl rfl)
    exact hu.answerWith _ _ _
  | elementWrite index record => exact h.serveElementWrite i index record
  | elementClear index => exact h.serveElementClear i index
  | camXfer c d dir r n data => exact h.serveCamXfer hc i c d dir r n data
  | lineConfig l f p d r e o => exact h.serveLineConfig i l f p d r e o
  | linesSet mask =>
    have hu : Accounted 1 (s.setManual mask true) := h.of_same (.of_store rfl rfl rfl rfl)
    exact hu.answerWith _ _ _
  | linesClear mask =>
    have hu : Accounted 1 (s.setManual mask false) := h.of_same (.of_store rfl rfl rfl rfl)
    exact hu.answerWith _ _ _
  | eventEnable mask =>
    have hu : Accounted 1 { s with mgmt.enable := mask } := h.of_same ⟨rfl, rfl, rfl, rfl, rfl⟩
    exact hu.answerWith _ _ _
  | eventAck mask =>
    have hu : Accounted 1 { s with mgmt.status := s.mgmt.status &&& ~~~mask } := h.of_same ⟨rfl, rfl, rfl, rfl, rfl⟩
    exact hu.answerWith _ _ _
  | storeWrite offset data => exact h.serveStoreWrite i offset data
  | storeRead offset => exact h.serveStoreRead i offset
  | reset w => exact h.serveReset i w

theorem Accounted.serve (h : Accounted 1 s) (hc : ChannelsConsistent s) (r : Request) : Accounted 0 (s.serve r) := by
  unfold State.serve
  split
  · exact h.answerWith _ _ _
  · exact h.answerWith _ _ _
  · exact h.serveReq hc _ _

/-- At take-up a place that is free is reserved for the request (R159). -/
theorem Accounted.popRequest (h : Accounted 0 s) {r : Request} {rest : List Request} (hq : s.mgmt.queue = r :: rest)
    (hp : s.placeFree = true) : Accounted 1 (s.popRequest rest) := by
  obtain ⟨hplaces, htaken, hwaiting, hlost⟩ := h
  have hfree : s.mgmt.reserved + s.mgmt.filled.length < 32 := of_decide_eq_true hp
  refine ⟨?_, ?_, ?_, hlost⟩
  · show s.mgmt.reserved + 1 = s.owed + 1
    omega
  · simp only [State.popRequest_mgmt_reserved, State.popRequest_mgmt_filled]
    omega
  · rw [hq, List.length_cons] at hwaiting
    exact (Nat.le_succ _).trans hwaiting

/-! ## The turnover (R96, R164) -/

theorem Accounted.applyCamTable (h : Accounted k s) (hc : ChannelsConsistent s) (d : TableLoad) :
    Accounted k (s.applyCamTable d) := by
  unfold State.applyCamTable
  split
  · rw [State.applyProfile_eq]
    have howed : ((s.chan d.cam).applyProfile d.content).owed = (s.chan d.cam).owed := by
      cases hf : (s.chan d.cam).flight with
      | none => simp [Channel.owed, Channel.applyProfile, hf]
      | some x =>
        rw [Channel.owed_flight (x := { x with current := false }) (by simp [Channel.applyProfile, hf]),
          Channel.owed_flight hf]
        rfl
    have hset := h.of_same (.setChan s (p := d.cam) howed)
    have hu : Accounted k (s.profiled d.cam d.content) := hset.of_same (.of_status rfl rfl rfl rfl)
    split
    · exact hu.askAttention fun ha => ((hc.profiled d.cam d.content d.cam).1 ha).1
    · exact hu
  · exact h.of_same (.setPort s _ _)
  · exact h

theorem Accounted.applyCamTables (h : Accounted k s) (hc : ChannelsConsistent s) (ds : List TableLoad) :
    Accounted k (ds.foldl State.applyCamTable s) := by
  induction ds generalizing s with
  | nil => exact h
  | cons d ds ih => exact ih (h.applyCamTable hc d) (hc.applyCamTable d)

theorem Accounted.settleAndNudge (h : Accounted k s) (hc : ChannelsConsistent s) (c : Cam) :
    Accounted k (s.settleAndNudge c) := by
  unfold State.settleAndNudge
  dsimp only
  have hset : Accounted k (s.setBal c (s.camBal c).settleStep) := h.of_same (.of_status rfl rfl rfl rfl)
  split
  · unfold State.nudgeTest
    split
    · split
      · exact hset
      · split
        · exact hset
        · rename_i v _ _
          have hnudged : Accounted k ((s.setBal c (s.camBal c).settleStep).setBal c
              ((s.setBal c (s.camBal c).settleStep).camBal c).nudged) := hset.of_same (.of_status rfl rfl rfl rfl)
          exact hnudged.handExposure (fun ha => ((hc c).1 ha).1) v
    · exact hset
  · exact hset

theorem Accounted.balanced (h : Accounted k s) (hc : ChannelsConsistent s) : Accounted k s.balanced := by
  have hrings : Accounted k s.turnRings := h.of_same (.of_status rfl rfl rfl rfl)
  have htables := hrings.applyCamTables hc.turnRings s.dueTables
  have hconsistent := hc.turnRings.applyCamTables s.dueTables
  unfold State.balanced
  generalize s.dueTables.foldl State.applyCamTable s.turnRings = u at htables hconsistent
  have hgains : Accounted k u.gainTurnover := htables.of_same (.of_status rfl rfl rfl rfl)
  have hwork : Accounted k u.balanceTurnover ∧ ChannelsConsistent u.balanceTurnover :=
    forCams_induction (P := fun v => Accounted k v ∧ ChannelsConsistent v) State.settleAndNudge
      (fun c v hv => ⟨hv.1.settleAndNudge hv.2 c, hv.2.settleAndNudge c⟩) u.gainTurnover ⟨hgains, hconsistent⟩
  generalize hv : u.balanceTurnover = v at hwork
  unfold State.turnBalance
  rw [hv]
  split
  · exact hwork.1
  · exact hwork.1.of_same (.of_status rfl rfl rfl rfl)

/-- The entries of the pending list are answered, and no entry is left (R96). -/
theorem Accounted.applyEdits (h : Accounted k s) (table : Option (List Byte)) : Accounted k (s.applyEdits table) := by
  rw [State.applyEdits_eq]
  obtain ⟨hplaces, htaken, hwaiting, hlost⟩ := h
  rw [State.owed_eq] at hplaces
  refine ⟨?_, ?_, hwaiting, hlost⟩
  · rw [State.owed_eq]
    simp only [List.length_nil, Management.owed] at hplaces ⊢
    omega
  · simp only [List.length_append, List.length_map]
    omega

theorem Accounted.finishLoad (h : Accounted k s) : Accounted k s.finishLoad := by
  unfold State.finishLoad
  split
  · rename_i ha
    refine (h.left (t := s.closeLoad) (n := 1) rfl rfl rfl rfl ?_).answerWith _ _ _
    simp only [State.owed_eq, Management.owed, ha, State.closeLoad, LoadContext.idle]
    simp
    omega
  · exact h

theorem SameBooks.otherTables (s : State) (rules bands palette glyphs : Option (List Byte)) :
    SameBooks s ((((s.applyRules rules).applyBands bands).applyPalette palette).applyGlyphs glyphs) := by
  cases rules <;> cases bands <;> cases palette <;> cases glyphs <;> exact .of_status rfl rfl rfl rfl

theorem Accounted.applyTables (h : Accounted k s) (hc : ChannelsConsistent s) :
    Accounted k (s.turnRings.applyTables s.dueTables) := by
  have hb := h.balanced hc
  change Accounted k (((((s.balanced.applyRules _).applyBands _).applyPalette _).applyGlyphs _).applyEdits _)
  generalize s.balanced = u at hb
  exact (hb.of_same (.otherTables u _ _ _ _)).applyEdits _

theorem Accounted.turnoverWork (h : Accounted k s) (hc : ChannelsConsistent s) : Accounted k s.turnoverWork := by
  have hload := (h.applyTables hc).finishLoad
  have hsettled : Accounted k s.settled := by
    rw [State.settled_eq_modeTurnover, State.beforeModes]
    generalize (s.turnRings.applyTables s.dueTables).finishLoad = u at hload
    have hboot : SameBooks u u.finishBootTable := by
      unfold State.finishBootTable
      split
      · exact .refl u
      · exact (SameBooks.setBoot u _).trans (.continueBoot _)
    obtain ⟨m, use, st, e⟩ := u.finishBootTable.modeTurnover_frame
    rw [e]
    exact (hload.of_same hboot).of_same (.of_status rfl rfl rfl rfl)
  rw [State.turnoverWork_eq]
  generalize s.settled = u at hsettled
  obtain ⟨hplaces, htaken, hwaiting, hlost⟩ := hsettled
  refine ⟨hplaces, ?_, hwaiting, hlost⟩
  show u.mgmt.reserved + (u.mgmt.filled.drop 8).length ≤ 32
  rw [List.length_drop]
  omega

/-! ## Camera frames -/

theorem Accounted.validFrame (h : Accounted k s) (hc : ChannelsConsistent s) (p : Cam) (f : Flight) (attention : Bool) :
    Accounted k (s.validFrame p f attention) := by
  unfold State.validFrame
  dsimp only
  have h1 : Accounted k (s.setPort p ((s.port p).storeValid f attention)) := h.of_same (.setPort s _ _)
  have hc1 : ChannelsConsistent (s.setPort p ((s.port p).storeValid f attention)) := hc.setPort rfl
  generalize (s.port p).storeValid f attention = q at h1 hc1
  have h2 : Accounted k (if (attention && (profileStatus q.profile).isSome) = true then
      (s.setPort p q).askAttention p else s.setPort p q) ∧ ChannelsConsistent
      (if (attention && (profileStatus q.profile).isSome) = true then (s.setPort p q).askAttention p
        else s.setPort p q) := by
    split
    · exact ⟨h1.askAttention fun ha => ((hc1 p).1 ha).1, hc1.askAttention p⟩
    · exact ⟨h1, hc1⟩
  generalize (if (attention && (profileStatus q.profile).isSome) = true then
      (s.setPort p q).askAttention p else s.setPort p q) = u at h2
  have h3 := h2.1.of_same (.putPort u p (q.onValid f.signature))
  split
  · unfold State.restoreExposure
    split
    · refine h3.handExposure (fun ha => ?_) _
      have hchan : (u.putPort p (q.onValid f.signature)).chan p = u.chan p := by rw [State.putPort_eq]; rfl
      rw [hchan] at ha ⊢
      exact ((h2.2 p).1 ha).1
    · exact h3
  · exact h3

theorem Accounted.frameEndMark (h : Accounted k s) (hc : ChannelsConsistent s) (p : Cam) (n : Nat) (attention : Bool) :
    Accounted k (s.frameEndMark p n attention) := by
  unfold State.frameEndMark
  dsimp only
  split
  · split
    · exact h
    · split
      · exact h.validFrame hc p _ attention
      · exact h.of_same (.setPort s _ _)
  · exact h

/-! ## Underruns (R54) -/

theorem SameBooks.fillBand (s : State) (b : Nat) : SameBooks s (s.fillBand b) := by
  unfold State.fillBand
  dsimp only
  have hraised : SameBooks s (({ s with
      comp := { s.comp.setHalf b ⟨.fill, b, []⟩ with incomplete := true }
      tx.underrun := s.tx.underrun.note b } : State).raise evUnderrun) := .of_status rfl rfl rfl rfl
  refine hraised.trans ?_
  generalize (({ s with
      comp := { s.comp.setHalf b ⟨.fill, b, []⟩ with incomplete := true }
      tx.underrun := s.tx.underrun.note b } : State).raise evUnderrun) = u
  obtain ⟨g, lp, work, next, k0, k1, e⟩ := u.tryStartBand_grant_frame
  rw [e]
  exact .of_status rfl rfl rfl rfl

theorem SameBooks.underrunBand (s : State) (b : Nat) : SameBooks s (s.underrunBand b) := by
  obtain e | e := s.underrunBand_cases b
  · rw [e]
    exact .fillBand s b
  · obtain ⟨g, c, e'⟩ := s.dropWork_frame
    have hdrop : SameBooks s s.dropWork := by
      rw [e']
      exact .of_status rfl rfl rfl rfl
    rw [e]
    exact hdrop.trans (.fillBand _ b)

/-! ## Every command -/

/-- Every command keeps the responses accounted, the channels being consistent. -/
theorem keptByCommands_accounted : KeptByCommands fun s => ChannelsConsistent s ∧ Accounted 0 s where
  pending s l h := ⟨keptByCommands_channelsConsistent.pending s l h.1, h.2.of_same ⟨rfl, rfl, rfl, rfl, rfl⟩⟩
  tick s h := by
    refine ⟨keptByCommands_channelsConsistent.tick s h.1, h.2.of_same ⟨rfl, rfl, rfl, rfl, ?_⟩⟩
    rw [State.owed_eq, s.owed_eq]
    rfl
  loseRequest s h := ⟨h.1, h.2.places, h.2.taken, h.2.waiting, Nat.min_le_left _ _⟩
  pushRequest s r h _ hq := by
    refine ⟨h.1, h.2.places, h.2.taken, ?_, h.2.lost⟩
    rw [State.pushRequest_mgmt_queue, List.length_append, List.length_singleton]
    omega
  serve s r rest h hq hp := ⟨keptByCommands_channelsConsistent.serve s r rest h.1 hq hp,
    (h.2.popRequest hq hp).serve (s := s.popRequest rest) h.1 r⟩
  powerOn s h := by
    refine ⟨keptByCommands_channelsConsistent.powerOn s h.1, ?_⟩
    obtain ⟨mem, e, -⟩ := s.powerOnAgain_frame
    rw [e]
    exact ⟨rfl, Nat.zero_le _, Nat.zero_le _, Nat.zero_le _⟩
  lockGained s p h := ⟨h.1.lockGained p, h.2.of_same (.putPort s p _)⟩
  lockLost s p h := ⟨h.1.lockLost p, h.2.lockLost p⟩
  frameStartMark s p h := by
    refine ⟨keptByCommands_channelsConsistent.frameStartMark s p h.1, ?_⟩
    unfold State.frameStartMark
    dsimp only
    split
    · split <;> exact h.2.of_same (.setPort s p _)
    · exact h.2
  lineReceived s p pixels h := by
    refine ⟨keptByCommands_channelsConsistent.lineReceived s p pixels h.1, ?_⟩
    unfold State.lineReceived
    split
    · obtain ⟨g, lp, work, e, -⟩ := (s.setPort p ((s.port p).receiveLine pixels)).grant_frame
      rw [e]
      exact h.2.of_same (.of_status rfl rfl rfl rfl)
    · exact h.2
  frameEndMark s p n attention h := ⟨h.1.frameEndMark p n attention, h.2.frameEndMark h.1 p n attention⟩
  stalenessExpiry s p h := by
    refine ⟨keptByCommands_channelsConsistent.stalenessExpiry s p h.1, ?_⟩
    unfold State.stalenessExpiry
    split
    · exact h.2.of_same (.putPort s p _)
    · exact h.2
  dramWriteComplete s h := by
    refine ⟨keptByCommands_channelsConsistent.dramWriteComplete s h.1, ?_⟩
    unfold State.dramWriteComplete
    split
    · rename_i p _
      have hu : Accounted 0 (s.finishWrite p) := by
        unfold State.finishWrite
        split
        · exact h.2
        · exact h.2.of_same (.of_status rfl rfl rfl rfl)
      obtain ⟨g, lp, work, e, -⟩ := State.grant_frame
        { s.finishWrite p with dram := { (s.finishWrite p).dram with granted := none } }
      rw [e]
      exact hu.of_same (.of_status rfl rfl rfl rfl)
    · exact h.2
    · exact h.2
  sourceReadComplete s h := by
    obtain ⟨g, lp, c, e⟩ := s.sourceReadComplete_frame
    exact ⟨keptByCommands_channelsConsistent.sourceReadComplete s h.1, by
      rw [e]; exact h.2.of_same (.of_status rfl rfl rfl rfl)⟩
  bandCompletion s b h := by
    obtain ⟨g, lp, c, e⟩ := s.bandCompletion_frame b
    exact ⟨keptByCommands_channelsConsistent.bandCompletion s b h.1, by
      rw [e]; exact h.2.of_same (.of_status rfl rfl rfl rfl)⟩
  frameStart s h := by
    obtain ⟨g, lp, c, x, v, e⟩ := s.frameStart_frame
    exact ⟨keptByCommands_channelsConsistent.frameStart s h.1, by
      rw [e]; exact h.2.of_same (.of_status rfl rfl rfl rfl)⟩
  bandStart s b h := by
    refine ⟨keptByCommands_channelsConsistent.bandStart s b h.1, ?_⟩
    unfold State.bandStart
    dsimp only
    have hphase : SameBooks s { s with tx.phase := .inBand b } := .of_status rfl rfl rfl rfl
    split
    · exact h.2.of_same (.of_status rfl rfl rfl rfl)
    · exact h.2.of_same (hphase.trans (.underrunBand _ b))
    · exact h.2.of_same hphase
    · exact h.2.of_same hphase
    · exact h.2.of_same hphase
  bandEnd s b h := by
    obtain ⟨g, lp, c, x, e⟩ := s.bandEnd_frame b
    exact ⟨keptByCommands_channelsConsistent.bandEnd s b h.1, by
      rw [e]; exact h.2.of_same (.of_status rfl rfl rfl rfl)⟩
  turnoverWork s h := ⟨h.1.turnoverWork, h.2.turnoverWork h.1⟩
  vehicleRecord s bs h := by
    refine ⟨keptByCommands_channelsConsistent.vehicleRecord s bs h.1, ?_⟩
    unfold State.vehicleRecord
    split
    · rw [State.raiseIf_eq]
      exact h.2.of_same (.of_status rfl rfl rfl rfl)
    · exact h.2
  staleExpiry s h := by
    refine ⟨keptByCommands_channelsConsistent.staleExpiry s h.1, ?_⟩
    unfold State.staleExpiry
    split
    · exact h.2.of_same (.of_status rfl rfl rfl rfl)
    · exact h.2
  lostExpiry s h := by
    refine ⟨keptByCommands_channelsConsistent.lostExpiry s h.1, ?_⟩
    unfold State.lostExpiry
    split
    · exact h.2.of_same (.of_status rfl rfl rfl rfl)
    · exact h.2
  rawChange s l level h := by
    refine ⟨keptByCommands_channelsConsistent.rawChange s l level h.1, ?_⟩
    unfold State.rawChange
    dsimp only
    split
    · exact h.2
    · split
      · split
        · exact h.2.of_same (.setLine s l _)
        · split
          · exact (h.2.of_same (.setLine s l _)).of_same (.setDebounced _ l level)
          · exact h.2.of_same (.setLine s l _)
      · exact h.2.of_same (.setLine s l _)
  debounceExpiry s l h := by
    refine ⟨keptByCommands_channelsConsistent.debounceExpiry s l h.1, ?_⟩
    unfold State.debounceExpiry
    dsimp only
    split
    · exact h.2.of_same (.setDebounced s l _)
    · exact h.2
  loadTimerExpiry s h := by
    refine ⟨keptByCommands_channelsConsistent.loadTimerExpiry s h.1, ?_⟩
    unfold State.loadTimerExpiry
    split
    · rename_i hopen
      exact (h.2.of_same (.closeLoad hopen.1)).of_same (.of_status rfl rfl rfl rfl)
    · exact h.2
  cameraAnswer s p accept h := ⟨h.1.cameraAnswer p accept, h.2.cameraAnswer p accept⟩
  readByte s p b h := ⟨h.1.readByte p b, h.2.readByte p b⟩
  stepTimerExpiry s p h := ⟨h.1.stepTimerExpiry p, h.2.stepTimerExpiry p⟩
  stopMarkSent s p h := ⟨h.1.stopMarkSent p, h.2.stopMarkSent p⟩
  pageWriteComplete s h := ⟨keptByCommands_channelsConsistent.pageWriteComplete s h.1, h.2.pageWriteComplete⟩
  writeTimerExpiry s h := ⟨keptByCommands_channelsConsistent.writeTimerExpiry s h.1, h.2.writeTimerExpiry⟩
  storeReadComplete s answered h :=
    ⟨keptByCommands_channelsConsistent.storeReadComplete s answered h.1, h.2.storeReadComplete answered⟩
  bootWaitExpiry s h := by
    refine ⟨keptByCommands_channelsConsistent.bootWaitExpiry s h.1, ?_⟩
    unfold State.bootWaitExpiry
    split
    · exact h.2.of_same (.of_store rfl rfl rfl rfl)
    · exact h.2
  bootHeaderRead s answered h :=
    ⟨keptByCommands_channelsConsistent.bootHeaderRead s answered h.1, h.2.of_same (.bootHeaderRead s answered)⟩
  bootEntryRead s answered h :=
    ⟨keptByCommands_channelsConsistent.bootEntryRead s answered h.1, h.2.of_same (.bootEntryRead s answered)⟩

/-- Settles O9: every command keeps the books, so every step does. -/
theorem everyStepKeepsResponsesAccounted : Obligations.EveryStepKeepsResponsesAccounted := fun s t hc h e =>
  (responsesAccounted_iff t).mpr (keptByCommands_accounted.step s t ⟨hc, (responsesAccounted_iff s).mp h⟩ e).2

end Sys2Proof.Machine
end

section
/-! SUPPORT. Encodings read back: the CRC-16 behind a record, the fields of a payload, and the command that a request
is (R157, R160, R170). -/

namespace Sys2Proof.Machine

/-! ## Numbers of several bytes and CRC-16 (R170) -/

theorem u16At_append (pre bs : List Byte) : u16At (pre ++ bs) pre.length = u16At bs 0 := by
  simpa using (u16At_drop (pre ++ bs) pre.length 0).symm

theorem u32At_be32 {n : Nat} (h : n < 4294967296) (bs : List Byte) : u32At (be32 n ++ bs) 0 = n := by
  have hhigh : u16At (be32 n ++ bs) 0 = n / 65536 := by
    rw [be32, List.append_assoc, u16At_be16 (by omega)]
  have hlow : u16At (be32 n ++ bs) 2 = n % 65536 := by
    have h2 : be16 n = be16 (n % 65536) := by
      have h8 : BitVec.ofNat 8 (n / 256) = BitVec.ofNat 8 (n % 65536 / 256) :=
        BitVec.eq_of_toNat_eq (by rw [BitVec.toNat_ofNat, BitVec.toNat_ofNat]; omega)
      have h0 : BitVec.ofNat 8 n = BitVec.ofNat 8 (n % 65536) :=
        BitVec.eq_of_toNat_eq (by rw [BitVec.toNat_ofNat, BitVec.toNat_ofNat]; omega)
      rw [be16, be16, h8, h0]
    rw [be32, List.append_assoc, h2]
    exact (u16At_append (be16 (n / 65536)) _).trans (u16At_be16 (by omega) bs)
  rw [u32At, hhigh, hlow]
  omega

theorem u32At_append (pre bs : List Byte) : u32At (pre ++ bs) pre.length = u32At bs 0 := by
  have h := u16At_drop (pre ++ bs) pre.length 2
  rw [List.drop_left] at h
  rw [u32At, u32At, u16At_append, h]

theorem ofNat_u16At_be16 (pre : List Byte) (x : BitVec 16) (bs : List Byte) :
    BitVec.ofNat 16 (u16At (pre ++ (be16 x.toNat ++ bs)) pre.length) = x := by
  rw [u16At_append, u16At_be16 x.isLt, BitVec.ofNat_toNat, BitVec.setWidth_eq]

theorem ofNat_u32At_be32 (pre : List Byte) (x : BitVec 32) (bs : List Byte) :
    BitVec.ofNat 32 (u32At (pre ++ (be32 x.toNat ++ bs)) pre.length) = x := by
  rw [u32At_append, u32At_be32 x.isLt, BitVec.ofNat_toNat, BitVec.setWidth_eq]

theorem mask24At_mask24Bytes (m : BitVec 24) : mask24At (mask24Bytes m) 0 = m := by
  change m.extractLsb' 16 8 ++ m.extractLsb' 8 8 ++ m.extractLsb' 0 8 = m
  ext i hi
  simp only [BitVec.getElem_append, BitVec.getElem_extractLsb']
  split
  · simp [BitVec.getLsbD_eq_getElem hi]
  · split
    · rw [show 8 + (i - 8) = i by omega, BitVec.getLsbD_eq_getElem hi]
    · rw [show 16 + (i - 8 - 8) = i by omega, BitVec.getLsbD_eq_getElem hi]

/-- A record's own CRC-16 matches, and what stands before it is the record (R157, R170). -/
theorem crc16Matches_withCrc16 (bs : List Byte) : crc16Matches (withCrc16 bs) = true := by
  have hlen : (withCrc16 bs).length = bs.length + 2 := List.length_append
  have hcrc : u16At (withCrc16 bs) bs.length = (crc16 bs).toNat := by
    rw [withCrc16, u16At_append]
    exact u16At_be16 (crc16 bs).isLt []
  have hbody : (withCrc16 bs).take bs.length = bs := List.take_left' rfl
  simp [crc16Matches, hlen, hcrc, hbody]

/-! ## Payloads (R160) -/

theorem Parsed.ofLength_of {c : Bool} (hc : c = true) {q r : Req} (h : q = r) : Parsed.ofLength c q = .ok r :=
  (Parsed.ofLength_eq_ok c q r).mpr ⟨hc, h⟩

/-- Every request whose byte lists have the lengths its kind allows reads back as itself. -/
theorem parseRequest_payload (q : Req) (hf : q.fits = true) : parseRequest q.kind q.payload = .ok q := by
  cases q with
  | loadBegin table slot camera total crc =>
    have h16 := ofNat_u16At_be16 [table, slot, camera] total (be32 crc.toNat)
    have h32 := ofNat_u32At_be32 ([table, slot, camera] ++ be16 total.toNat) crc []
    rw [List.append_nil] at h32
    exact Parsed.ofLength_of rfl (congrArg₂ (Req.loadBegin table slot camera)
      ((congrArg (fun l => BitVec.ofNat 16 (u16At l 3)) (List.append_assoc _ _ _)).trans h16) h32)
  | loadData segment data =>
    have hlen : data.length ≤ 48 := of_decide_eq_true hf
    refine Parsed.ofLength_of ?_ (congrArg (Req.loadData · data) (ofNat_u16At_be16 [] segment data))
    simp [Req.payload, be16]
    omega
  | tableRead table slot camera offset length =>
    exact Parsed.ofLength_of rfl (congrArg (Req.tableRead table slot camera · length)
      (ofNat_u16At_be16 [table, slot, camera] offset [length]))
  | elementWrite index record =>
    have hlen : record.length = 32 := of_decide_eq_true hf
    exact Parsed.ofLength_of (by simp [Req.payload, hlen]) rfl
  | camXfer camera device direction register count data =>
    exact parseRequest_camXfer camera device direction register count (of_decide_eq_true hf)
  | storeWrite offset data =>
    have hlen : data.length = 32 := of_decide_eq_true hf
    refine Parsed.ofLength_of ?_ (congrArg (Req.storeWrite · data) (ofNat_u16At_be16 [] offset data))
    simp [Req.payload, be16, hlen]
  | storeRead offset => exact Parsed.ofLength_of rfl (congrArg Req.storeRead (ofNat_u16At_be16 [] offset []))
  | eventEnable mask => exact Parsed.ofLength_of rfl (congrArg Req.eventEnable (mask24At_mask24Bytes mask))
  | eventAck mask => exact Parsed.ofLength_of rfl (congrArg Req.eventAck (mask24At_mask24Bytes mask))
  | _ => rfl

theorem Req.payload_length_le (q : Req) (hf : q.fits = true) : q.payload.length ≤ 56 := by
  cases q with
  | loadData segment data =>
    have hlen : data.length ≤ 48 := of_decide_eq_true hf
    simp [Req.payload, be16]
    omega
  | elementWrite index record =>
    have hlen : record.length = 32 := of_decide_eq_true hf
    simp [Req.payload, hlen]
  | camXfer camera device direction register count data =>
    have hlen : data.length ≤ 16 := of_decide_eq_true hf
    simp [Req.payload, be16]
    omega
  | storeWrite offset data =>
    have hlen : data.length = 32 := of_decide_eq_true hf
    simp [Req.payload, be16, hlen]
  | _ => simp [Req.payload, be16, be32, mask24Bytes]

/-! ## Commands and records -/

/-- A request's command offers the request to the queue. -/
theorem exec_of_command {q : Req} {tag : Byte} {c : Instr} (h : q.command tag = some c) (s : State) :
    exec c s = .next (s.submit (q.toRequest tag)) := by
  cases q with
  | reset what =>
    rw [Req.command] at h
    split at h
    · next h0 => subst h0; cases h; rfl
    · split at h
      · next h1 => subst h1; cases h; rfl
      · cases h
  | _ => cases h; rfl

/-- A request taken at once reaches its owner with a place reserved for it. -/
theorem exec_taken_of_command {q : Req} {tag : Byte} {c : Instr} (hf : q.fits = true) (h : q.command tag = some c)
    {s : State} (hs : s.takesAtOnce) : exec c s = .next (s.withPlace.serveReq ⟨tag, q.kind⟩ q) := by
  rw [exec_of_command h, s.submit_takesAtOnce (q.toRequest tag) hs (q.payload_length_le hf),
    State.serve_of_parse _ _ q (parseRequest_payload q hf)]
  rfl

/-- A request record of at most 56 bytes of payload that arrives whole is the request it was made of (R157, R170). -/
theorem requestOfRecord_record (r : Request) (h : r.payload.length ≤ 56) : requestOfRecord r.record = some r := by
  have hlen : r.record.length = 6 + r.payload.length := by
    simp [Request.record, withCrc16, be16]
    omega
  have hthree : byteAt r.record 3 = r.payload.length := by
    change (BitVec.ofNat 8 r.payload.length).toNat = _
    rw [BitVec.toNat_ofNat]
    omega
  have hslice : sliceOf r.record 4 r.payload.length = r.payload := List.take_left' rfl
  have hmatch : crc16Matches r.record = true := crc16Matches_withCrc16 _
  rw [requestOfRecord, if_pos ⟨rfl, hthree.trans_le h, hlen.trans (by rw [hthree]), hmatch⟩, hthree, hslice]
  rfl

theorem State.receiveRecord_record (s : State) (r : Request) (h : r.payload.length ≤ 56) :
    s.receiveRecord r.record = s.submit r := by
  have hhead : r.record.head? ≠ some 0x02 := by simp [Request.record, withCrc16]
  rw [State.receiveRecord, if_neg hhead, requestOfRecord_record r h]

/-- Settles O16. -/
theorem requestEncodingRoundTrips : Obligations.RequestEncodingRoundTrips := by
  refine ⟨parseRequest_payload, fun q tag c s hf hc => ?_⟩
  have hrecord : exec (.requestRecord (q.toRequest tag).record) s = .next (s.submit (q.toRequest tag)) :=
    congrArg Host.Outcome.next (s.receiveRecord_record _ (q.payload_length_le hf))
  exact ⟨hrecord.trans (exec_of_command hc s).symm, _, hrecord⟩

end Sys2Proof.Machine
end

section
/-! PROOF. Loads, TABLE-READ and the event masks (R161 to R167). -/

namespace Sys2Proof.Machine

variable {s : State}

/-! ## The guard of a layout slot (R29, R32) -/

theorem State.slotGuarded_eq_true {i : Fin 4} (h : s.isBound i = true ∨ s.layouts.inUse = some i) :
    s.slotGuarded i = true := by
  simpa [State.slotGuarded] using h

theorem State.slotGuarded_eq_false {i : Fin 4} (h : s.isBound i = false ∧ s.layouts.inUse ≠ some i) :
    s.slotGuarded i = false := by
  simpa [State.slotGuarded] using h

/-- A request answered with the load context it leaves, its reserved place used up (R159). -/
theorem State.withPlace_load_answerWith (s : State) (l : LoadContext) (t : Ticket) (r : Result) (data : List Byte) :
    ({ s.withPlace with mgmt.load := l } : State).answerWith t r data =
      ({ s with mgmt.load := l } : State).responded t.tag t.kind r data :=
  State.withPlace_answerWith { s with mgmt.load := l } t r data

/-! ## LOAD-BEGIN (R162) -/

section loadBegin

variable {table slot camera : Byte} {total : BitVec 16} {d : TableLoad} (t : Ticket) (crc : BitVec 32)

theorem State.serveLoadBegin_of_busy (h : s.mgmt.load.st ≠ .idle ∨ s.store.boot.status = .running) :
    s.serveLoadBegin t table slot camera total crc = s.answer t .busy := if_pos h

theorem State.serveLoadBegin_of_no_dest (h : s.mgmt.load.st = .idle) (hb : s.store.boot.status ≠ .running)
    (hd : destOf table slot camera = none) :
    s.serveLoadBegin t table slot camera total crc = s.answer t .badArgument := by
  simp [State.serveLoadBegin, h, hb, hd]

theorem State.serveLoadBegin_of_long (h : s.mgmt.load.st = .idle) (hb : s.store.boot.status ≠ .running)
    (hd : destOf table slot camera = some d) (hl : 16384 < total.toNat ∨ d.table.limit < total.toNat) :
    s.serveLoadBegin t table slot camera total crc = s.answer t .badArgument := by
  simp [State.serveLoadBegin, h, hb, hd, Config.loadBuffer, hl]

theorem State.serveLoadBegin_of_guarded (h : s.mgmt.load.st = .idle) (hb : s.store.boot.status ≠ .running)
    (hd : destOf table slot camera = some d) (hl : total.toNat ≤ 16384 ∧ total.toNat ≤ d.table.limit)
    (hg : d.table.isLayout = true ∧ s.slotGuarded d.slot = true) :
    s.serveLoadBegin t table slot camera total crc = s.answer t .inUse := by
  simp [State.serveLoadBegin, h, hb, hd, Config.loadBuffer, Nat.not_lt.mpr hl.1, Nat.not_lt.mpr hl.2, hg]

theorem State.serveLoadBegin_opens (h : s.mgmt.load.st = .idle) (hb : s.store.boot.status ≠ .running)
    (hd : destOf table slot camera = some d) (hl : total.toNat ≤ 16384 ∧ total.toNat ≤ d.table.limit)
    (hg : d.table.isLayout = true → s.slotGuarded d.slot = false) :
    s.serveLoadBegin t table slot camera total crc =
      ({ s with mgmt.load := LoadContext.open_ d total.toNat crc } : State).answer t .done := by
  have hguard : ¬(d.table.isLayout = true ∧ s.slotGuarded d.slot = true) := fun ⟨h1, h2⟩ => by simp [hg h1] at h2
  simp [State.serveLoadBegin, h, hb, hd, Config.loadBuffer, Nat.not_lt.mpr hl.1, Nat.not_lt.mpr hl.2, hguard]

end loadBegin

/-- No table is larger than the load buffer (R162, formats section). -/
theorem Table.limit_le (t : Table) : t.limit ≤ 16384 := by cases t <;> decide

/-! ## LOAD-DATA, LOAD-END and LOAD-ABORT (R163 to R165) -/

theorem State.serveLoadData_of_not_opened (t : Ticket) (segment : BitVec 16) (data : List Byte)
    (h : s.mgmt.load.st ≠ .opened) : s.serveLoadData t segment data = s.answer t .noLoad := if_pos h

theorem State.serveLoadData_of_wrong (t : Ticket) {segment : BitVec 16} {data : List Byte}
    (h : s.mgmt.load.st = .opened) (hw : segment.toNat ≠ s.mgmt.load.nextSeg ∨
      s.mgmt.load.total < s.mgmt.load.dest.content.length + data.length) :
    s.serveLoadData t segment data = s.closeLoad.answer t .sequence := by
  rw [State.serveLoadData, if_neg (not_not.mpr h), if_pos hw]

theorem State.serveLoadData_accepts (t : Ticket) {segment : BitVec 16} {data : List Byte}
    (h : s.mgmt.load.st = .opened) (hseg : segment.toNat = s.mgmt.load.nextSeg)
    (hlen : s.mgmt.load.dest.content.length + data.length ≤ s.mgmt.load.total) :
    s.serveLoadData t segment data =
      ({ s with mgmt.load := s.mgmt.load.accept data } : State).answer t .done := by
  rw [State.serveLoadData, if_neg (not_not.mpr h), if_neg (by omega)]

theorem State.serveLoadEnd_of_not_opened (t : Ticket) (h : s.mgmt.load.st ≠ .opened) :
    s.serveLoadEnd t = s.answer t .noLoad := if_pos h

/-- The answer of a LOAD-END whose tests fail; a test passed has none (R164). -/
def LoadVerdict.refusal : LoadVerdict → Option (Result × List Byte)
  | .sequence => some (.sequence, [])
  | .badCrc => some (.badCrc, [])
  | .badContent i => some (.badContent, be16 i)
  | .inUse => some (.inUse, [])
  | .passes => none

/-- A LOAD-END that fails a test ends the load and is answered with that test's result. -/
theorem State.serveLoadEnd_of_refusal (t : Ticket) (h : s.mgmt.load.st = .opened) {r : Result} {data : List Byte}
    (hv : s.loadVerdict.refusal = some (r, data)) : s.serveLoadEnd t = s.closeLoad.answerWith t r data := by
  rw [State.serveLoadEnd, if_neg (not_not.mpr h)]
  cases hl : s.loadVerdict <;> rw [hl] at hv <;> cases hv <;> rfl

theorem State.serveLoadAbort_of_not_opened (t : Ticket) (h : s.mgmt.load.st ≠ .opened) :
    s.serveLoadAbort t = s.answer t .noLoad := if_neg h

theorem State.serveLoadAbort_of_opened (t : Ticket) (h : s.mgmt.load.st = .opened) :
    s.serveLoadAbort t = s.closeLoad.answer t .done := if_pos h

/-! ## The verdict's order (R164) -/

section verdict

theorem State.loadVerdict_of_short (h : s.mgmt.load.dest.content.length < s.mgmt.load.total) :
    s.loadVerdict = .sequence := if_pos h

variable (hlen : s.mgmt.load.total ≤ s.mgmt.load.dest.content.length)
include hlen

theorem State.loadVerdict_of_bad_crc (h : crc32 s.mgmt.load.dest.content ≠ s.mgmt.load.crc) :
    s.loadVerdict = .badCrc := by
  rw [State.loadVerdict, if_neg (Nat.not_lt.mpr hlen), if_pos h]

variable (hcrc : crc32 s.mgmt.load.dest.content = s.mgmt.load.crc)
include hcrc

theorem State.loadVerdict_of_bad_content {i : Nat}
    (h : contentCheck s.mgmt.load.dest.table s.mgmt.load.dest.content = some i) :
    s.loadVerdict = .badContent i := by
  rw [State.loadVerdict, if_neg (Nat.not_lt.mpr hlen), if_neg (not_not.mpr hcrc), h]

theorem State.loadVerdict_of_guarded (h : contentCheck s.mgmt.load.dest.table s.mgmt.load.dest.content = none)
    (hl : s.mgmt.load.dest.table.isLayout = true) (hg : s.slotGuarded s.mgmt.load.dest.slot = true) :
    s.loadVerdict = .inUse := by
  rw [State.loadVerdict, if_neg (Nat.not_lt.mpr hlen), if_neg (not_not.mpr hcrc), h]
  exact if_pos ⟨hl, hg⟩

end verdict

/-! ## O19 and O21 -/

section taken

variable (hs : s.takesAtOnce) (tag : Byte)
include hs

theorem exec_loadBegin (table slot camera : Byte) (total : BitVec 16) (crc : BitVec 32) :
    exec (.loadBegin tag table slot camera total crc) s =
      .next (s.withPlace.serveLoadBegin ⟨tag, 0x01⟩ table slot camera total crc) :=
  exec_taken_of_command (q := .loadBegin table slot camera total crc) rfl rfl hs

theorem exec_loadData (segment : BitVec 16) {data : List Byte} (h : data.length ≤ 48) :
    exec (.loadData tag segment data) s = .next (s.withPlace.serveLoadData ⟨tag, 0x02⟩ segment data) :=
  exec_taken_of_command (q := .loadData segment data) (decide_eq_true h) rfl hs

theorem exec_loadAbort : exec (.loadAbort tag) s = .next (s.withPlace.serveLoadAbort ⟨tag, 0x04⟩) :=
  exec_taken_of_command (q := .loadAbort) rfl rfl hs

end taken

theorem exec_loadTimerExpiry_of_running {n : Nat} (h : s.mgmt.load.st = .opened) (ht : s.mgmt.load.timer = .running n) :
    exec .loadTimerExpiry s = .next (s.closeLoad.raise evLoadFailed) := by
  have hcond : s.mgmt.load.st = .opened ∧ s.mgmt.load.timer.isRunning = true := ⟨h, by rw [ht]; rfl⟩
  exact congrArg Host.Outcome.next (if_pos hcond)

/-- Settles O19. -/
theorem loadsOpenGrowAndEnd : Obligations.LoadsOpenGrowAndEnd := by
  refine ⟨fun tag s hs => ⟨fun table slot camera total crc d hi hb hd hbuf hlim hfree => ?_,
    fun segment data ho hlen hseg htotal => ?_, fun ho => ?_⟩, fun s n ho ht => exec_loadTimerExpiry_of_running ho ht⟩
  · rw [exec_loadBegin hs, State.serveLoadBegin_opens (s := s.withPlace) _ crc hi hb hd ⟨hbuf, hlim⟩
      fun hl => State.slotGuarded_eq_false (hfree hl)]
    exact congrArg _ (s.withPlace_load_answerWith _ _ .done [])
  · rw [exec_loadData hs tag segment hlen, State.serveLoadData_accepts (s := s.withPlace) _ ho hseg htotal]
    exact congrArg _ (s.withPlace_load_answerWith _ _ .done [])
  · rw [exec_loadAbort hs tag, State.serveLoadAbort_of_opened (s := s.withPlace) _ ho]
    exact congrArg _ (s.withPlace_load_answerWith _ _ .done [])

/-- A LOAD-END taken at once that fails a test: the load ends, the target unchanged. -/
theorem exec_loadEnd_of_refusal (hs : s.takesAtOnce) (tag : Byte) (ho : s.mgmt.load.st = .opened) {r : Result}
    {data : List Byte} (hv : s.withPlace.loadVerdict.refusal = some (r, data)) : exec (.loadEnd tag) s =
      .next (({ s with mgmt.load := LoadContext.idle } : State).responded tag 0x03 r data) := by
  rw [exec_loadEnd tag hs]
  exact congrArg _ ((State.serveLoadEnd_of_refusal (s := s.withPlace) _ ho hv).trans
    (s.withPlace_load_answerWith _ _ r data))

/-- Settles O21, LOAD-BEGIN by its tests, the other three outside OPEN and in it. -/
theorem loadRefusalsFollowTheirOrder : Obligations.LoadRefusalsFollowTheirOrder := by
  intro tag s hs
  refine ⟨fun table slot camera total crc => ⟨fun hbusy => ?_, fun hi hb => ⟨fun hd => ?_, fun d hd => ⟨fun hlong => ?_,
    fun hlen hl hg => ?_⟩⟩⟩, fun hno => ⟨fun segment data hlen => ?_, ?_, ?_⟩, fun ho => ⟨fun segment data hlen hw => ?_,
    fun hshort => ?_, fun hlen => ⟨fun hcrc => ?_, fun hcrc => ⟨fun i hbad => ?_, fun hok hl hg => ?_⟩⟩⟩⟩
  · rw [exec_loadBegin hs, State.serveLoadBegin_of_busy (s := s.withPlace) _ crc hbusy]
    exact congrArg _ (s.withPlace_answerWith _ .busy [])
  · rw [exec_loadBegin hs, State.serveLoadBegin_of_no_dest (s := s.withPlace) _ crc hi hb hd]
    exact congrArg _ (s.withPlace_answerWith _ .badArgument [])
  · rw [exec_loadBegin hs, State.serveLoadBegin_of_long (s := s.withPlace) _ crc hi hb hd (Or.inr hlong)]
    exact congrArg _ (s.withPlace_answerWith _ .badArgument [])
  · rw [exec_loadBegin hs, State.serveLoadBegin_of_guarded (s := s.withPlace) _ crc hi hb hd
      ⟨hlen.trans d.table.limit_le, hlen⟩ ⟨hl, State.slotGuarded_eq_true hg⟩]
    exact congrArg _ (s.withPlace_answerWith _ .inUse [])
  · rw [exec_loadData hs tag segment hlen, State.serveLoadData_of_not_opened (s := s.withPlace) _ _ _ hno]
    exact congrArg _ (s.withPlace_answerWith _ .noLoad [])
  · rw [exec_loadEnd tag hs]
    exact congrArg _ ((State.serveLoadEnd_of_not_opened (s := s.withPlace) _ hno).trans
      (s.withPlace_answerWith _ .noLoad []))
  · rw [exec_loadAbort hs tag, State.serveLoadAbort_of_not_opened (s := s.withPlace) _ hno]
    exact congrArg _ (s.withPlace_answerWith _ .noLoad [])
  · rw [exec_loadData hs tag segment hlen, State.serveLoadData_of_wrong (s := s.withPlace) _ ho hw]
    exact congrArg _ (s.withPlace_load_answerWith _ _ .sequence [])
  · exact exec_loadEnd_of_refusal hs tag ho (by rw [State.loadVerdict_of_short (s := s.withPlace) hshort]; rfl)
  · exact exec_loadEnd_of_refusal hs tag ho (by rw [State.loadVerdict_of_bad_crc (s := s.withPlace) hlen hcrc]; rfl)
  · exact exec_loadEnd_of_refusal hs tag ho
      (by rw [State.loadVerdict_of_bad_content (s := s.withPlace) hlen hcrc hbad]; rfl)
  · exact exec_loadEnd_of_refusal hs tag ho (by
      rw [State.loadVerdict_of_guarded (s := s.withPlace) hlen hcrc hok hl (State.slotGuarded_eq_true hg)]; rfl)

/-! ## O23: TABLE-READ (R161) -/

section tableRead

variable {table slot camera length : Byte} {offset : BitVec 16} {d : TableLoad} (t : Ticket)

theorem State.serveTableRead_of_no_dest (hd : destOf table slot camera = none) :
    s.serveTableRead t table slot camera offset length = s.answer t .badArgument := by
  rw [State.serveTableRead, hd]

variable (hd : destOf table slot camera = some d)
include hd

/-- A length outside 1..24, or a read past the present length. -/
theorem State.serveTableRead_of_bad_range
    (h : length.toNat < 1 ∨ 24 < length.toNat ∨ s.presentLength d < offset.toNat + length.toNat) :
    s.serveTableRead t table slot camera offset length = s.answer t .badArgument := by
  rw [State.serveTableRead, hd]
  exact if_pos h

theorem State.serveTableRead_of_range
    (h : ¬(length.toNat < 1 ∨ 24 < length.toNat ∨ s.presentLength d < offset.toNat + length.toNat)) :
    s.serveTableRead t table slot camera offset length =
      match s.tableContent d with
      | none => s.answer t .notReady
      | some bs => s.answerWith t .done (sliceOf bs offset.toNat length.toNat) := by
  rw [State.serveTableRead, hd]
  exact if_neg h

end tableRead

theorem exec_tableRead (hs : s.takesAtOnce) (tag table slot camera : Byte) (offset : BitVec 16) (length : Byte) :
    exec (.tableRead tag table slot camera offset length) s =
      .next (s.withPlace.serveTableRead ⟨tag, 0x05⟩ table slot camera offset length) :=
  exec_taken_of_command (q := .tableRead table slot camera offset length) rfl rfl hs

theorem State.withPlace_tableContent (d : TableLoad) : s.withPlace.tableContent d = s.tableContent d := rfl

theorem State.presentLength_of_some {d : TableLoad} {bs : List Byte} (h : s.tableContent d = some bs) :
    s.presentLength d = bs.length := by
  rw [State.presentLength, h]

theorem State.presentLength_of_none {d : TableLoad} (h : s.tableContent d = none) :
    s.presentLength d = d.table.limit := by
  rw [State.presentLength, h]

/-- Settles O23. -/
theorem tableReadAnswersTheBytesInForce : Obligations.TableReadAnswersTheBytesInForce := by
  intro tag table slot camera offset length s hs
  rw [exec_tableRead hs]
  have hrefused (r : Result) : s.withPlace.answer ⟨tag, 0x05⟩ r = s.responded tag 0x05 r [] :=
    s.withPlace_answerWith _ r []
  refine ⟨fun hd => ?_, fun d hd => ⟨fun hlen => ?_, fun hone hmost => ⟨fun bs hbs => ⟨fun hin => ?_, fun hout => ?_⟩,
    fun hnone hin => ?_⟩⟩⟩
  · rw [State.serveTableRead_of_no_dest _ hd, hrefused]
  · rw [State.serveTableRead_of_bad_range _ hd (by omega), hrefused]
  · have hp := State.presentLength_of_some (s := s.withPlace) hbs
    rw [State.serveTableRead_of_range _ hd (by omega), State.withPlace_tableContent, hbs]
    exact congrArg _ (s.withPlace_answerWith _ .done _)
  · have hp := State.presentLength_of_some (s := s.withPlace) hbs
    rw [State.serveTableRead_of_bad_range _ hd (by omega), hrefused]
  · have hp := State.presentLength_of_none (s := s.withPlace) hnone
    rw [State.serveTableRead_of_range _ hd (by omega), State.withPlace_tableContent, hnone]
    exact congrArg _ (hrefused .notReady)

/-! ## O24: EVENT-ENABLE and EVENT-ACK (R166, R167) -/

theorem State.raise_status_self {e : Nat} (h : e < 24) : (s.raise e).mgmt.status.getLsbD e = true := by
  simp [State.raise, eventBit, h]

theorem exec_eventEnable (hs : s.takesAtOnce) (tag : Byte) (m : BitVec 24) : exec (.eventEnable tag m) s =
    .next (({ s with mgmt.enable := m } : State).responded tag 0x50 .done []) :=
  (exec_taken_of_command (q := .eventEnable m) rfl rfl hs).trans
    (congrArg _ (State.withPlace_answerWith { s with mgmt.enable := m } _ .done []))

theorem exec_eventAck (hs : s.takesAtOnce) (tag : Byte) (m : BitVec 24) : exec (.eventAck tag m) s =
    .next (({ s with mgmt.status := s.mgmt.status &&& ~~~m } : State).responded tag 0x51 .done []) :=
  (exec_taken_of_command (q := .eventAck m) rfl rfl hs).trans
    (congrArg _ (State.withPlace_answerWith { s with mgmt.status := s.mgmt.status &&& ~~~m } _ .done []))

/-- Settles O24. -/
theorem eventEnableAndAckActOnTheirMasks : Obligations.EventEnableAndAckActOnTheirMasks := by
  intro tag m s hs
  refine ⟨⟨_, exec_eventEnable hs tag m, rfl,
      (State.attentionFlag_iff (({ s with mgmt.enable := m } : State).responded tag 0x50 .done [])).symm⟩,
    ⟨_, exec_eventAck hs tag m, rfl, fun e he => ?_, fun h0 => ?_, fun e he => State.raise_status_self he⟩,
    fun e he hm => ⟨_, exec_eventAck (s := s.raise e) hs tag m, ?_⟩⟩
  · simp [State.responded, he]
  · subst h0
    exact BitVec.and_allOnes
  · simp [State.responded, hm]

end Sys2Proof.Machine
end

section
/-! PROOF. The header block and the lines that carry it (R152, R171). -/

namespace Sys2Proof.Machine

/-! ## The block (R152, formats section) -/

theorem Response.bytes_length (r : Response) : r.bytes.length = 4 + r.data.length := by
  simp [Response.bytes]
  omega

theorem CamHeader.bytes_length (c : CamHeader) : c.bytes.length = 9 := rfl

theorem Header.body_length (h : Header) :
    h.body.length = 64 + (h.responses.map fun r => 4 + r.data.length).sum := by
  simp only [Header.body, be32, be16, mask24Bytes, List.length_append, List.length_cons, List.length_nil,
    CamHeader.bytes_length, List.length_flatMap, Response.bytes_length]

/-- Eight responses of 24 bytes fill 224 bytes behind the block's 64 (R151, R152). -/
theorem Header.block_length_le (h : Header) (hn : h.responses.length ≤ 8)
    (hd : ∀ r ∈ h.responses, r.data.length ≤ 24) : h.block.length ≤ 290 := by
  have hsum : (h.responses.map fun r => 4 + r.data.length).sum ≤ h.responses.length * 28 := by
    have := List.sum_le_card_nsmul (h.responses.map fun r => 4 + r.data.length) 28 fun n hmem => by
      obtain ⟨r, hr, rfl⟩ := List.mem_map.mp hmem
      have := hd r hr
      omega
    simpa using this
  have hlen : h.block.length = h.body.length + 2 := List.length_append
  have hbody := h.body_length
  omega

/-- The four bytes that every block begins with (formats section). -/
theorem Header.block_take_four (h : Header) : h.block.take 4 = [0xC3, 0x5A, 0x41, 0x16] := by
  simp only [Header.block, withCrc16, Header.body, List.append_assoc, List.cons_append, List.take_succ_cons,
    List.take_zero]

/-! ## The lines (R171) -/

/-- A luma is black past the block, and otherwise the code of four bits of one of its bytes. -/
theorem headerLuma_cases (block : List Byte) (k : Nat) : headerLuma block k = 16 ∨
    ∃ v < 16, headerLuma block k = 16 + 12 * v := by
  unfold headerLuma
  cases block[k / 2]? with
  | none => exact .inl rfl
  | some b =>
    have hb := b.isLt
    dsimp only
    split
    · exact .inr ⟨b.toNat / 16, by omega, rfl⟩
    · exact .inr ⟨b.toNat % 16, by omega, rfl⟩

theorem headerLuma_range (block : List Byte) (k : Nat) : 16 ≤ headerLuma block k ∧ headerLuma block k ≤ 196 := by
  obtain h | ⟨v, hv, h⟩ := headerLuma_cases block k <;> omega

theorem headerLuma_past {block : List Byte} {k : Nat} (h : 2 * block.length ≤ k) : headerLuma block k = 16 := by
  rw [headerLuma, List.getElem?_eq_none (by omega)]

variable {block : List Byte} {k : Nat}

theorem getElem?_eq_byte (h : k < block.length) : ∃ b : Byte, block[k]? = some b ∧ byteAt block k = b.toNat :=
  ⟨block[k], List.getElem?_eq_getElem h, by rw [byteAt, List.getD_eq_getElem _ _ h]⟩

theorem headerLuma_even (h : k < block.length) : headerLuma block (2 * k) = 16 + 12 * (byteAt block k / 16) := by
  obtain ⟨b, hget, hbyte⟩ := getElem?_eq_byte h
  rw [headerLuma, Nat.mul_div_cancel_left k two_pos, hget, hbyte]
  exact if_pos (Nat.mul_mod_right 2 k)

theorem headerLuma_odd (h : k < block.length) : headerLuma block (2 * k + 1) = 16 + 12 * (byteAt block k % 16) := by
  obtain ⟨b, hget, hbyte⟩ := getElem?_eq_byte h
  rw [headerLuma, show (2 * k + 1) / 2 = k by omega, hget, hbyte]
  exact if_neg (by omega)

theorem State.headerSample_luma (s : State) (line x : Nat) :
    (s.headerSample line x).luma = headerLuma s.tx.header.block (1024 * line + x) := rfl

/-- Settles O14. -/
theorem headerLinesCarryTheHeaderBlock : Obligations.HeaderLinesCarryTheHeaderBlock := by
  refine ⟨fun h => ⟨crc16Matches_withCrc16 h.body, h.block_take_four, h.block_length_le⟩, fun s line x hline hx => ?_⟩
  rw [State.headerSample_luma]
  obtain ⟨hleast, hmost⟩ := headerLuma_range s.tx.header.block (1024 * line + x)
  refine ⟨rfl, hleast, hmost, fun k hk hlt => ?_, fun k hk hlt => ?_, headerLuma_past⟩
  · rw [hk, headerLuma_even hlt]
  · rw [hk, headerLuma_odd hlt]

end Sys2Proof.Machine
end

section
/-! PROOF. Records that are discarded, and requests that reach no owner (R157, R160, R168). -/

namespace Sys2Proof.Machine

/-! ## Records (R157) -/

/-- A record of another type than 0x02 in which no request is found is discarded and counted. -/
theorem State.receiveRecord_of_none (s : State) {bytes : List Byte} (h2 : bytes.head? ≠ some 0x02)
    (h : requestOfRecord bytes = none) : s.receiveRecord bytes = s.loseRequest := by
  rw [State.receiveRecord, if_neg h2, h]

theorem head?_eq_of_byteAt {bytes : List Byte} (h : byteAt bytes 0 = 0x01) : bytes.head? = some 0x01 := by
  cases bytes with
  | nil => cases h
  | cons b bs => exact congrArg some (BitVec.eq_of_toNat_eq h)

/-- The four tests that a request record has to pass. -/
theorem requestOfRecord_eq_none {bytes : List Byte}
    (h : bytes.head? ≠ some 0x01 ∨ 56 < byteAt bytes 3 ∨ bytes.length ≠ 6 + byteAt bytes 3 ∨
      u16At bytes (bytes.length - 2) ≠ (crc16 (bytes.take (bytes.length - 2))).toNat) :
    requestOfRecord bytes = none := by
  refine if_neg fun ⟨htype, hpay, hlen, hcrc⟩ => ?_
  simp only [crc16Matches, Bool.and_eq_true, decide_eq_true_eq] at hcrc
  obtain h | h | h | h := h
  · exact h (head?_eq_of_byteAt htype)
  · exact absurd hpay (Nat.not_le.mpr h)
  · exact h hlen
  · exact h hcrc.2

/-! ## Kinds and lengths (R160, formats section) -/

/-- The kind codes of the formats section, each with the least and the greatest length of its payload. -/
def payloadLengths : List (Nat × Nat × Nat) :=
  [(0x01, 9, 9), (0x02, 2, 50), (0x03, 0, 0), (0x04, 0, 0), (0x05, 6, 6), (0x10, 2, 2), (0x11, 1, 1), (0x12, 0, 0),
    (0x20, 33, 33), (0x21, 1, 1), (0x30, 6, 22), (0x40, 7, 7), (0x41, 1, 1), (0x42, 1, 1), (0x50, 3, 3), (0x51, 3, 3),
    (0x60, 34, 34), (0x61, 2, 2), (0x70, 1, 1)]

theorem parseRequest_of_unlisted {kind : Byte} (h : kind.toNat ∉ listedKinds) (p : List Byte) :
    parseRequest kind p = .unknownKind := by
  unfold parseRequest
  split
  case h_20 => rfl
  all_goals next hk => exact absurd (hk ▸ by decide) h

/-- A payload of a listed kind is read where its length lies in the kind's range, and has a bad length otherwise. -/
theorem parseRequest_of_listed {kind : Byte} {least most : Nat} (h : (kind.toNat, least, most) ∈ payloadLengths)
    (p : List Byte) : ∃ q, parseRequest kind p = Parsed.ofLength (decide (least ≤ p.length ∧ p.length ≤ most)) q := by
  have hexact (n : Nat) : (p.length == n) = decide (n ≤ p.length ∧ p.length ≤ n) :=
    decide_eq_decide.mpr ⟨fun h => ⟨h.ge, h.le⟩, fun ⟨h1, h2⟩ => Nat.le_antisymm h2 h1⟩
  have hrange (m n : Nat) : (decide (m ≤ p.length) && decide (p.length ≤ n)) = decide (m ≤ p.length ∧ p.length ≤ n) :=
    (Bool.decide_and _ _).symm
  simp only [payloadLengths, List.mem_cons, Prod.mk.injEq, List.not_mem_nil, or_false] at h
  unfold parseRequest
  obtain ⟨hk, rfl, rfl⟩ | ⟨hk, rfl, rfl⟩ | ⟨hk, rfl, rfl⟩ | ⟨hk, rfl, rfl⟩ | ⟨hk, rfl, rfl⟩ | ⟨hk, rfl, rfl⟩ |
    ⟨hk, rfl, rfl⟩ | ⟨hk, rfl, rfl⟩ | ⟨hk, rfl, rfl⟩ | ⟨hk, rfl, rfl⟩ | ⟨hk, rfl, rfl⟩ | ⟨hk, rfl, rfl⟩ |
    ⟨hk, rfl, rfl⟩ | ⟨hk, rfl, rfl⟩ | ⟨hk, rfl, rfl⟩ | ⟨hk, rfl, rfl⟩ | ⟨hk, rfl, rfl⟩ | ⟨hk, rfl, rfl⟩ |
    ⟨hk, rfl, rfl⟩ := h
  all_goals rw [hk]; simp only [hexact, hrange]; exact ⟨_, rfl⟩

theorem parseRequest_of_bad_length {kind : Byte} {least most : Nat} (h : (kind.toNat, least, most) ∈ payloadLengths)
    {p : List Byte} (hp : p.length < least ∨ most < p.length) : parseRequest kind p = .badLength := by
  obtain ⟨q, hq⟩ := parseRequest_of_listed h p
  rw [hq, decide_eq_false (by omega)]
  rfl

/-! ## Requests that reach no owner -/

/-- A raw request, as a command or as a whole record, is offered to the queue (R157). -/
theorem exec_raw {c : Instr} {tag kind : Byte} {payload : List Byte} (hlen : payload.length ≤ 56)
    (hc : c = .unknownKind tag kind payload ∨
      c = .requestRecord (withCrc16 ([0x01, tag, kind, BitVec.ofNat 8 payload.length] ++ payload))) (s : State) :
    exec c s = .next (s.submit ⟨tag, kind, payload⟩) := by
  obtain rfl | rfl := hc
  · rfl
  · exact congrArg Host.Outcome.next (s.receiveRecord_record ⟨tag, kind, payload⟩ hlen)

section serve

variable (s : State) {r : Request}

theorem State.withPlace_serve_of_unknown (h : parseRequest r.kind r.payload = .unknownKind) :
    s.withPlace.serve r = s.responded r.tag 0xFF .unknownKind [] := by
  rw [State.serve, h]
  exact s.withPlace_answerWith ⟨r.tag, 0xFF⟩ .unknownKind []

theorem State.withPlace_serve_of_bad_length (h : parseRequest r.kind r.payload = .badLength) :
    s.withPlace.serve r = s.responded r.tag r.kind .badArgument [] := by
  rw [State.serve, h]
  exact s.withPlace_answerWith ⟨r.tag, r.kind⟩ .badArgument []

theorem State.withPlace_serve_of_bad_reset {tag b : Byte} (h0 : b ≠ 0) (h1 : b ≠ 1) :
    s.withPlace.serve ⟨tag, 0x70, [b]⟩ = s.responded tag 0x70 .badArgument [] := by
  rw [State.serve_of_parse _ _ (.reset b) rfl]
  exact ((if_neg h0).trans (if_neg h1)).trans (s.withPlace_answerWith ⟨tag, 0x70⟩ .badArgument [])

end serve

/-- Settles O17. -/
theorem badRecordsAreCountedAndBadRequestsAnswered : Obligations.BadRecordsAreCountedAndBadRequestsAnswered := by
  refine ⟨fun bytes s h2 h => congrArg Host.Outcome.next (s.receiveRecord_of_none h2 (requestOfRecord_eq_none h)),
    fun tag kind payload s c hs hlen hc => ?_⟩
  have hserve : exec c s = .next (s.withPlace.serve ⟨tag, kind, payload⟩) :=
    (exec_raw hlen hc s).trans (congrArg Host.Outcome.next (s.submit_takesAtOnce ⟨tag, kind, payload⟩ hs hlen))
  rw [hserve]
  refine ⟨fun hk => ?_, fun least most hk hp => ?_, fun b hk hp h0 h1 => ?_⟩
  · rw [s.withPlace_serve_of_unknown (parseRequest_of_unlisted hk payload)]
  · rw [s.withPlace_serve_of_bad_length (parseRequest_of_bad_length hk hp)]
  · rw [hk, hp, s.withPlace_serve_of_bad_reset h0 h1]

end Sys2Proof.Machine
end

section
/-! SUPPORT. The tables in force and the gains under the commands that apply no table (R61, R164): what each such command
leaves as it was. -/

namespace Sys2Proof.Machine

variable {s t u : State}

/-- Every table in force, and every table that waits, has passed its content check: `TablesChecked` with its parts
named. -/
structure CheckedTables (s : State) : Prop where
  profile : ∀ p, contentCheck .cameraProfile (s.port p).profile = none
  windows : ∀ p, contentCheck .checkWindows (s.port p).windows = none
  balance : contentCheck .balance s.bal.table = none
  bands : contentCheck .bands s.ovl.bands = none
  palette : contentCheck .palette s.ovl.palette = none
  glyphs : contentCheck .glyphs s.ovl.glyphs = none
  rules : contentCheck .modeRules s.modes.rules = none
  count : s.ovl.elements.length = 64
  elements : ∀ r ∈ s.ovl.elements, elementOk r = true
  edits : ∀ e ∈ s.ovl.edits, ∀ r, e.change = some r → elementOk r = true
  tileMap : ∀ i m, (s.layouts.slots.get i).tileMap = some m → contentCheck .tileMap m = none
  grid : ∀ i c g, (s.layouts.slots.get i).grids.get c = some g → contentCheck .warpGrid g = none
  load : s.mgmt.load.st = .applying → contentCheck s.mgmt.load.dest.table s.mgmt.load.dest.content = none
  due : ∀ d, s.store.boot.due = some d → contentCheck d.table d.content = none

theorem tablesChecked_iff (s : State) : TablesChecked s ↔ CheckedTables s :=
  ⟨fun ⟨hprofile, hwindows, hbalance, hbands, hpalette, hglyphs, hrules, hcount, helements, hedits, hmap, hgrid, hload,
      hdue⟩ => ⟨hprofile, hwindows, hbalance, hbands, hpalette, hglyphs, hrules, hcount, helements, hedits, hmap, hgrid,
      hload, hdue⟩,
    fun h => ⟨h.profile, h.windows, h.balance, h.bands, h.palette, h.glyphs, h.rules, h.count, h.elements, h.edits,
      h.tileMap, h.grid, h.load, h.due⟩⟩

/-- The Overlay Table, the palette, the glyphs, the Band Table and the pending element list. -/
def OverlayEngine.tables (o : OverlayEngine) :
    List (List Byte) × List Byte × List Byte × List Byte × List Edit := (o.elements, o.palette, o.glyphs, o.bands, o.edits)

/-- The tables in force and the pending elements are the same, and no table waits for a turnover that did not wait
before. -/
structure SameTables (s t : State) : Prop where
  port : ∀ p, (t.port p).profile = (s.port p).profile ∧ (t.port p).windows = (s.port p).windows
  balance : t.bal.table = s.bal.table
  overlay : t.ovl.tables = s.ovl.tables
  rules : t.modes.rules = s.modes.rules
  slots : t.layouts.slots = s.layouts.slots
  load : t.mgmt.load.st = .applying → s.mgmt.load.st = .applying ∧ t.mgmt.load.dest = s.mgmt.load.dest
  due : ∀ d, t.store.boot.due = some d → s.store.boot.due = some d

/-- Besides the tables, the gain records and the frame plan are the same. -/
structure SameUnits (s t : State) : Prop extends SameTables s t where
  cams : t.bal.cams = s.bal.cams
  plan : t.comp.plan = s.comp.plan

/-- All that holds or waits for a table, and the gain records. -/
def State.units (s : State) := (s.ports, s.bal, s.ovl.tables, s.modes.rules, s.layouts.slots, s.mgmt.load, s.store.boot.due)

theorem SameUnits.of_eq (h : t.units = s.units) (hplan : t.comp.plan = s.comp.plan) : SameUnits s t := by
  simp only [State.units, Prod.mk.injEq] at h
  obtain ⟨hports, hbal, hovl, hrules, hslots, hload, hdue⟩ := h
  unfold OverlayEngine.tables at hovl
  refine ⟨⟨fun p => ?_, by rw [hbal], hovl, hrules, hslots, fun ha => ?_, fun d hd => hdue ▸ hd⟩, by rw [hbal], hplan⟩
  · rw [State.port, State.port, hports]
    exact ⟨rfl, rfl⟩
  · rw [hload] at ha ⊢
    exact ⟨ha, rfl⟩

theorem SameTables.trans (h : SameTables s t) (g : SameTables t u) : SameTables s u where
  port p := ⟨(g.port p).1.trans (h.port p).1, (g.port p).2.trans (h.port p).2⟩
  balance := g.balance.trans h.balance
  overlay := g.overlay.trans h.overlay
  rules := g.rules.trans h.rules
  slots := g.slots.trans h.slots
  load ha := by
    obtain ⟨ht, hd⟩ := g.load ha
    obtain ⟨hs, hd'⟩ := h.load ht
    exact ⟨hs, hd.trans hd'⟩
  due d hd := h.due d (g.due d hd)

theorem SameUnits.trans (h : SameUnits s t) (g : SameUnits t u) : SameUnits s u where
  toSameTables := h.toSameTables.trans g.toSameTables
  cams := g.cams.trans h.cams
  plan := g.plan.trans h.plan

theorem SameUnits.refl (s : State) : SameUnits s s := .of_eq rfl rfl

theorem CheckedTables.of_same (h : CheckedTables s) (e : SameTables s t) : CheckedTables t := by
  obtain ⟨helements, hpalette, hglyphs, hbands, hedits⟩ : t.ovl.elements = s.ovl.elements ∧
      t.ovl.palette = s.ovl.palette ∧ t.ovl.glyphs = s.ovl.glyphs ∧ t.ovl.bands = s.ovl.bands ∧
      t.ovl.edits = s.ovl.edits := by
    simpa only [OverlayEngine.tables, Prod.mk.injEq] using e.overlay
  exact {
    profile p := (e.port p).1 ▸ h.profile p
    windows p := (e.port p).2 ▸ h.windows p
    balance := e.balance ▸ h.balance
    bands := hbands ▸ h.bands
    palette := hpalette ▸ h.palette
    glyphs := hglyphs ▸ h.glyphs
    rules := e.rules ▸ h.rules
    count := helements ▸ h.count
    elements := helements ▸ h.elements
    edits := hedits ▸ h.edits
    tileMap := e.slots ▸ h.tileMap
    grid := e.slots ▸ h.grid
    load ha := by
      obtain ⟨hs, hdest⟩ := e.load ha
      exact hdest ▸ h.load hs
    due d hd := h.due d (e.due d hd) }

theorem GainsInRange.of_same (h : GainsInRange s) (hc : t.bal.cams = s.bal.cams) (hp : t.comp.plan = s.comp.plan) :
    GainsInRange t := by
  intro c
  rw [State.camBal, hc, hp]
  exact h c

/-! ## Answers, the status word and the channels -/

theorem SameUnits.answerWith (s : State) (k : Ticket) (r : Result) (data : List Byte) :
    SameUnits s (s.answerWith k r data) := .of_eq rfl rfl

theorem SameUnits.raise (s : State) (n : Nat) : SameUnits s (s.raise n) := .of_eq rfl rfl

theorem SameUnits.raiseIf (s : State) (c : Bool) (n : Nat) : SameUnits s (s.raiseIf c n) := by
  rw [State.raiseIf_eq]
  exact .of_eq rfl rfl

theorem SameUnits.setChan (s : State) (p : Cam) (c : Channel) : SameUnits s (s.setChan p c) := .of_eq rfl rfl

theorem SameUnits.arbitrate (s : State) (p : Cam) : SameUnits s (s.arbitrate p) := by
  obtain ⟨c, st, res, fil, e⟩ := s.arbitrate_frame p
  rw [e]
  exact .of_eq rfl rfl

theorem SameUnits.handResult (s : State) (p : Cam) (x : Transaction) (r : Result) (data : List Byte) :
    SameUnits s (s.handResult p x r data) := by
  obtain ⟨c, st, res, fil, e, -⟩ := s.handResult_frame p x r data
  rw [e]
  exact .of_eq rfl rfl

theorem SameUnits.endTransaction (s : State) (p : Cam) (x : Transaction) (r : Result) (data : List Byte)
    (items : List WireItem) : SameUnits s (s.endTransaction p x r data items) :=
  ((SameUnits.setChan s p _).trans (.handResult _ p x r data)).trans (.arbitrate _ p)

theorem SameUnits.nextStep (s : State) (p : Cam) (x : Transaction) (items : List WireItem) :
    SameUnits s (s.nextStep p x items) := .setChan s p _

theorem SameUnits.acceptStep (s : State) (p : Cam) (x : Transaction) : SameUnits s (s.acceptStep p x) := by
  unfold State.acceptStep
  split
  · exact .nextStep s p _ _
  · exact .nextStep s p _ _
  · split <;> exact .nextStep s p _ _
  · split
    · exact .nextStep s p _ _
    · exact .endTransaction s p _ _ _ _
  · exact .nextStep s p _ _
  · exact .refl s

theorem SameUnits.rejectStep (s : State) (p : Cam) (x : Transaction) : SameUnits s (s.rejectStep p x) := by
  unfold State.rejectStep
  split
  case h_6 => exact .refl s
  all_goals exact .endTransaction s p _ _ _ _

theorem SameUnits.cameraAnswer (s : State) (p : Cam) (accept : Bool) : SameUnits s (s.cameraAnswer p accept) := by
  unfold State.cameraAnswer
  split
  · exact .refl s
  · split
    · exact .acceptStep s p _
    · exact .rejectStep s p _

theorem SameUnits.readByte (s : State) (p : Cam) (b : Byte) : SameUnits s (s.readByte p b) := by
  unfold State.readByte
  split
  · exact .refl s
  · split
    · split
      · exact .nextStep s p _ _
      · exact .endTransaction s p _ _ _ _
    · exact .refl s

theorem SameUnits.stepTimerExpiry (s : State) (p : Cam) : SameUnits s (s.stepTimerExpiry p) := by
  unfold State.stepTimerExpiry
  split
  · exact .refl s
  · split
    · exact .endTransaction s p _ _ _ _
    · exact .refl s

theorem SameUnits.stopMarkSent (s : State) (p : Cam) : SameUnits s (s.stopMarkSent p) := by
  unfold State.stopMarkSent
  split
  · exact (SameUnits.setChan s p _).trans (.arbitrate _ p)
  · exact .refl s

theorem SameUnits.channelLockLost (s : State) (p : Cam) : SameUnits s (s.channelLockLost p) := by
  unfold State.channelLockLost
  split
  · exact .endTransaction s p _ _ _ _
  · exact (SameUnits.setChan s p _).trans (.arbitrate _ p)

theorem SameUnits.askAttention (s : State) (p : Cam) : SameUnits s (s.askAttention p) :=
  (SameUnits.setChan s p _).trans (.arbitrate _ p)

theorem SameUnits.handExposure (s : State) (p : Cam) (v : Nat) : SameUnits s (s.handExposure p v) :=
  (SameUnits.setChan s p _).trans (.arbitrate _ p)

/-! ## The ports (R1 to R17) -/

/-- The port's two tables. -/
def Port.tables (p : Port) : List Byte × List Byte := (p.profile, p.windows)

theorem Port.dropFlight_tables (p : Port) (granted : Bool) : (p.dropFlight granted).tables = p.tables := by
  obtain ⟨ring, bufs, e⟩ := p.dropFlight_frame granted
  rw [e]
  rfl

theorem Port.onDiscard_tables (p : Port) : p.onDiscard.tables = p.tables := by
  unfold Port.onDiscard
  split <;> rfl

theorem Port.beginFrame_tables (p : Port) : p.beginFrame.tables = p.tables := by
  unfold Port.beginFrame
  split <;> rfl

theorem Port.receiveLine_tables (p : Port) (pixels : List (Byte × Byte)) : (p.receiveLine pixels).tables = p.tables := by
  obtain ⟨flight, bufs, e, -⟩ := p.receiveLine_frame pixels
  rw [e]
  rfl

theorem Port.onValid_tables (p : Port) (sig : Option Signature) : (p.onValid sig).tables = p.tables := by
  obtain ⟨st, acquire, repeats, e, -⟩ := p.onValid_frame sig
  rw [e]
  rfl

theorem Port.lockGained_tables (p : Port) : p.lockGained.tables = p.tables := by
  unfold Port.lockGained
  split <;> rfl

theorem Port.lockLost_tables (p : Port) (granted : Bool) : (p.lockLost granted).tables = p.tables := by
  unfold Port.lockLost
  split
  · rfl
  · rfl
  · exact p.dropFlight_tables granted

theorem Port.staleExpiry_tables (p : Port) : p.staleExpiry.tables = p.tables := by
  unfold Port.staleExpiry
  split <;> rfl

theorem Port.viewReset_tables (p : Port) (granted : Bool) : (p.viewReset granted).tables = p.tables := by
  unfold Port.viewReset
  dsimp only
  split
  · split <;> rfl
  · rfl

theorem SameUnits.setPort (s : State) (p : Cam) {q : Port} (h : q.tables = (s.port p).tables) :
    SameUnits s (s.setPort p q) := by
  refine ⟨⟨fun i => ?_, rfl, rfl, rfl, rfl, fun ha => ⟨ha, rfl⟩, fun _ hd => hd⟩, rfl, rfl⟩
  by_cases hi : i = p
  · subst hi
    rw [State.port, State.setPort, Quad.get_set_self]
    exact ⟨congrArg Prod.fst h, congrArg Prod.snd h⟩
  · rw [State.port, State.setPort, Quad.get_set_ne _ _ _ _ hi]
    exact ⟨rfl, rfl⟩

theorem SameUnits.putPort (s : State) (p : Cam) {q : Port} (h : q.tables = (s.port p).tables) :
    SameUnits s (s.putPort p q) :=
  (SameUnits.setPort s p h).trans (.raiseIf _ _ _)

theorem SameUnits.lockGained (s : State) (p : Cam) : SameUnits s (s.lockGained p) :=
  .putPort s p (Port.lockGained_tables _)

theorem SameUnits.lockLost (s : State) (p : Cam) : SameUnits s (s.lockLost p) :=
  (SameUnits.putPort s p (Port.lockLost_tables _ _)).trans (.channelLockLost _ p)

theorem SameUnits.frameStartMark (s : State) (p : Cam) : SameUnits s (s.frameStartMark p) := by
  unfold State.frameStartMark
  dsimp only
  split
  · split
    · exact .setPort s p (Port.beginFrame_tables _)
    · exact .setPort s p
        ((Port.beginFrame_tables _).trans ((Port.onDiscard_tables _).trans (Port.dropFlight_tables _ _)))
  · exact .refl s

theorem SameUnits.stalenessExpiry (s : State) (p : Cam) : SameUnits s (s.stalenessExpiry p) := by
  unfold State.stalenessExpiry
  split
  · exact .putPort s p (Port.staleExpiry_tables _)
  · exact .refl s

theorem SameUnits.restoreExposure (s : State) (p : Cam) : SameUnits s (s.restoreExposure p) := by
  unfold State.restoreExposure
  split
  · exact .handExposure s p _
  · exact .refl s

theorem SameUnits.validFrame (s : State) (p : Cam) (f : Flight) (attention : Bool) :
    SameUnits s (s.validFrame p f attention) := by
  unfold State.validFrame
  dsimp only
  generalize hq : (s.port p).storeValid f attention = q
  have hstored : q.tables = (s.port p).tables := by rw [← hq]; rfl
  have hasked : SameUnits s (if (attention && (profileStatus q.profile).isSome) = true then (s.setPort p q).askAttention p
      else s.setPort p q) := by
    split
    · exact (SameUnits.setPort s p hstored).trans (.askAttention _ p)
    · exact .setPort s p hstored
  generalize (if (attention && (profileStatus q.profile).isSome) = true then _ else _ : State) = v at hasked ⊢
  have hvalid : (q.onValid f.signature).tables = (v.port p).tables :=
    (Port.onValid_tables _ _).trans (hstored.trans (Prod.ext (hasked.port p).1.symm (hasked.port p).2.symm))
  have hput := hasked.trans (SameUnits.putPort v p hvalid)
  split
  · exact hput.trans (.restoreExposure _ p)
  · exact hput

theorem SameUnits.frameEndMark (s : State) (p : Cam) (n : Nat) (attention : Bool) :
    SameUnits s (s.frameEndMark p n attention) := by
  unfold State.frameEndMark
  dsimp only
  split
  · split
    · exact .refl s
    · split
      · exact .validFrame s p _ attention
      · exact .setPort s p ((Port.onDiscard_tables _).trans (Port.dropFlight_tables _ _))
  · exact .refl s

/-! ## DRAM, the compositor and the transmitter (R20, R53 to R57, R147) -/

theorem SameUnits.grant (s : State) : SameUnits s s.grant := by
  obtain ⟨g, lp, work, e, -⟩ := s.grant_frame
  rw [e]
  exact .of_eq rfl rfl

theorem SameUnits.lineReceived (s : State) (p : Cam) (pixels : List (Byte × Byte)) :
    SameUnits s (s.lineReceived p pixels) := by
  unfold State.lineReceived
  split
  · exact (SameUnits.setPort s p (Port.receiveLine_tables _ _)).trans (.grant _)
  · exact .refl s

theorem SameUnits.finishWrite (s : State) (p : Cam) : SameUnits s (s.finishWrite p) := by
  unfold State.finishWrite
  split
  · exact .refl s
  · rename_i b rest _
    exact (SameUnits.setPort s p (q := { s.port p with bufs := rest }) rfl).trans (.of_eq (by rfl) (by rfl))

theorem SameUnits.dramWriteComplete (s : State) : SameUnits s s.dramWriteComplete := by
  unfold State.dramWriteComplete
  split
  · exact ((SameUnits.finishWrite s _).trans (.of_eq (by rfl) (by rfl))).trans (.grant _)
  · exact .refl s
  · exact .refl s

theorem SameUnits.sourceReadComplete (s : State) : SameUnits s s.sourceReadComplete := by
  have hp := s.sourceReadComplete_plan
  obtain ⟨g, lp, c, e⟩ := s.sourceReadComplete_frame
  rw [e] at hp ⊢
  exact .of_eq rfl hp

theorem SameUnits.bandCompletion (s : State) (b : Nat) : SameUnits s (s.bandCompletion b) := by
  have hp := s.bandCompletion_plan b
  obtain ⟨g, lp, c, e⟩ := s.bandCompletion_frame b
  rw [e] at hp ⊢
  exact .of_eq rfl hp

theorem SameUnits.frameStart (s : State) : SameUnits s s.frameStart := by
  have hp := s.frameStart_plan
  obtain ⟨g, lp, c, x, v, e⟩ := s.frameStart_frame
  rw [e] at hp ⊢
  exact .of_eq rfl hp

theorem SameUnits.tryStartBand (s : State) : SameUnits s s.tryStartBand := by
  have hp := s.tryStartBand_plan
  obtain ⟨g, lp, c, e⟩ := s.tryStartBand_band_frame
  rw [e] at hp ⊢
  exact .of_eq rfl hp

theorem SameUnits.dropWork (s : State) : SameUnits s s.dropWork := by
  have hp := s.dropWork_plan
  obtain ⟨g, c, e⟩ := s.dropWork_frame
  rw [e] at hp ⊢
  exact .of_eq rfl hp

theorem SameUnits.fillBand (s : State) (b : Nat) : SameUnits s (s.fillBand b) :=
  ((SameUnits.trans (t := { s with
    comp := { s.comp.setHalf b ⟨.fill, b, []⟩ with incomplete := true }
    tx.underrun := s.tx.underrun.note b }) (.of_eq (by rfl) (Compositor.setHalf_plan _ b _)) (.raise _ evUnderrun)).trans
    (.tryStartBand _)).trans (.grant _)

theorem SameUnits.underrunBand (s : State) (b : Nat) : SameUnits s (s.underrunBand b) := by
  obtain e | e := s.underrunBand_cases b
  · rw [e]
    exact .fillBand s b
  · rw [e]
    exact (SameUnits.dropWork s).trans (.fillBand _ b)

theorem SameUnits.bandStart (s : State) (b : Nat) : SameUnits s (s.bandStart b) := by
  unfold State.bandStart
  dsimp only
  split
  · exact .of_eq rfl (Compositor.setHalf_plan _ _ _)
  · exact SameUnits.trans (.of_eq (by rfl) (by rfl)) (.underrunBand _ b)
  · exact .of_eq rfl rfl
  · exact .of_eq rfl rfl
  · exact .of_eq rfl rfl

theorem SameUnits.bandEnd (s : State) (b : Nat) : SameUnits s (s.bandEnd b) := by
  have hp := s.bandEnd_plan b
  obtain ⟨g, lp, c, x, e⟩ := s.bandEnd_frame b
  rw [e] at hp ⊢
  exact .of_eq rfl hp

/-! ## The vehicle interface (R115 to R128) -/

theorem SameUnits.vehicleRecord (s : State) (bs : List Byte) : SameUnits s (s.vehicleRecord bs) := by
  unfold State.vehicleRecord
  split
  · exact SameUnits.trans (.of_eq (by rfl) (by rfl)) (.raiseIf _ _ _)
  · exact .refl s

theorem SameUnits.staleExpiry (s : State) : SameUnits s s.staleExpiry := by
  unfold State.staleExpiry
  split <;> exact .of_eq rfl rfl

theorem SameUnits.lostExpiry (s : State) : SameUnits s s.lostExpiry := by
  unfold State.lostExpiry
  split <;> exact .of_eq rfl rfl

theorem SameUnits.setLine (s : State) (l : Fin 8) (v : Line) : SameUnits s (s.setLine l v) := .of_eq rfl rfl

theorem SameUnits.setDebounced (s : State) (l : Fin 8) (level : Bool) : SameUnits s (s.setDebounced l level) :=
  (SameUnits.setLine s l _).trans (.raiseIf _ _ _)

theorem SameUnits.rawChange (s : State) (l : Fin 8) (level : Bool) : SameUnits s (s.rawChange l level) := by
  unfold State.rawChange
  dsimp only
  split
  · exact .refl s
  · split
    · split
      · exact .setLine s l _
      · split
        · exact (SameUnits.setLine s l _).trans (.setDebounced _ l level)
        · exact .setLine s l _
    · exact .setLine s l _

theorem SameUnits.debounceExpiry (s : State) (l : Fin 8) : SameUnits s (s.debounceExpiry l) := by
  unfold State.debounceExpiry
  dsimp only
  split
  · exact .setDebounced s l _
  · exact .refl s

theorem SameUnits.configureLine (s : State) (l : Fin 8) (cfg : LineRecord) : SameUnits s (s.configureLine l cfg) := by
  unfold State.configureLine
  dsimp only
  split
  · split
    · split
      · exact (SameUnits.setLine s l _).trans (.setDebounced _ l _)
      · split <;> exact .setLine s l _
    · exact .setLine s l _
  · exact .setLine s l _
  · exact .setLine s l _

/-! ## The configuration memory and boot's header (R172 to R175) -/

theorem SameUnits.endLateWrites (s : State) : SameUnits s s.endLateWrites := by
  obtain ⟨mem, e, -⟩ := s.endLateWrites_frame
  rw [e]
  exact .of_eq rfl rfl

theorem SameUnits.pageWriteComplete (s : State) : SameUnits s s.pageWriteComplete := by
  unfold State.pageWriteComplete
  split <;> exact .of_eq rfl rfl

theorem SameUnits.writeTimerExpiry (s : State) : SameUnits s s.writeTimerExpiry := by
  unfold State.writeTimerExpiry
  split
  · exact .refl s
  · split <;> exact .of_eq rfl rfl

theorem SameUnits.storeReadComplete (s : State) (answered : Bool) : SameUnits s (s.storeReadComplete answered) := by
  unfold State.storeReadComplete
  dsimp only
  split
  · exact ((SameUnits.endLateWrites s).trans (.of_eq (by rfl) (by rfl))).trans (.answerWith _ _ _ _)
  · exact .refl s

theorem SameUnits.bootWaitExpiry (s : State) : SameUnits s s.bootWaitExpiry := by
  unfold State.bootWaitExpiry
  split <;> exact .of_eq rfl rfl

/-- Boot's record changes, and no table becomes due by it. -/
theorem SameUnits.setBoot (s : State) {b : Boot} (h : ∀ d, b.due = some d → s.store.boot.due = some d) :
    SameUnits s (s.setBoot b) :=
  ⟨⟨fun _ => ⟨rfl, rfl⟩, rfl, rfl, rfl, rfl, fun ha => ⟨ha, rfl⟩, h⟩, rfl, rfl⟩

theorem SameUnits.endBoot (s : State) (status : BootStatus) : SameUnits s (s.endBoot status) :=
  .setBoot s fun _ h => by cases h

theorem SameUnits.continueBoot (s : State) : SameUnits s s.continueBoot := by
  unfold State.continueBoot
  split
  · exact .endBoot s _
  · exact .of_eq rfl rfl

theorem SameUnits.popAccess (s : State) : SameUnits s s.popAccess := .of_eq rfl rfl

theorem SameUnits.bootHeaderRead (s : State) (answered : Bool) : SameUnits s (s.bootHeaderRead answered) := by
  unfold State.bootHeaderRead
  dsimp only
  split
  · have hpop := (SameUnits.endLateWrites s).trans (.popAccess _)
    split
    · exact hpop.trans (.endBoot _ _)
    · exact (hpop.trans (.setBoot _ fun _ h => by cases h)).trans (.continueBoot _)
  · exact .refl s

theorem SameUnits.bind (s : State) (mode slot : Byte) : SameUnits s (s.bind mode slot).2 := by
  obtain ⟨b, e⟩ := s.bind_frame mode slot
  rw [e]
  exact .of_eq rfl rfl

theorem SameUnits.applyBindings (s : State) (data : List Byte) : SameUnits s (s.applyBindings data).2 := by
  obtain ⟨b, e⟩ := s.applyBindings_frame data
  rw [e]
  exact .of_eq rfl rfl

/-! ## The load context short of a LOAD-END that passes (R162 to R165) -/

/-- A load that does not wait for a turnover. -/
theorem SameUnits.setLoad (s : State) {l : LoadContext} (h : l.st ≠ .applying) :
    SameUnits s { s with mgmt.load := l } :=
  ⟨⟨fun _ => ⟨rfl, rfl⟩, rfl, rfl, rfl, rfl, fun ha => absurd ha h, fun _ hd => hd⟩, rfl, rfl⟩

theorem SameUnits.closeLoad (s : State) : SameUnits s s.closeLoad := .setLoad s (by simp [LoadContext.idle])

theorem SameUnits.loadTimerExpiry (s : State) : SameUnits s s.loadTimerExpiry := by
  unfold State.loadTimerExpiry
  split
  · exact (SameUnits.closeLoad s).trans (.raise _ _)
  · exact .refl s

theorem SameUnits.tick (s : State) : SameUnits s s.tick := by
  refine ⟨⟨fun p => ?_, rfl, rfl, rfl, rfl, fun ha => ⟨ha, rfl⟩, fun _ hd => hd⟩, rfl, rfl⟩
  rw [State.port, State.tick, Quad.get_build]
  exact ⟨rfl, rfl⟩

end Sys2Proof.Machine
end

section
/-! SUPPORT. The tables where one takes effect or comes to wait: loads, boot entries, element requests and the turnover
(R96, R164, R174). -/

namespace Sys2Proof.Machine

variable {s t : State}

/-! ## A table written or waiting (R32, R164, R174) -/

theorem LayoutSlot.withTable_tileMap {l : LayoutSlot} {d : TableLoad} {m : List Byte}
    (h : (l.withTable d).tileMap = some m) : l.tileMap = some m ∨ d.table = .tileMap ∧ d.content = m := by
  unfold LayoutSlot.withTable at h
  split at h
  · rename_i ht
    exact .inr ⟨ht, Option.some.inj h⟩
  · exact .inl h

theorem LayoutSlot.withTable_grid {l : LayoutSlot} {d : TableLoad} (hl : d.table.isLayout = true) {c : Cam}
    {g : List Byte} (h : (l.withTable d).grids.get c = some g) :
    l.grids.get c = some g ∨ d.table = .warpGrid ∧ d.content = g := by
  unfold LayoutSlot.withTable at h
  split at h
  · exact .inl h
  · rename_i ht
    have hw : d.table = .warpGrid := by
      cases hd : d.table <;> simp [hd, Table.isLayout] at hl ht ⊢
    by_cases hc : c = d.cam
    · rw [hc, Quad.get_set_self] at h
      exact .inr ⟨hw, Option.some.inj h⟩
    · rw [Quad.get_set_ne _ _ _ _ hc] at h
      exact .inl h

section slots

variable {slots : Quad LayoutSlot} {d : TableLoad} (hl : d.table.isLayout = true)
  (hd : contentCheck d.table d.content = none)
include hd

theorem tileMaps_checked_set (h : ∀ i m, (slots.get i).tileMap = some m → contentCheck .tileMap m = none) (i : Fin 4)
    {m : List Byte} (hm : ((slots.set d.slot ((slots.get d.slot).withTable d)).get i).tileMap = some m) :
    contentCheck .tileMap m = none := by
  by_cases hi : i = d.slot
  · rw [hi, Quad.get_set_self] at hm
    obtain hm | ⟨ht, rfl⟩ := LayoutSlot.withTable_tileMap hm
    · exact h _ m hm
    · exact ht ▸ hd
  · rw [Quad.get_set_ne _ _ _ _ hi] at hm
    exact h i m hm

include hl

theorem grids_checked_set (h : ∀ i c g, (slots.get i).grids.get c = some g → contentCheck .warpGrid g = none) (i : Fin 4)
    (c : Cam) {g : List Byte} (hg : ((slots.set d.slot ((slots.get d.slot).withTable d)).get i).grids.get c = some g) :
    contentCheck .warpGrid g = none := by
  by_cases hi : i = d.slot
  · rw [hi, Quad.get_set_self] at hg
    obtain hg | ⟨ht, rfl⟩ := LayoutSlot.withTable_grid hl hg
    · exact h _ c g hg
    · exact ht ▸ hd
  · rw [Quad.get_set_ne _ _ _ _ hi] at hg
    exact h i c g hg

end slots

theorem CheckedTables.writeLayout (h : CheckedTables s) {d : TableLoad} (hl : d.table.isLayout = true)
    (hd : contentCheck d.table d.content = none) : CheckedTables (s.writeLayout d) := by
  rw [State.writeLayout_of_isLayout s hl]
  exact { h with
    tileMap := fun i _ hm => tileMaps_checked_set hd h.tileMap i hm
    grid := fun i c _ hg => grids_checked_set hl hd h.grid i c hg }

/-- The load context once its LOAD-END has passed every test and the table waits for the turnover (R164). -/
def LoadContext.waiting (l : LoadContext) (k : Ticket) : LoadContext :=
  { l with st := .applying, timer := .stopped, ticket := k }

theorem CheckedTables.waits (h : CheckedTables s)
    (hd : contentCheck s.mgmt.load.dest.table s.mgmt.load.dest.content = none) (k : Ticket) :
    CheckedTables { s with mgmt.load := s.mgmt.load.waiting k } := { h with load := fun _ => hd }

theorem CheckedTables.setDue (h : CheckedTables s) {d : TableLoad} (hd : contentCheck d.table d.content = none) :
    CheckedTables (s.setBoot { s.store.boot with due := some d }) :=
  { h with due := fun d' hd' => by cases hd'; exact hd }

theorem CheckedTables.setEdits (h : CheckedTables s) {l : List Edit}
    (hl : ∀ e ∈ l, ∀ r, e.change = some r → elementOk r = true) : CheckedTables { s with ovl.edits := l } :=
  { h with edits := hl }

theorem mem_putEdit {l : List Edit} {e x : Edit} (h : x ∈ putEdit l e) : x ∈ l ∨ x = e := by
  unfold putEdit at h
  split at h
  · obtain ⟨y, hy, rfl⟩ := List.mem_map.mp h
    split
    · exact .inr rfl
    · exact .inl hy
  · simpa using h

/-! ## The turnover's tables (R6, R8, R60, R89, R93, R96, R103, R164) -/

/-- Every table due has passed its content check. -/
theorem CheckedTables.dueTables (h : CheckedTables s) {d : TableLoad} (hd : d ∈ s.dueTables) :
    contentCheck d.table d.content = none := by
  obtain hd | hd := List.mem_append.mp hd
  · split at hd
    · rename_i ha
      rw [List.mem_singleton.mp hd]
      exact h.load ha
    · cases hd
  · exact h.due d (by simpa using hd)

theorem dueContent_check {ds : List TableLoad} (h : ∀ d ∈ ds, contentCheck d.table d.content = none) {t : Table}
    {bs : List Byte} (e : dueContent ds t = some bs) : contentCheck t bs = none := by
  obtain ⟨d, hd, rfl⟩ := Option.map_eq_some_iff.mp e
  have ht : d.table = t := of_decide_eq_true (List.find?_some (p := fun d : TableLoad => decide (d.table = t)) hd)
  exact ht ▸ h d (List.mem_of_find?_eq_some hd)

theorem CheckedTables.setPort (h : CheckedTables s) (p : Cam) {q : Port}
    (hp : contentCheck .cameraProfile q.profile = none) (hw : contentCheck .checkWindows q.windows = none) :
    CheckedTables (s.setPort p q) := by
  have hport (i : Cam) : (s.setPort p q).port i = q ∨ (s.setPort p q).port i = s.port i := by
    by_cases hi : i = p
    · exact .inl (hi ▸ Quad.get_set_self _ _ _)
    · exact .inr (Quad.get_set_ne _ _ _ _ hi)
  refine { h with profile := fun i => ?_, windows := fun i => ?_ }
  · obtain e | e := hport i <;> rw [e]
    · exact hp
    · exact h.profile i
  · obtain e | e := hport i <;> rw [e]
    · exact hw
    · exact h.windows i

theorem Port.applyProfile_windows (p : Port) (granted : Bool) (profile : List Byte) :
    (p.applyProfile granted profile).windows = p.windows := by
  unfold Port.applyProfile
  dsimp only
  split
  · split <;> rfl
  · exact congrArg Prod.snd (Port.dropFlight_tables _ granted)
  · rfl

theorem CheckedTables.applyProfile (h : CheckedTables s) (p : Cam) {profile : List Byte}
    (hp : contentCheck .cameraProfile profile = none) : CheckedTables (s.applyProfile p profile) := by
  have hport : CheckedTables (s.setPort p ((s.port p).applyProfile (s.writingFor p) profile)) :=
    h.setPort p ((Port.applyProfile_profile _ _ _).symm ▸ hp) ((Port.applyProfile_windows _ _ _).symm ▸ h.windows p)
  have hblocks : CheckedTables (s.profiled p profile) := 
    hport.of_same ⟨fun _ => ⟨rfl, rfl⟩, rfl, rfl, rfl, rfl, fun ha => ⟨ha, rfl⟩, fun _ hd => hd⟩
  rw [State.applyProfile_eq]
  split
  · exact hblocks.of_same (SameUnits.askAttention _ p).toSameTables
  · exact hblocks

theorem CheckedTables.applyCamTable (h : CheckedTables s) {d : TableLoad} (hd : contentCheck d.table d.content = none) :
    CheckedTables (s.applyCamTable d) := by
  unfold State.applyCamTable
  split
  · rename_i ht
    exact h.applyProfile d.cam (ht ▸ hd)
  · rename_i ht
    exact h.setPort d.cam (h.profile d.cam) (ht ▸ hd)
  · exact h

theorem CheckedTables.applyCamTables (h : CheckedTables s) {ds : List TableLoad}
    (hds : ∀ d ∈ ds, contentCheck d.table d.content = none) : CheckedTables (ds.foldl State.applyCamTable s) := by
  induction ds generalizing s with
  | nil => exact h
  | cons d ds ih =>
    exact ih (h.applyCamTable (hds d List.mem_cons_self)) fun d' hd' => hds d' (List.mem_cons_of_mem d hd')

theorem SameTables.balanceTurnover (s : State) : SameTables s s.balanceTurnover := by
  obtain ⟨cams, chans, st, res, fil, e⟩ := s.balanceTurnover_frame
  rw [e]
  exact ⟨fun _ => ⟨rfl, rfl⟩, rfl, rfl, rfl, rfl, fun ha => ⟨ha, rfl⟩, fun _ hd => hd⟩

theorem CheckedTables.turnBalance (h : CheckedTables s) {table : Option (List Byte)}
    (ht : ∀ bs, table = some bs → contentCheck .balance bs = none) : CheckedTables (s.turnBalance table) := by
  have hwork := h.of_same (.balanceTurnover s)
  unfold State.turnBalance
  generalize s.balanceTurnover = u at hwork
  cases table with
  | none => exact hwork
  | some bs => exact { hwork with balance := ht bs rfl }

section tables

variable (h : CheckedTables s) {table : Option (List Byte)}
include h

theorem CheckedTables.applyRules (ht : ∀ bs, table = some bs → contentCheck .modeRules bs = none) :
    CheckedTables (s.applyRules table) := by
  cases table with
  | none => exact h
  | some bs => exact { h with rules := ht bs rfl }

theorem CheckedTables.applyBands (ht : ∀ bs, table = some bs → contentCheck .bands bs = none) :
    CheckedTables (s.applyBands table) := by
  cases table with
  | none => exact h
  | some bs => exact { h with bands := ht bs rfl }

theorem CheckedTables.applyPalette (ht : ∀ bs, table = some bs → contentCheck .palette bs = none) :
    CheckedTables (s.applyPalette table) := by
  cases table with
  | none => exact h
  | some bs => exact { h with palette := ht bs rfl }

theorem CheckedTables.applyGlyphs (ht : ∀ bs, table = some bs → contentCheck .glyphs bs = none) :
    CheckedTables (s.applyGlyphs table) := by
  cases table with
  | none => exact h
  | some bs => exact { h with glyphs := ht bs rfl }

end tables

/-- The Overlay Table stays one of 64 records, each of which its check accepts, through the pending element list. -/
theorem elements_foldl_applyEdit {edits : List Edit} {elements : List (List Byte)}
    (he : ∀ e ∈ edits, ∀ r, e.change = some r → elementOk r = true) (h : ∀ r ∈ elements, elementOk r = true) :
    (edits.foldl applyEdit elements).length = elements.length ∧
      ∀ r ∈ edits.foldl applyEdit elements, elementOk r = true := by
  induction edits generalizing elements with
  | nil => exact ⟨rfl, h⟩
  | cons e edits ih =>
    have hone : ∀ r ∈ applyEdit elements e, elementOk r = true := by
      intro r hr
      obtain hr | rfl := List.mem_or_eq_of_mem_set hr
      · exact h r hr
      · cases hc : e.change with
        | none => exact elementOk_none
        | some r => exact he e List.mem_cons_self r hc
    obtain ⟨hlen, hall⟩ := ih (fun e' he' => he e' (List.mem_cons_of_mem e he')) hone
    exact ⟨hlen.trans List.length_set, hall⟩

/-- The records of an OVERLAY content that its check accepts (R77, R170). -/
theorem elementOk_of_overlay {bs : List Byte} (h : contentCheck .overlay bs = none) :
    ∀ r ∈ elementsOf bs, elementOk r = true := by
  intro r hr
  obtain ⟨i, hi, rfl⟩ := List.mem_map.mp hr
  have hgood := (recordsCheck_checks (good := fun r => elementOk r = true) (fun _ _ => Iff.rfl) bs).1.mp h
  exact (hgood.2 i (List.mem_range.mp hi)).2

theorem CheckedTables.applyEdits (h : CheckedTables s) {table : Option (List Byte)}
    (ht : ∀ bs, table = some bs → contentCheck .overlay bs = none) : CheckedTables (s.applyEdits table) := by
  rw [State.applyEdits_eq]
  cases table with
  | none =>
    obtain ⟨hlen, hall⟩ := elements_foldl_applyEdit h.edits h.elements
    exact { h with count := hlen.trans h.count, elements := hall, edits := fun _ he => by cases he }
  | some bs =>
    exact { h with
      count := (List.length_map _).trans List.length_range
      elements := elementOk_of_overlay (ht bs rfl)
      edits := fun _ he => by cases he }

theorem SameUnits.turnRings (s : State) : SameUnits s s.turnRings := by
  refine ⟨⟨fun p => ?_, rfl, rfl, rfl, rfl, fun ha => ⟨ha, rfl⟩, fun _ hd => hd⟩, rfl, rfl⟩
  rw [State.port, State.turnRings, Quad.get_build]
  exact ⟨rfl, rfl⟩

theorem CheckedTables.applyTables (h : CheckedTables s) {ds : List TableLoad}
    (hds : ∀ d ∈ ds, contentCheck d.table d.content = none) : CheckedTables (s.applyTables ds) :=
  ((((((h.applyCamTables hds).turnBalance fun _ => dueContent_check hds).applyRules fun _ =>
    dueContent_check hds).applyBands fun _ => dueContent_check hds).applyPalette fun _ =>
    dueContent_check hds).applyGlyphs fun _ => dueContent_check hds).applyEdits fun _ => dueContent_check hds

theorem SameUnits.finishLoad (s : State) : SameUnits s s.finishLoad := by
  unfold State.finishLoad
  split
  · exact (SameUnits.closeLoad s).trans (.answerWith _ _ _ _)
  · exact .refl s

theorem SameUnits.finishBootTable (s : State) : SameUnits s s.finishBootTable := by
  unfold State.finishBootTable
  split
  · exact .refl s
  · exact (SameUnits.setBoot s fun _ h => by cases h).trans (.continueBoot _)

theorem SameUnits.setMode (s : State) (m : Mode) : SameUnits s (s.setMode m) := by
  obtain ⟨md, d, st, e⟩ := s.setMode_frame m
  rw [e]
  exact .of_eq rfl rfl

theorem SameUnits.keepHeld (s : State) : SameUnits s s.keepHeld :=
  SameUnits.trans (t := { s with modes.hold := false }) (.of_eq (by rfl) (by rfl)) (.setMode _ _)

theorem SameUnits.choose (s : State) : SameUnits s s.choose :=
  SameUnits.trans (t := { s with modes.dwell := _ }) (.of_eq (by rfl) (by rfl)) (.setMode _ _)

theorem SameUnits.setInUse (s : State) (i : Option (Fin 4)) : SameUnits s { s with layouts.inUse := i } := .of_eq rfl rfl

theorem SameUnits.modeTurnover (s : State) : SameUnits s s.modeTurnover := by
  have hkerb (b : Bool) : SameUnits s { s with modes.kerb := b } := .of_eq rfl rfl
  unfold State.modeTurnover
  dsimp only
  split
  · exact ((hkerb _).trans (.keepHeld _)).trans (.setInUse _ _)
  · split
    · exact (hkerb _).trans (.setInUse _ _)
    · exact ((hkerb _).trans (.choose _)).trans (.setInUse _ _)

theorem CheckedTables.settled (h : CheckedTables s) : CheckedTables s.settled :=
  ((h.of_same (SameUnits.turnRings s).toSameTables).applyTables fun _ => h.dueTables).of_same
    (((SameUnits.finishLoad _).trans (.finishBootTable _)).trans (.modeTurnover _)).toSameTables

theorem CheckedTables.turnoverWork (h : CheckedTables s) : CheckedTables s.turnoverWork := by
  have hu := h.settled
  rw [State.turnoverWork_eq]
  generalize s.settled = u at hu
  exact hu.of_same ⟨fun _ => ⟨rfl, rfl⟩, rfl, rfl, rfl, rfl, fun ha => ⟨ha, rfl⟩, fun _ hd => hd⟩

end Sys2Proof.Machine
end

section
/-! PROOF. Every step keeps the tables checked and the gains in range (O11; R61, R94, R164, R174). -/

namespace Sys2Proof.Machine

variable {s t : State}

/-! ## One camera's records (R59 to R64) -/

/-- The gain and the target of a camera lie in 128..512 (R61). -/
structure Balance.InRange (b : Balance) : Prop where
  gain : 128 ≤ b.gain ∧ b.gain ≤ 512
  target : 128 ≤ b.target ∧ b.target ≤ 512

theorem clampGain_range (n : Nat) : 128 ≤ clampGain n ∧ clampGain n ≤ 512 := by
  simp only [clampGain, Config.gainMin, Config.gainMax]
  omega

theorem targetFigure_range (gp sp sc : Nat) : 128 ≤ targetFigure gp sp sc ∧ targetFigure gp sp sc ≤ 512 :=
  clampGain_range _

/-- A step ends between the gain and the target (R64). -/
theorem stepGain_range {g t : Nat} (hg : 128 ≤ g ∧ g ≤ 512) (ht : 128 ≤ t ∧ t ≤ 512) :
    128 ≤ stepGain g t ∧ stepGain g t ≤ 512 := by
  simp only [stepGain, Config.gainStep]
  split <;> omega

theorem Balance.InRange.turnover {b : Balance} (h : b.InRange) (partner : Option Cam) (plan : Plan) (seam : Seam)
    (incomplete : Bool) (c : Cam) : (b.turnover partner plan seam incomplete c).InRange := by
  unfold Balance.turnover
  split
  · exact h
  · dsimp only
    split
    · rw [Balance.run_eq]
      exact ⟨stepGain_range h.gain (targetFigure_range _ _ _), targetFigure_range _ _ _⟩
    · exact ⟨stepGain_range h.gain h.target, h.target⟩

theorem Balance.InRange.nudged {b : Balance} (h : b.InRange) : b.nudged.InRange := by
  rw [Balance.nudged_eq]
  exact ⟨h.gain, h.target⟩

/-- The manual gains of a Balance Table that its check accepts (R59). -/
theorem balanceManual_range {bs : List Byte} (h : contentCheck .balance bs = none) (c : Cam) :
    128 ≤ balanceManual bs c ∧ balanceManual bs c ≤ 512 := by
  obtain ⟨-, hleast, hmost, -⟩ := (((balanceCheck_spec bs).1.mp h).2) c |>.2
  exact ⟨hleast, hmost⟩

/-- The initial gain of a Camera Profile that its check accepts (R7). -/
theorem profileInitialGain_range {p : List Byte} (h : contentCheck .cameraProfile p = none) :
    128 ≤ profileInitialGain p ∧ profileInitialGain p ≤ 512 := by
  obtain ⟨hlen, hrecords⟩ := (recordsCheck_checks (fun r _ => profileOk_iff r) p).1.mp h
  obtain ⟨-, hgood⟩ := hrecords 0 Nat.one_pos
  rw [Nat.mul_zero, List.drop_zero, List.take_of_length_le hlen.le] at hgood
  obtain ⟨-, -, hleast, hmost, -⟩ := hgood
  exact ⟨hleast, hmost⟩

theorem Balance.InRange.newTable {b : Balance} (h : b.InRange) {new : List Byte} (hn : contentCheck .balance new = none)
    (old : List Byte) (c : Cam) : (b.newTable old new c).InRange := by
  have hmanual := balanceManual_range hn c
  unfold Balance.newTable
  dsimp only
  split
  · exact ⟨hmanual, hmanual⟩
  · split
    · exact ⟨h.gain, h.target⟩
    · exact h

/-! ## The records of all four through a turnover (R60, R63 to R72) -/

/-- Every camera's gain and target lie in range. -/
def State.RecordsInRange (s : State) : Prop := ∀ c, (s.camBal c).InRange

theorem gainsInRange_iff (s : State) : GainsInRange s ↔
    s.RecordsInRange ∧ ∀ c, 128 ≤ s.comp.plan.gain.get c ∧ s.comp.plan.gain.get c ≤ 512 :=
  ⟨fun h => ⟨fun c => ⟨⟨(h c).1, (h c).2.1⟩, (h c).2.2.1, (h c).2.2.2.1⟩, fun c => (h c).2.2.2.2⟩,
    fun ⟨hr, hp⟩ c => ⟨(hr c).gain.1, (hr c).gain.2, (hr c).target.1, (hr c).target.2, hp c⟩⟩

theorem State.RecordsInRange.of_bal (h : s.RecordsInRange) (e : t.bal.cams = s.bal.cams) : t.RecordsInRange := by
  intro c
  rw [State.camBal, e]
  exact h c

theorem State.RecordsInRange.setBal (h : s.RecordsInRange) (c : Cam) {b : Balance} (hb : b.InRange) :
    (s.setBal c b).RecordsInRange := by
  intro d
  by_cases hd : d = c
  · rw [hd, State.camBal_setBal_self]
    exact hb
  · rw [State.camBal, State.setBal, Quad.get_set_ne _ _ _ _ hd]
    exact h d

theorem State.RecordsInRange.settleAndNudge (h : s.RecordsInRange) (c : Cam) : (s.settleAndNudge c).RecordsInRange := by
  have hset : (s.setBal c (s.camBal c).settleStep).RecordsInRange := h.setBal c ⟨(h c).gain, (h c).target⟩
  unfold State.settleAndNudge
  dsimp only
  generalize s.setBal c (s.camBal c).settleStep = u at hset
  split
  · unfold State.nudgeTest
    split
    · split
      · exact hset
      · split
        · exact hset
        · exact (hset.setBal c (hset c).nudged).of_bal (congrArg BalanceUnit.cams (State.handExposure_bal _ c _))
    · exact hset
  · exact hset

theorem State.RecordsInRange.gainTurnover (h : s.RecordsInRange) : s.gainTurnover.RecordsInRange := by
  intro c
  rw [State.camBal, State.gainTurnover, Quad.get_build]
  exact (h c).turnover _ _ _ _ c

theorem State.RecordsInRange.balanceTurnover (h : s.RecordsInRange) : s.balanceTurnover.RecordsInRange :=
  forCams_induction (P := State.RecordsInRange) State.settleAndNudge (fun c _ hu => hu.settleAndNudge c) s.gainTurnover
    h.gainTurnover

theorem State.RecordsInRange.applyCamTable (h : s.RecordsInRange) (d : TableLoad) : (s.applyCamTable d).RecordsInRange := by
  unfold State.applyCamTable
  split
  · obtain ⟨c, st, res, fil, e⟩ := s.applyProfile_frame d.cam d.content
    rw [e]
    exact (h.setBal d.cam (b := (s.camBal d.cam).quiet) ⟨(h d.cam).gain, (h d.cam).target⟩).of_bal rfl
  · exact h
  · exact h

theorem State.RecordsInRange.applyCamTables (h : s.RecordsInRange) (ds : List TableLoad) :
    (ds.foldl State.applyCamTable s).RecordsInRange := by
  induction ds generalizing s with
  | nil => exact h
  | cons d ds ih => exact ih (h.applyCamTable d)

theorem State.RecordsInRange.turnBalance (h : s.RecordsInRange) {table : Option (List Byte)}
    (ht : ∀ bs, table = some bs → contentCheck .balance bs = none) : (s.turnBalance table).RecordsInRange := by
  have hwork := h.balanceTurnover
  unfold State.turnBalance
  generalize s.balanceTurnover = u at hwork
  cases table with
  | none => exact hwork
  | some bs =>
    intro c
    change ((Quad.build fun c => (u.bal.cams.get c).newTable u.bal.table bs c).get c).InRange
    rw [Quad.get_build]
    exact (hwork c).newTable (ht bs rfl) _ c

theorem State.RecordsInRange.balanced (h : s.RecordsInRange) (hs : CheckedTables s) : s.balanced.RecordsInRange := by
  have hrings : s.turnRings.RecordsInRange := h
  exact (hrings.applyCamTables s.dueTables).turnBalance fun _ => dueContent_check fun _ => hs.dueTables

/-- A turnover's plan latches the gains that its work leaves (R38). -/
theorem State.turnoverWork_plan_gain (s : State) (c : Cam) :
    s.turnoverWork.comp.plan.gain.get c = (s.turnoverWork.camBal c).gain := by
  rw [State.turnoverWork_eq]
  generalize s.settled = u
  exact Quad.get_build _ _

theorem GainsInRange.turnoverWork (h : GainsInRange s) (hs : CheckedTables s) : GainsInRange s.turnoverWork := by
  have hr : s.turnoverWork.RecordsInRange :=
    (((gainsInRange_iff s).mp h).1.balanced hs).of_bal (congrArg BalanceUnit.cams s.turnoverWork_bal)
  refine (gainsInRange_iff _).mpr ⟨hr, fun c => ?_⟩
  rw [s.turnoverWork_plan_gain c]
  exact (hr c).gain

/-! ## Resets (R74, R154, R168, R169) -/

/-- Power-on and a FULL reset leave the units at the values the part is first powered on with (R154, R168). -/
theorem SameUnits.powerOnAgain (s : State) : SameUnits State.reset s.powerOnAgain := by
  obtain ⟨mem, e, -⟩ := s.powerOnAgain_frame
  rw [e]
  refine ⟨⟨fun p => ?_, rfl, rfl, rfl, rfl, fun ha => ⟨ha, rfl⟩, fun _ hd => hd⟩, rfl, rfl⟩
  have hport (lock : Quad Bool) (raw : Oct Bool) (m : List Host.Cell) (n : Nat) (l : List Instr) :
      (State.powerOn lock raw m n l).port p = Port.powerOn (lock.get p) := Quad.get_build _ _
  rw [State.reset, hport, hport]
  exact ⟨rfl, rfl⟩

theorem SameUnits.fullResetBlocks (s : State) : SameUnits State.reset s.fullResetBlocks := by
  obtain ⟨g, lp, work, next, h0, h1, e⟩ := s.fullResetBlocks_frame
  rw [e]
  refine ⟨⟨fun p => ?_, rfl, rfl, rfl, rfl, fun ha => ⟨ha, rfl⟩, fun _ hd => hd⟩, rfl, rfl⟩
  rw [State.port, State.port, State.reset, State.powerOn, Quad.get_build, Quad.get_build]
  exact ⟨rfl, rfl⟩

theorem SameUnits.rebuildHeader (s : State) : SameUnits s s.rebuildHeader := by
  unfold State.rebuildHeader
  split <;> exact .of_eq rfl rfl

theorem SameUnits.fullReset (s : State) (k : Ticket) : SameUnits State.reset (s.fullReset k) :=
  ((SameUnits.fullResetBlocks s).trans (.of_eq (by rfl) (by rfl))).trans (.rebuildHeader _)

theorem SameUnits.viewResetPorts (s : State) : SameUnits s (forCams State.viewResetPort s) :=
  forCams_induction (P := SameUnits s) State.viewResetPort
    (fun p _ hu => hu.trans (.putPort _ p (Port.viewReset_tables _ _))) s (.refl s)

theorem SameTables.viewResetBlocks (s : State) : SameTables s s.viewResetBlocks := by
  have hports := (SameUnits.viewResetPorts s).toSameTables
  unfold State.viewResetBlocks
  generalize forCams State.viewResetPort s = u at hports
  have hgains : SameTables u u.resetBalanceView :=
    ⟨fun _ => ⟨rfl, rfl⟩, rfl, rfl, rfl, rfl, fun ha => ⟨ha, rfl⟩, fun _ hd => hd⟩
  obtain ⟨md, d, st, e⟩ := u.resetBalanceView.setMode_frame
    (if u.resetBalanceView.store.boot.status = .running then u.resetBalanceView.modes.mode
     else if u.resetBalanceView.modes.bind.panorama.isSome then .panorama else .standby)
  refine (hports.trans hgains).trans ?_
  rw [State.resetModeView, e]
  exact ⟨fun _ => ⟨rfl, rfl⟩, rfl, rfl, rfl, rfl, fun ha => ⟨ha, rfl⟩, fun _ hd => hd⟩

theorem GainsInRange.viewResetBlocks (h : GainsInRange s) (hs : CheckedTables s) : GainsInRange s.viewResetBlocks := by
  have hports := SameUnits.viewResetPorts s
  have hchecked := hs.of_same hports.toSameTables
  have hgains := h.of_same hports.cams hports.plan
  unfold State.viewResetBlocks
  generalize forCams State.viewResetPort s = u at hchecked hgains
  obtain ⟨m, st, e⟩ := u.resetBalanceView.resetModeView_frame
  dsimp only
  rw [e]
  refine (gainsInRange_iff _).mpr ⟨fun c => ?_, ((gainsInRange_iff u).mp hgains).2⟩
  have hrange : 128 ≤ viewResetGain u.bal.table (u.port c).profile c ∧
      viewResetGain u.bal.table (u.port c).profile c ≤ 512 := by
    unfold viewResetGain
    split
    · exact balanceManual_range hchecked.balance c
    · exact profileInitialGain_range (hchecked.profile c)
  rw [State.camBal, State.resetBalanceView, Quad.get_build]
  exact ⟨hrange, hrange⟩

/-! ## The checks of a boot entry (R174) -/

/-- The verdicts that apply an entry's table, once the tests of an entry are passed. -/
theorem State.entryVerdict_checked {code slot camera : Byte} {data : List Byte} {d : TableLoad}
    (h : s.entryVerdict code slot camera data = .layout d ∨ s.entryVerdict code slot camera data = .due d) :
    contentCheck d.table d.content = none ∧
      (s.entryVerdict code slot camera data = .layout d → d.table.isLayout = true) := by
  unfold State.entryVerdict at h ⊢
  split at h
  · split at h <;> obtain h | h := h <;> cases h
  · rename_i hcode
    rw [if_neg hcode]
    split at h
    · obtain h | h := h <;> cases h
    · rename_i d' hdest
      split at h
      · obtain h | h := h <;> cases h
      · rename_i hlen
        split at h
        · obtain h | h := h <;> cases h
        · rename_i hcheck
          have hnone : contentCheck d'.table data = none := by simpa using hcheck
          split at h
          · rename_i hl
            split at h
            · obtain h | h := h <;> cases h
            · obtain h | h := h <;> cases h
              exact ⟨hnone, fun _ => hl⟩
          · rename_i hl
            obtain h | h := h <;> cases h
            refine ⟨hnone, fun hv => ?_⟩
            rw [if_neg hlen, if_neg hcheck, if_neg hl] at hv
            cases hv

theorem State.entryVerdict_layout_checked {code slot camera : Byte} {data : List Byte} {d : TableLoad}
    (h : s.entryVerdict code slot camera data = .layout d) :
    d.table.isLayout = true ∧ contentCheck d.table d.content = none :=
  ⟨(State.entryVerdict_checked (.inl h)).2 h, (State.entryVerdict_checked (.inl h)).1⟩

theorem State.entryVerdict_due_checked {code slot camera : Byte} {data : List Byte} {d : TableLoad}
    (h : s.entryVerdict code slot camera data = .due d) : contentCheck d.table d.content = none :=
  (State.entryVerdict_checked (.inr h)).1

/-! ## Every command -/

/-- What has to be shown of a property of the tables and the gains, so that every command keeps it: the commands at which a
table is written, comes to wait or takes effect, and the resets. -/
structure KeptByTableWork (P : State → Prop) : Prop where
  reset : P State.reset
  same : ∀ {s t}, SameUnits s t → P s → P t
  writeLayout : ∀ s (d : TableLoad), P s → d.table.isLayout = true → contentCheck d.table d.content = none →
    P (s.writeLayout d)
  waits : ∀ s k, P s → contentCheck s.mgmt.load.dest.table s.mgmt.load.dest.content = none →
    P { s with mgmt.load := s.mgmt.load.waiting k }
  setDue : ∀ s (d : TableLoad), P s → contentCheck d.table d.content = none →
    P (s.setBoot { s.store.boot with due := some d })
  putEdit : ∀ s (e : Edit), P s → (∀ r, e.change = some r → elementOk r = true) →
    P { s with ovl.edits := putEdit s.ovl.edits e }
  viewReset : ∀ s, P s → P s.viewResetBlocks
  turnoverWork : ∀ s, P s → P s.turnoverWork

namespace KeptByTableWork

variable {P : State → Prop} (k : KeptByTableWork P)
include k

theorem answerWith (h : P s) (i : Ticket) (r : Result) (data : List Byte) : P (s.answerWith i r data) :=
  k.same (.answerWith s i r data) h

theorem serveLoadBegin (h : P s) (i : Ticket) (table slot camera : Byte) (total : BitVec 16) (crc : BitVec 32) :
    P (s.serveLoadBegin i table slot camera total crc) := by
  unfold State.serveLoadBegin
  split
  · exact k.answerWith h _ _ _
  · split
    · exact k.answerWith h _ _ _
    · split
      · exact k.answerWith h _ _ _
      · split
        · exact k.answerWith h _ _ _
        · exact k.same ((SameUnits.setLoad s (by simp [LoadContext.open_])).trans (.answerWith _ _ _ _)) h

theorem closed (h : P s) (i : Ticket) (r : Result) (data : List Byte) : P (s.closeLoad.answerWith i r data) :=
  k.same ((SameUnits.closeLoad s).trans (.answerWith _ _ _ _)) h

theorem serveLoadData (h : P s) (i : Ticket) (segment : BitVec 16) (data : List Byte) :
    P (s.serveLoadData i segment data) := by
  unfold State.serveLoadData
  split
  · exact k.answerWith h _ _ _
  · rename_i hopen
    split
    · exact k.closed h _ _ _
    · exact k.same ((SameUnits.setLoad s (by simp [LoadContext.accept, not_not.mp hopen])).trans
        (.answerWith _ _ _ _)) h

theorem serveLoadEnd (h : P s) (i : Ticket) : P (s.serveLoadEnd i) := by
  unfold State.serveLoadEnd
  split
  · exact k.answerWith h _ _ _
  · split
    · exact k.closed h _ _ _
    · exact k.closed h _ _ _
    · exact k.closed h _ _ _
    · exact k.closed h _ _ _
    · rename_i hv
      obtain ⟨-, -, hcheck, -⟩ := s.loadVerdict_eq_passes_iff.mp hv
      split
      · rename_i hl
        exact k.answerWith (k.writeLayout _ _ (k.same (.closeLoad s) h) hl hcheck) _ _ _
      · exact k.waits s i h hcheck

theorem serveTableRead (h : P s) (i : Ticket) (table slot camera : Byte) (offset : BitVec 16) (length : Byte) :
    P (s.serveTableRead i table slot camera offset length) := by
  unfold State.serveTableRead
  split
  · exact k.answerWith h _ _ _
  · split
    · exact k.answerWith h _ _ _
    · split <;> exact k.answerWith h _ _ _

theorem joinEdits (h : P s) (e : Edit) (he : ∀ r, e.change = some r → elementOk r = true) : P (s.joinEdits e) := by
  unfold State.joinEdits
  split
  · exact k.putEdit s e h he
  · exact k.answerWith (k.putEdit s e h he) _ _ _

theorem serveElementWrite (h : P s) (i : Ticket) (index : Byte) (record : List Byte) :
    P (s.serveElementWrite i index record) := by
  unfold State.serveElementWrite
  split
  · exact k.answerWith h _ _ _
  · split
    · exact k.answerWith h _ _ _
    · rename_i hok
      split
      · exact k.answerWith h _ _ _
      · exact k.joinEdits h _ fun r hr => by cases hr; simpa using hok

theorem serveElementClear (h : P s) (i : Ticket) (index : Byte) : P (s.serveElementClear i index) := by
  unfold State.serveElementClear
  split
  · exact k.answerWith h _ _ _
  · split
    · exact k.answerWith h _ _ _
    · exact k.joinEdits h _ fun r hr => by cases hr

theorem serveReset (h : P s) (i : Ticket) (w : Byte) : P (s.serveReset i w) := by
  unfold State.serveReset
  split
  · exact k.same (.fullReset s i) k.reset
  · split
    · exact k.answerWith (k.viewReset s h) _ _ _
    · exact k.answerWith h _ _ _

theorem serveSetView (h : P s) (i : Ticket) (mode : Byte) : P (s.serveSetView i mode) := by
  unfold State.serveSetView
  split
  · exact k.answerWith h _ _ _
  · split
    · exact k.answerWith h _ _ _
    · exact k.same (SameUnits.trans (.of_eq (by rfl) (by rfl)) (.answerWith _ _ _ _)) h

theorem serveCamXfer (h : P s) (i : Ticket) (camera device direction : Byte) (register : BitVec 16) (count : Byte)
    (data : List Byte) : P (s.serveCamXfer i camera device direction register count data) := by
  obtain ⟨r, e⟩ | ⟨p, x, -, e⟩ := s.serveCamXfer_cases i camera device direction register count data
  · rw [e]
    exact k.answerWith h _ _ _
  · rw [e]
    exact k.same ((SameUnits.setChan s p _).trans (.arbitrate _ p)) h

theorem serveLineConfig (h : P s) (i : Ticket) (line function polarity debounce role edge source : Byte) :
    P (s.serveLineConfig i line function polarity debounce role edge source) := by
  unfold State.serveLineConfig
  split
  · exact k.same ((SameUnits.configureLine s _ _).trans (.answerWith _ _ _ _)) h
  · exact k.answerWith h _ _ _

theorem serveStoreWrite (h : P s) (i : Ticket) (offset : BitVec 16) (data : List Byte) :
    P (s.serveStoreWrite i offset data) := by
  obtain ⟨r, e⟩ | ⟨-, -, e⟩ := s.serveStoreWrite_cases i offset data
  · rw [e]
    exact k.answerWith h _ _ _
  · rw [e]
    exact k.same (.of_eq (by rfl) (by rfl)) h

theorem serveStoreRead (h : P s) (i : Ticket) (offset : BitVec 16) : P (s.serveStoreRead i offset) := by
  obtain ⟨r, e⟩ | e := s.serveStoreRead_cases i offset
  · rw [e]
    exact k.answerWith h _ _ _
  · rw [e]
    exact k.same (.of_eq (by rfl) (by rfl)) h

theorem serveReq (h : P s) (i : Ticket) (q : Req) : P (s.serveReq i q) := by
  have hanswered (u : State) (e : SameUnits s u) (r : Result) : P (u.answer i r) :=
    k.same (e.trans (.answerWith _ _ _ _)) h
  cases q with
  | loadBegin table slot camera total crc => exact k.serveLoadBegin h i table slot camera total crc
  | loadData segment data => exact k.serveLoadData h i segment data
  | loadEnd => exact k.serveLoadEnd h i
  | loadAbort =>
    rw [State.serveReq, State.serveLoadAbort]
    split
    · exact k.closed h _ _ _
    · exact k.answerWith h _ _ _
  | tableRead table slot camera offset length => exact k.serveTableRead h i table slot camera offset length
  | bindMode mode slot => exact hanswered (s.bind mode slot).2 (.bind s mode slot) _
  | setView mode => exact k.serveSetView h i mode
  | releaseView => exact hanswered { s with modes.override := none } (.of_eq rfl rfl) .done
  | elementWrite index record => exact k.serveElementWrite h i index record
  | elementClear index => exact k.serveElementClear h i index
  | camXfer c d dir r n data => exact k.serveCamXfer h i c d dir r n data
  | lineConfig l f p d r e o => exact k.serveLineConfig h i l f p d r e o
  | linesSet mask => exact hanswered (s.setManual mask true) (.of_eq rfl rfl) .done
  | linesClear mask => exact hanswered (s.setManual mask false) (.of_eq rfl rfl) .done
  | eventEnable mask => exact hanswered { s with mgmt.enable := mask } (.of_eq rfl rfl) .done
  | eventAck mask => exact hanswered { s with mgmt.status := s.mgmt.status &&& ~~~mask } (.of_eq rfl rfl) .done
  | storeWrite offset data => exact k.serveStoreWrite h i offset data
  | storeRead offset => exact k.serveStoreRead h i offset
  | reset w => exact k.serveReset h i w

theorem serve (h : P s) (r : Request) : P (s.serve r) := by
  unfold State.serve
  split
  · exact k.answerWith h _ _ _
  · exact k.answerWith h _ _ _
  · exact k.serveReq h _ _

/-- A boot entry is skipped, binds modes, is a layout table written at once, or waits for the turnover (R174). -/
theorem applyEntry (h : P s) (index : Nat) (code slot camera : Byte) (data : List Byte) :
    P (s.applyEntry index code slot camera data) := by
  have hfail (u : State) : SameUnits u (u.setBoot (u.store.boot.fail index)).continueBoot :=
    (SameUnits.setBoot u (b := u.store.boot.fail index) fun _ h => h).trans (.continueBoot _)
  unfold State.applyEntry
  split
  · exact k.same (hfail s) h
  · dsimp only
    split
    · exact k.same ((SameUnits.applyBindings s data).trans (.continueBoot _)) h
    · exact k.same ((SameUnits.applyBindings s data).trans (hfail _)) h
  · rename_i d hv
    obtain ⟨hl, hcheck⟩ := State.entryVerdict_layout_checked hv
    exact k.same (.continueBoot _) (k.writeLayout s d h hl hcheck)
  · rename_i d hv
    exact k.setDue s d h (State.entryVerdict_due_checked hv)

theorem bootEntryRead (h : P s) (answered : Bool) : P (s.bootEntryRead answered) := by
  unfold State.bootEntryRead
  dsimp only
  obtain ⟨mem, e, -⟩ := s.endLateWrites_frame
  have hpop (b : Boot) (hb : b.due = s.store.boot.due) : SameUnits s (s.endLateWrites.popAccess.setBoot b) := by
    rw [e]
    exact .of_eq (by rw [State.units, State.units, State.setBoot, hb]; rfl) rfl
  split
  · split
    · exact k.same ((hpop (s.store.boot.fail s.store.boot.index) rfl).trans (.endBoot _ _)) h
    · refine k.applyEntry (k.same (hpop _ ?_) h) _ _ _ _ _
      rfl
  · exact h

/-- What the work on tables keeps, every command keeps. -/
theorem keptByCommands : KeptByCommands P where
  pending _ _ h := k.same (.of_eq (by rfl) (by rfl)) h
  tick s h := k.same (.tick s) h
  loseRequest _ h := k.same (.of_eq (by rfl) (by rfl)) h
  pushRequest _ _ h _ _ := k.same (.of_eq (by rfl) (by rfl)) h
  serve s r rest h _ _ := k.serve (k.same (t := s.popRequest rest) (.of_eq (by rfl) (by rfl)) h) r
  powerOn s _ := k.same (.powerOnAgain s) k.reset
  lockGained s p h := k.same (.lockGained s p) h
  lockLost s p h := k.same (.lockLost s p) h
  frameStartMark s p h := k.same (.frameStartMark s p) h
  lineReceived s p pixels h := k.same (.lineReceived s p pixels) h
  frameEndMark s p n attention h := k.same (.frameEndMark s p n attention) h
  stalenessExpiry s p h := k.same (.stalenessExpiry s p) h
  dramWriteComplete s h := k.same (.dramWriteComplete s) h
  sourceReadComplete s h := k.same (.sourceReadComplete s) h
  bandCompletion s b h := k.same (.bandCompletion s b) h
  frameStart s h := k.same (.frameStart s) h
  bandStart s b h := k.same (.bandStart s b) h
  bandEnd s b h := k.same (.bandEnd s b) h
  turnoverWork s h := k.turnoverWork s h
  vehicleRecord s bs h := k.same (.vehicleRecord s bs) h
  staleExpiry s h := k.same (.staleExpiry s) h
  lostExpiry s h := k.same (.lostExpiry s) h
  rawChange s l level h := k.same (.rawChange s l level) h
  debounceExpiry s l h := k.same (.debounceExpiry s l) h
  loadTimerExpiry s h := k.same (.loadTimerExpiry s) h
  cameraAnswer s p accept h := k.same (.cameraAnswer s p accept) h
  readByte s p b h := k.same (.readByte s p b) h
  stepTimerExpiry s p h := k.same (.stepTimerExpiry s p) h
  stopMarkSent s p h := k.same (.stopMarkSent s p) h
  pageWriteComplete s h := k.same (.pageWriteComplete s) h
  writeTimerExpiry s h := k.same (.writeTimerExpiry s) h
  storeReadComplete s answered h := k.same (.storeReadComplete s answered) h
  bootWaitExpiry s h := k.same (.bootWaitExpiry s) h
  bootHeaderRead s answered h := k.same (.bootHeaderRead s answered) h
  bootEntryRead _ answered h := k.bootEntryRead h answered

end KeptByTableWork

theorem CheckedTables.putEdit (h : CheckedTables s) {e : Edit} (he : ∀ r, e.change = some r → elementOk r = true) :
    CheckedTables { s with ovl.edits := putEdit s.ovl.edits e } :=
  h.setEdits fun x hx => by
    obtain hx | rfl := mem_putEdit hx
    · exact h.edits x hx
    · exact he

theorem checkedTables_reset : CheckedTables State.reset := (tablesChecked_iff _).mp tablesChecked_reset

theorem keptByTableWork_checked : KeptByTableWork CheckedTables where
  reset := checkedTables_reset
  same e h := h.of_same e.toSameTables
  writeLayout _ _ h hl hd := h.writeLayout hl hd
  waits _ k h hd := h.waits hd k
  setDue _ _ h hd := h.setDue hd
  putEdit _ _ h he := h.putEdit he
  viewReset s h := h.of_same (.viewResetBlocks s)
  turnoverWork _ h := h.turnoverWork

/-- The gains follow the tables: with every table checked they stay in range. -/
theorem keptByTableWork_gains : KeptByTableWork fun s => CheckedTables s ∧ GainsInRange s where
  reset := ⟨checkedTables_reset, gainsInRange_reset⟩
  same e h := ⟨h.1.of_same e.toSameTables, h.2.of_same e.cams e.plan⟩
  writeLayout s d h hl hd := by
    obtain ⟨slots, e⟩ := s.writeLayout_frame d
    exact ⟨h.1.writeLayout hl hd, h.2.of_same (by rw [e]) (by rw [e])⟩
  waits _ k h hd := ⟨h.1.waits hd k, h.2⟩
  setDue _ _ h hd := ⟨h.1.setDue hd, h.2⟩
  putEdit _ _ h he := ⟨h.1.putEdit he, h.2⟩
  viewReset s h := ⟨h.1.of_same (.viewResetBlocks s), h.2.viewResetBlocks h.1⟩
  turnoverWork _ h := ⟨h.1.turnoverWork, h.2.turnoverWork h.1⟩

/-- Settles O11. -/
theorem everyStepKeepsTablesCheckedAndGainsInRange : Obligations.EveryStepKeepsTablesCheckedAndGainsInRange := by
  refine ⟨fun s t h e => ?_, fun s t h hg e => ?_⟩
  · exact (tablesChecked_iff t).mpr (keptByTableWork_checked.keptByCommands.step s t ((tablesChecked_iff s).mp h) e)
  · exact (keptByTableWork_gains.keptByCommands.step s t ⟨(tablesChecked_iff s).mp h, hg⟩ e).2

end Sys2Proof.Machine
end

section
/-! PROOF. A VIEW reset (O6; R14, R20, R22, R58, R74, R112, R114, R169). -/

namespace Sys2Proof.Machine

variable {s : State}

/-! ## The ports and their events (R14, R22) -/

/-- A port after its part of a VIEW reset. -/
def State.viewPort (s : State) (p : Cam) : Port := (s.port p).viewReset (s.writingFor p)

/-- The status word once a port's VIEW reset has raised CAM-STATE where its state changed (R14). -/
def State.markView (s : State) (p : Cam) (status : BitVec 24) : BitVec 24 :=
  if (s.viewPort p).st ≠ (s.port p).st then status ||| eventBit (evCamState p) else status

/-- The status word after all four ports. -/
def State.viewStatus (s : State) : BitVec 24 :=
  s.markView 3 (s.markView 2 (s.markView 1 (s.markView 0 s.mgmt.status)))

theorem State.viewResetPorts_eq (s : State) : forCams State.viewResetPort s =
    { s with ports := Quad.build s.viewPort, mgmt.status := s.viewStatus } := by
  simp only [forCams, State.viewResetPort, State.putPort_eq]
  rfl

theorem State.markView_getLsbD (s : State) (p : Cam) (status : BitVec 24) {n : Nat} (hn : n < 24) :
    (s.markView p status).getLsbD n =
      (status.getLsbD n || decide (n = p.val) && decide ((s.viewPort p).st ≠ (s.port p).st)) := by
  unfold State.markView
  split
  · rename_i h
    rw [BitVec.getLsbD_or, getLsbD_eventBit _ _ hn, decide_eq_true h, Bool.and_true]
    rfl
  · rename_i h
    rw [decide_eq_false h, Bool.and_false, Bool.or_false]

theorem State.viewStatus_camState (s : State) (p : Cam) : s.viewStatus.getLsbD p.val =
    (s.mgmt.status.getLsbD p.val || decide ((s.viewPort p).st ≠ (s.port p).st)) := by
  have hp : p.val < 24 := by omega
  simp only [State.viewStatus, s.markView_getLsbD _ _ hp]
  fin_cases p <;> simp

theorem State.viewStatus_of_le (s : State) {n : Nat} (h4 : 4 ≤ n) (hn : n < 24) :
    s.viewStatus.getLsbD n = s.mgmt.status.getLsbD n := by
  have hne (p : Cam) : decide (n = p.val) = false := decide_eq_false (by omega)
  simp only [State.viewStatus, s.markView_getLsbD _ _ hn, hne, Bool.false_and, Bool.or_false]

/-! ## One port (R20, R22) -/

section port

variable (p : Port) (granted : Bool)

/-- What every port keeps and clears at a VIEW reset, whatever its state becomes. -/
theorem Port.viewReset_frame : ∃ st acquire staleness, p.viewReset granted = { p with
    st := st, acquire := acquire, staleness := staleness, flight := none, bufs := keepGranted granted p.bufs
    validFrames := 0, drops := 0, repeats := 0, lastSig := none, attention := false
    ring := Ring.release (Ring.release p.ring .filling) .ready } := by
  unfold Port.viewReset
  dsimp only
  split
  · split <;> exact ⟨_, _, _, rfl⟩
  · exact ⟨_, _, _, rfl⟩

theorem Port.viewReset_st : (p.viewReset granted).st =
    if profileEnabled p.profile then (if p.lock then .acquiring else .absent) else .off := by
  unfold Port.viewReset
  dsimp only
  split
  · split <;> rfl
  · rfl

theorem Port.viewReset_locked (he : profileEnabled p.profile = true) (hl : p.lock = true) :
    (p.viewReset granted).acquire = 0 ∧ (p.viewReset granted).staleness = .running 100 := by
  unfold Port.viewReset
  dsimp only
  rw [if_pos he, if_pos hl]
  exact ⟨rfl, rfl⟩

theorem Port.viewReset_unlocked (h : profileEnabled p.profile = false ∨ p.lock = false) :
    (p.viewReset granted).staleness = .stopped := by
  unfold Port.viewReset
  dsimp only
  split
  · split
    · rename_i he hl
      simp [he, hl] at h
    · rfl
  · rfl

theorem Port.viewReset_ring (i : Fin 3) : ((p.viewReset granted).ring.get i) =
    if (p.ring.get i).st = .filling ∨ (p.ring.get i).st = .ready then ⟨.free, none⟩ else p.ring.get i := by
  obtain ⟨st, acquire, staleness, e⟩ := p.viewReset_frame granted
  rw [e, Ring.get_release, Ring.get_release]
  by_cases hf : (p.ring.get i).st = .filling
  · simp [hf, Slot.empty]
  · simp [hf, Slot.empty]

end port

/-! ## The whole reset -/

/-- The mode after a VIEW reset (R114). -/
def State.viewMode (s : State) : Mode :=
  if s.store.boot.status = .running then s.modes.mode
  else if s.modes.bind.panorama.isSome then .panorama else .standby

theorem State.setMode_eq (s : State) (m : Mode) : s.setMode m = { s with
    modes := { s.modes with mode := m, dwell := if m = s.modes.mode then s.modes.dwell else 0 }
    mgmt.status := if m = s.modes.mode then s.mgmt.status else s.mgmt.status ||| eventBit evModeChange } := by
  unfold State.setMode
  split
  · rename_i h
    simp [h]
  · rfl

/-- The part after a VIEW reset, its answer aside (R169). -/
theorem State.viewResetBlocks_eq (s : State) : s.viewResetBlocks = { s with
    ports := Quad.build s.viewPort
    bal.cams := Quad.build fun c => ⟨viewResetGain s.bal.table (s.port c).profile c,
      viewResetGain s.bal.table (s.port c).profile c, 0, 0, 0⟩
    modes := { s.modes with mode := s.viewMode, kerb := false, dwell := 0, hold := true }
    mgmt.status := if s.viewMode = s.modes.mode then s.viewStatus else s.viewStatus ||| eventBit evModeChange
    comp.incomplete := true
    dram.lastPort := 3 } := by
  have hprofile (c : Cam) : ((Quad.build s.viewPort).get c).profile = (s.port c).profile := by
    rw [Quad.get_build]
    exact congrArg Prod.fst (Port.viewReset_tables _ _)
  unfold State.viewResetBlocks
  rw [State.viewResetPorts_eq, State.resetBalanceView, State.resetModeView, State.setMode_eq]
  simp only [State.port, hprofile]
  rfl

theorem State.withPlace_viewResetBlocks (s : State) : s.withPlace.viewResetBlocks = s.viewResetBlocks.withPlace := by
  rw [State.viewResetBlocks_eq, State.viewResetBlocks_eq]
  rfl

theorem exec_resetView (h : s.takesAtOnce) (tag : Byte) :
    exec (.resetView tag) s = .next (s.viewResetBlocks.responded tag 0x70 .done []) := by
  rw [exec_taken_of_command (q := .reset 1) rfl rfl h]
  refine congrArg Host.Outcome.next ?_
  change s.withPlace.viewResetBlocks.answer ⟨tag, 0x70⟩ .done = _
  rw [State.withPlace_viewResetBlocks]
  exact State.withPlace_answerWith _ _ _ _

theorem State.writingFor_iff (s : State) (p : Cam) : s.writingFor p = true ↔ s.dram.granted = some (.write p) :=
  decide_eq_true_iff

/-- The status word after a VIEW reset: the ports' events, then MODE-CHANGE where the mode changed (R112). -/
def State.viewedStatus (s : State) : BitVec 24 :=
  if s.viewMode = s.modes.mode then s.viewStatus else s.viewStatus ||| eventBit evModeChange

theorem State.viewedStatus_getLsbD (s : State) {n : Nat} (hn : n < 24) : s.viewedStatus.getLsbD n =
    (s.viewStatus.getLsbD n || decide (n = 23) && decide (s.viewMode ≠ s.modes.mode)) := by
  unfold State.viewedStatus
  split
  · rename_i h
    rw [decide_eq_false (not_not.mpr h), Bool.and_false, Bool.or_false]
  · rename_i h
    rw [BitVec.getLsbD_or, getLsbD_eventBit _ _ hn, decide_eq_true h, Bool.and_true]
    rfl

/-- Settles O6: the ports, the gains, the mode controller, the status word, and all that stands. -/
theorem viewResetRestartsPortsGainsAndMode : Obligations.ViewResetRestartsPortsGainsAndMode := by
  intro tag s hs
  refine ⟨_, exec_resetView hs tag, ?_⟩
  rw [State.viewResetBlocks_eq, ← State.viewedStatus]
  refine ⟨fun p => ?_, fun c => ?_, rfl, rfl, rfl, rfl, rfl, rfl, rfl, rfl, ?_, fun n h4 hn => ?_, rfl, rfl, rfl, rfl, rfl,
    rfl, rfl, rfl, rfl, rfl, rfl⟩
  · have hp : p.val < 24 := by omega
    have hne : decide (p.val = 23) = false := decide_eq_false (by omega)
    obtain ⟨st, acquire, staleness, e⟩ := (s.port p).viewReset_frame (s.writingFor p)
    have hbufs : keepGranted (s.writingFor p) (s.port p).bufs =
        if s.dram.granted = some (.write p) then (s.port p).bufs.take 1 else [] := by
      simp only [keepGranted, State.writingFor_iff]
    rw [State.port, State.responded]
    dsimp only
    rw [Quad.get_build, s.viewedStatus_getLsbD hp, hne, Bool.false_and, Bool.or_false, s.viewStatus_camState]
    refine ⟨Port.viewReset_st _ _, Port.viewReset_locked _ _, Port.viewReset_unlocked _ _, ?_, ?_, ?_, ?_, ?_, ?_, ?_, ?_,
      ?_, ?_, Port.viewReset_ring _ _, rfl⟩
    all_goals rw [State.viewPort, e]
    exact hbufs
  · rw [State.camBal, State.responded]
    dsimp only
    rw [Quad.get_build]
    exact ⟨rfl, rfl, rfl, rfl, rfl⟩
  · exact (s.viewedStatus_getLsbD (by decide)).trans (by rw [s.viewStatus_of_le (by decide) (by decide)]; rfl)
  · have hne : decide (n = 23) = false := decide_eq_false (by omega)
    refine (s.viewedStatus_getLsbD (by omega)).trans ?_
    rw [hne, Bool.false_and, Bool.or_false, s.viewStatus_of_le h4 (by omega)]

end Sys2Proof.Machine
end

section
/-! PROOF. A FULL reset (O5; R20, R21, R37, R54, R57, R73, R99, R114, R123, R130, R145, R155, R168, R172, R173). -/

namespace Sys2Proof.Machine

variable {s : State}

/-! ## The compositor and the transfer in progress (R20, R54, R57) -/

/-- A transfer once the band that a read was asked for is given up. -/
def Grant.unwanted : Grant → Grant
  | .read r _ => .read r false
  | .write p => .write p

theorem Dram.unwantRead_granted (d : Dram) : d.unwantRead.granted = d.granted.map Grant.unwanted := by
  unfold Dram.unwantRead
  split
  · rename_i h
    rw [h]
    rfl
  · rename_i h
    rw [h]
    rfl
  · rename_i h
    rw [h]
    rfl

/-- The transfer in progress after a FULL reset: a read asked for the band given up is no longer wanted. -/
def State.resetGrant (s : State) : Option Grant :=
  if s.comp.work.isSome then s.dram.granted.map Grant.unwanted else s.dram.granted

/-- The compositor of a FULL reset before it takes a band: the halves that go on, and no work. -/
def Compositor.cleared (c : Compositor) (k : Nat) : Compositor :=
  ⟨Plan.powerOn, none, k, Seam.zero, true, c.half0.fullReset, c.half1.fullReset⟩

/-- The compositor after a FULL reset at which `k` is the lowest-numbered band whose band start has not been taken. -/
def Compositor.restarted (c : Compositor) (k : Nat) : Compositor :=
  if k < 18 ∧ ((c.cleared k).half k).st = .free then
    { (c.cleared k).setHalf k ⟨.writing, k, []⟩ with work := some ⟨k, [], Quad.fill [], true⟩, next := k + 1 }
  else c.cleared k

/-- With a transfer in progress, or no camera line and no read that waits, there is nothing to grant. -/
theorem State.grant_nothing (h : ∀ p, (s.port p).bufs = [] ∨ s.dram.granted ≠ none) {w : BandWork}
    (hw : s.comp.work = some w) (hr : w.reads = []) : s.grant = s := by
  obtain ⟨-, e⟩ | ⟨hg, p, hp, -⟩ | ⟨-, -, w', r, rest, hw', hr', -⟩ | ⟨-, -, -, e⟩ := s.grant_cases
  · exact e
  · have hnone : s.nextWriter = none := State.nextWriter_eq_none_iff.mpr fun q => (h q).resolve_right (not_not.mpr hg)
    rw [hnone] at hp
    cases hp
  · rw [hw] at hw'
    cases hw'
    rw [hr] at hr'
    cases hr'
  · exact e

/-- A band that starts under a plan with no layout slot needs no source data, and no camera write waits behind it. -/
theorem State.startBand_empty (hp : s.comp.plan.slot = none) (h : ∀ p, (s.port p).bufs = [] ∨ s.dram.granted ≠ none)
    (b : Nat) : s.startBand b = { s with comp := { s.comp.setHalf b ⟨.writing, b, []⟩ with
      work := some ⟨b, [], Quad.fill [], true⟩, next := b + 1 } } := by
  unfold State.startBand
  rw [bandReads_of_no_slot hp]
  exact State.grant_nothing h rfl rfl

theorem State.resetGrant_ne_none (h : s.dram.granted ≠ none) : s.resetGrant ≠ none := by
  unfold State.resetGrant
  split
  · simpa using h
  · exact h

theorem State.resetCompositor_eq (h : ∀ p, (s.port p).bufs = [] ∨ s.dram.granted ≠ none) : s.resetCompositor =
    { s with dram.granted := s.resetGrant, comp := s.comp.restarted s.tx.phase.nextBand } := by
  have hdrop : s.dropWork = { s with comp.work := none, dram.granted := s.resetGrant } := by
    rw [State.dropWork_eq, State.resetGrant]
    split
    · rw [Dram.unwantRead_frame, Dram.unwantRead_granted]
    · rfl
  have hbase : ({ s.dropWork with comp := s.comp.cleared s.tx.phase.nextBand } : State) =
      { s with dram.granted := s.resetGrant, comp := s.comp.cleared s.tx.phase.nextBand } := by rw [hdrop]
  change State.tryStartBand { s.dropWork with comp := s.comp.cleared s.tx.phase.nextBand } = _
  rw [hbase, State.tryStartBand, Compositor.restarted]
  have hlines : ∀ p, (s.port p).bufs = [] ∨ s.resetGrant ≠ none := fun p => (h p).imp id State.resetGrant_ne_none
  by_cases hc : s.tx.phase.nextBand < 18 ∧ ((s.comp.cleared s.tx.phase.nextBand).half s.tx.phase.nextBand).st = .free
  · rw [if_pos hc, if_pos ⟨rfl, hc⟩]
    exact State.startBand_empty rfl hlines _
  · rw [if_neg hc, if_neg fun hall => hc hall.2]

/-! ## The halves (R57) -/

theorem Half.fullReset_eq (h : Half) : h.fullReset = if h.st = .sending ∨ h.st = .fill then h else ⟨.free, 0, []⟩ := by
  unfold Half.fullReset
  cases hs : h.st <;> simp [Half.empty]

theorem Half.fullReset_free_iff (h : Half) : h.fullReset.st = .free ↔ h.st ≠ .sending ∧ h.st ≠ .fill := by
  rw [Half.fullReset_eq, ← not_or]
  split
  · rename_i hs
    obtain hs | hs := hs <;> simp [hs]
  · rename_i hs
    simp [hs]

theorem Compositor.half_cleared (c : Compositor) (k j : Nat) : (c.cleared k).half j = (c.half j).fullReset := by
  unfold Compositor.half
  split <;> rfl

/-- The compositor takes band `k` where one is left and its half is neither SENDING nor FILL. -/
def Compositor.Takes (c : Compositor) (k : Nat) : Prop := k < 18 ∧ (c.half k).st ≠ .sending ∧ (c.half k).st ≠ .fill

theorem Compositor.cleared_free_iff (c : Compositor) (k : Nat) :
    (k < 18 ∧ ((c.cleared k).half k).st = .free) ↔ c.Takes k := by
  rw [Compositor.half_cleared, Half.fullReset_free_iff, Compositor.Takes]

theorem Compositor.restarted_of_takes {c : Compositor} {k : Nat} (h : c.Takes k) : c.restarted k =
    { (c.cleared k).setHalf k ⟨.writing, k, []⟩ with work := some ⟨k, [], Quad.fill [], true⟩, next := k + 1 } :=
  if_pos ((c.cleared_free_iff k).mpr h)

theorem Compositor.restarted_of_not_takes {c : Compositor} {k : Nat} (h : ¬c.Takes k) : c.restarted k = c.cleared k :=
  if_neg fun hc => h ((c.cleared_free_iff k).mp hc)

theorem Compositor.restarted_half (c : Compositor) (k : Nat) {j : Nat} (hj : j < 2) : (c.restarted k).half j =
    if (c.half j).st = .sending ∨ (c.half j).st = .fill then c.half j
    else if k < 18 ∧ j = k % 2 then ⟨.writing, k, []⟩ else ⟨.free, 0, []⟩ := by
  have hmod : j % 2 = j := Nat.mod_eq_of_lt hj
  have hk (e : j = k % 2) : c.half k = c.half j := by
    rw [Compositor.half, Compositor.half, hmod, e]
  by_cases h : c.Takes k
  · obtain ⟨h18, hs, hf⟩ := id h
    rw [Compositor.restarted_of_takes h]
    change ((c.cleared k).setHalf k ⟨.writing, k, []⟩).half j = _
    rw [Compositor.half_setHalf, Compositor.half_cleared, Half.fullReset_eq, hmod]
    by_cases e : j = k % 2
    · rw [if_pos e, ← hk e, if_neg (not_or.mpr ⟨hs, hf⟩), if_pos ⟨h18, e⟩]
    · have hne : ¬(k < 18 ∧ j = k % 2) := fun hall => e hall.2
      rw [if_neg e, if_neg hne]
  · rw [Compositor.restarted_of_not_takes h, Compositor.half_cleared, Half.fullReset_eq]
    by_cases hgo : (c.half j).st = .sending ∨ (c.half j).st = .fill
    · rw [if_pos hgo, if_pos hgo]
    · have hne : ¬(k < 18 ∧ j = k % 2) := fun ⟨h18, e⟩ => h (by
        rw [Compositor.Takes, hk e]
        exact ⟨h18, not_or.mp hgo⟩)
      rw [if_neg hgo, if_neg hgo, if_neg hne]

theorem Compositor.restarted_values (c : Compositor) (k : Nat) : (c.restarted k).plan = Plan.powerOn ∧
    (c.restarted k).seam = Seam.zero ∧ (c.restarted k).incomplete = true := by
  by_cases h : c.Takes k
  · rw [Compositor.restarted_of_takes h, Compositor.setHalf_frame]
    exact ⟨rfl, rfl, rfl⟩
  · rw [Compositor.restarted_of_not_takes h]
    exact ⟨rfl, rfl, rfl⟩

theorem Compositor.restarted_next_of_takes {c : Compositor} {k : Nat} (h : c.Takes k) :
    (c.restarted k).next = k + 1 ∧ (c.restarted k).work = some ⟨k, [], Quad.fill [], true⟩ := by
  rw [Compositor.restarted_of_takes h]
  exact ⟨rfl, rfl⟩

theorem Compositor.restarted_next_of_not_takes {c : Compositor} {k : Nat} (h : ¬c.Takes k) :
    (c.restarted k).next = k ∧ (c.restarted k).work = none := by
  rw [Compositor.restarted_of_not_takes h]
  exact ⟨rfl, rfl⟩

/-! ## The transfer in progress (R21, R54) -/

theorem State.resetGrant_none (h : s.dram.granted = none) : s.resetGrant = none := by
  simp [State.resetGrant, h]

theorem State.resetGrant_write {p : Cam} (h : s.dram.granted = some (.write p)) : s.resetGrant = some (.write p) := by
  simp [State.resetGrant, h, Grant.unwanted]

theorem State.resetGrant_read {r : SourceRead} {wanted : Bool} (h : s.dram.granted = some (.read r wanted))
    (hgone : s.comp.work ≠ none ∨ wanted = false) : s.resetGrant = some (.read r false) := by
  rw [State.resetGrant, h]
  split
  · rfl
  · rename_i hw
    have hwork : s.comp.work = none := by simpa using hw
    rw [hgone.resolve_left (not_not.mpr hwork)]

/-! ## Every block (R168) -/

/-- The blocks after a FULL reset. -/
theorem State.fullResetBlocks_values (s : State) : s.fullResetBlocks = { s with
    ports := Quad.build fun p => (s.port p).fullReset (s.writingFor p)
    dram := { s.dram with granted := s.resetGrant, lastPort := 3 }
    layouts := LayoutStore.powerOn, comp := s.comp.restarted s.tx.phase.nextBand
    bal := BalanceUnit.powerOn, ovl := OverlayEngine.powerOn, modes := ModeController.powerOn
    veh := Vehicle.powerOn (Oct.build fun l => (s.line l).raw)
    chans := Quad.build fun p => Channel.powerOn (s.port p).lock
    mgmt := Management.powerOn, store := s.resetStore.store } := by
  have hlines (p : Cam) : (s.resetBeforeCompositor.port p).bufs = [] ∨ s.resetBeforeCompositor.dram.granted ≠ none := by
    change ((Quad.build fun p => (s.port p).fullReset (s.writingFor p)).get p).bufs = [] ∨ s.dram.granted ≠ none
    rw [Quad.get_build, Port.fullReset, keepGranted, State.writingFor]
    by_cases hg : s.dram.granted = some (.write p)
    · exact .inr (by simp [hg])
    · exact .inl (by simp [hg])
  have hlock (p : Cam) : ((Quad.build fun p => (s.port p).fullReset (s.writingFor p)).get p).lock = (s.port p).lock := by
    rw [Quad.get_build]
    rfl
  rw [State.fullResetBlocks_eq, State.resetCompositor_eq hlines]
  dsimp only [State.resetVehicle, State.resetChannels, State.resetStore, State.resetBeforeCompositor, State.resetPorts]
  simp only [hlock]
  rfl

/-- The header record of a state whose blocks have their power-on values (R154). -/
theorem State.headerNow_of_powerOn {u : State} {responses : List Response} (hlen : responses.length ≤ 8)
    (hcam : ∀ c, u.camHeader c = ⟨.off, none, 256, 0, 0⟩) (hlayouts : u.layouts = LayoutStore.powerOn)
    (hmodes : u.modes = ModeController.powerOn) (hstate : u.veh.state = .none) (hband : u.veh.band = 0)
    (hmgmt : u.mgmt = { Management.powerOn with filled := responses }) (hboot : u.store.boot = Boot.begin)
    (hwriting : u.store.writing = none) : u.headerNow = { Header.powerOn with
      frameNo := u.tx.frameNo + 1, underrun := u.tx.underrun, responses := responses } := by
  have hattn : u.attentionFlag = false := by
    rw [State.attentionFlag, hmgmt]
    exact (by decide : decide ((0 : BitVec 24) &&& 0 ≠ 0) = false)
  have hcams : Quad.build u.camHeader = Quad.fill ⟨.off, none, 256, 0, 0⟩ := by
    rw [funext hcam]
    rfl
  have htake : responses.take 8 = responses := List.take_of_length_le hlen
  simp only [State.headerNow, hattn, hcams, hlayouts, hmodes, hstate, hband, hmgmt, hboot, hwriting,
    Config.headerResponses, htake]
  rfl

/-- The header record built again in blanking, right after a FULL reset (R155). -/
theorem State.fullResetBlocks_header (s : State) (responses : List Response) (h : responses.length ≤ 8) :
    ({ s.fullResetBlocks with mgmt.filled := responses } : State).headerNow = { Header.powerOn with
      frameNo := s.tx.frameNo + 1, underrun := s.tx.underrun, responses := responses } := by
  rw [State.fullResetBlocks_values]
  refine State.headerNow_of_powerOn h (fun c => ?cam) rfl rfl rfl rfl rfl rfl rfl
  case cam =>
    have hgain : (BalanceUnit.powerOn.cams.get c).gain = 256 := congrArg Balance.gain (Quad.get_fill _ c)
    simp only [State.camHeader, State.port, State.chan, State.camBal, Quad.get_build, hgain]
    rfl

/-! ## The command -/

/-- The header record in the transmitter and the responses that wait, after a FULL reset answered by `x` (R155, R168). -/
theorem State.fullResetBlocks_rebuildHeader (s : State) (x : Response) :
    ({ s.fullResetBlocks with mgmt.filled := [x] } : State).rebuildHeader = { s.fullResetBlocks with
      tx := if s.tx.phase = .blanking then { s.tx with header := { Header.powerOn with
        frameNo := s.tx.frameNo + 1, underrun := s.tx.underrun, responses := [x] } } else s.tx
      mgmt := if s.tx.phase = .blanking then Management.powerOn else { Management.powerOn with filled := [x] } } := by
  have htx : s.fullResetBlocks.tx = s.tx := by rw [s.fullResetBlocks_values]
  have hmgmt : s.fullResetBlocks.mgmt = Management.powerOn := by rw [s.fullResetBlocks_values]
  have hheader := s.fullResetBlocks_header [x] (Nat.le_add_left 1 7)
  generalize s.fullResetBlocks = u at htx hmgmt hheader ⊢
  by_cases hb : s.tx.phase = .blanking
  · refine (if_pos (htx ▸ hb)).trans ?_
    rw [State.buildHeader, hheader]
    simp only [if_pos hb, hmgmt, htx]
    rfl
  · refine (if_neg (htx ▸ hb)).trans ?_
    simp only [if_neg hb, hmgmt, htx]

theorem exec_resetFull (h : s.takesAtOnce) (tag : Byte) : exec (.resetFull tag) s = .next
    ({ s.fullResetBlocks with mgmt.filled := [⟨tag, 0x70, .done, []⟩] } : State).rebuildHeader :=
  exec_taken_of_command (q := .reset 0) rfl rfl h

theorem Port.fullReset_bufs_of_grant (s : State) (p : Cam) : (s.port p).fullReset (s.writingFor p) =
    { Port.powerOn (s.port p).lock with
      bufs := if s.dram.granted = some (.write p) then (s.port p).bufs.take 1 else [] } := by
  simp only [Port.fullReset, keepGranted, State.writingFor_iff]

/-- Settles O5: the blocks in closed form, then the header record that blanking builds again at once. -/
theorem fullResetRestoresPowerOnValues : Obligations.FullResetRestoresPowerOnValues := by
  intro tag s hs
  refine ⟨_, exec_resetFull hs tag, ?_⟩
  rw [State.fullResetBlocks_rebuildHeader, State.fullResetBlocks_values]
  refine ⟨?frameNo, ?phase, ?underrun, ?sent, ?blanking, ?port, rfl, rfl, State.resetGrant_none,
    fun p => State.resetGrant_write, fun r wanted => State.resetGrant_read, ?halves, rfl,
    (s.comp.restarted_values _).1, (s.comp.restarted_values _).2.1, (s.comp.restarted_values _).2.2,
    rfl, rfl, rfl, rfl, ?chan, ?store, rfl, rfl⟩
  case frameNo => dsimp only; split <;> rfl
  case phase => dsimp only; split <;> rfl
  case underrun => dsimp only; split <;> rfl
  case sent =>
    intro hb
    dsimp only
    rw [if_neg hb, if_neg hb]
    exact ⟨rfl, rfl⟩
  case blanking =>
    intro hb
    dsimp only
    rw [if_pos hb, if_pos hb]
    exact ⟨rfl, rfl⟩
  case port => exact fun p => (Quad.get_build _ p).trans (Port.fullReset_bufs_of_grant s p)
  case chan => exact fun p => Quad.get_build _ p
  case halves =>
    intro k hk
    have hnext : k = s.tx.phase.nextBand := by
      rw [hk]
      cases s.tx.phase <;> rfl
    obtain rfl := hnext
    exact ⟨fun j hj => s.comp.restarted_half _ hj, Compositor.restarted_next_of_takes,
      Compositor.restarted_next_of_not_takes⟩
  case store =>
    intro writes hw
    obtain rfl : writes = s.store.writes := hw
    rfl

end Sys2Proof.Machine
end

section
/-! SUPPORT. The requests that wait affect no owner's work (R158, R159): each operation but a FULL reset does the same
whatever the request queue holds. -/

namespace Sys2Proof.Machine

variable (s : State) (l : List Request)

/-- The state with other requests waiting. -/
def State.withQueue (s : State) (l : List Request) : State := { s with mgmt.queue := l }

/-! ## What does not see the queue -/

@[simp] theorem State.withQueue_port (p : Cam) : (s.withQueue l).port p = s.port p := rfl
@[simp] theorem State.withQueue_chan (p : Cam) : (s.withQueue l).chan p = s.chan p := rfl
@[simp] theorem State.withQueue_camBal (p : Cam) : (s.withQueue l).camBal p = s.camBal p := rfl
@[simp] theorem State.withQueue_bal : (s.withQueue l).bal = s.bal := rfl
@[simp] theorem State.withQueue_ovl : (s.withQueue l).ovl = s.ovl := rfl
@[simp] theorem State.withQueue_modes : (s.withQueue l).modes = s.modes := rfl
@[simp] theorem State.withQueue_store : (s.withQueue l).store = s.store := rfl
@[simp] theorem State.withQueue_load : (s.withQueue l).mgmt.load = s.mgmt.load := rfl
@[simp] theorem State.withQueue_dueTables : (s.withQueue l).dueTables = s.dueTables := rfl
@[simp] theorem State.withQueue_loadVerdict : (s.withQueue l).loadVerdict = s.loadVerdict := rfl
@[simp] theorem State.withQueue_tableContent (d : TableLoad) : (s.withQueue l).tableContent d = s.tableContent d := rfl
@[simp] theorem State.withQueue_writingFor (p : Cam) : (s.withQueue l).writingFor p = s.writingFor p := rfl

theorem State.withQueue_setChan (p : Cam) (v : Channel) :
    (s.withQueue l).setChan p v = (s.setChan p v).withQueue l := rfl

theorem State.withQueue_setBal (p : Cam) (v : Balance) :
    (s.withQueue l).setBal p v = (s.setBal p v).withQueue l := rfl

theorem State.withQueue_setBoot (b : Boot) : (s.withQueue l).setBoot b = (s.setBoot b).withQueue l := rfl

theorem State.withQueue_withQueue (l' : List Request) : (s.withQueue l').withQueue l = s.withQueue l := rfl

theorem State.withQueue_self : s.withQueue s.mgmt.queue = s := rfl

theorem State.ite_withQueue {c c' : Prop} [Decidable c] [Decidable c'] {u v u' v' : State} (hc : c' ↔ c)
    (hu : u' = u.withQueue l) (hv : v' = v.withQueue l) :
    (if c' then u' else v') = (if c then u else v : State).withQueue l := by
  rw [hu, hv, if_congr hc rfl rfl]
  split <;> rfl

theorem State.withQueue_raiseIf (c : Bool) (n : Nat) :
    (s.withQueue l).raiseIf c n = (s.raiseIf c n).withQueue l := by
  cases c <;> rfl

theorem State.withQueue_putPort (p : Cam) (q : Port) : (s.withQueue l).putPort p q = (s.putPort p q).withQueue l :=
  (s.setPort p q).withQueue_raiseIf l _ _

/-! ## The channels -/

theorem State.withQueue_handResult (p : Cam) (t : Transaction) (r : Result) (data : List Byte) :
    (s.withQueue l).handResult p t r data = (s.handResult p t r data).withQueue l := by
  unfold State.handResult
  split
  · rfl
  · split
    · split <;> rfl
    · rfl
  · split <;> rfl

theorem State.withQueue_arbitrateN (p : Cam) : ∀ (n : Nat) (s : State),
    State.arbitrateN p n (s.withQueue l) = (State.arbitrateN p n s).withQueue l
  | 0, _ => rfl
  | n + 1, s => by
    rw [State.arbitrateN, State.arbitrateN, State.withQueue_chan, State.withQueue_port]
    split
    · rfl
    · split
      · rfl
      · rename_i ch _
        split
        · rfl
        · have hs : (s.withQueue l).setChan p ((s.chan p).take ch) =
              (s.setChan p ((s.chan p).take ch)).withQueue l := rfl
          rw [hs, State.withQueue_handResult, State.withQueue_arbitrateN p n]

theorem State.withQueue_arbitrate (p : Cam) : (s.withQueue l).arbitrate p = (s.arbitrate p).withQueue l :=
  State.withQueue_arbitrateN l p _ s

theorem State.withQueue_handExposure (p : Cam) (v : Nat) :
    (s.withQueue l).handExposure p v = (s.handExposure p v).withQueue l :=
  State.withQueue_arbitrate (s.setChan p { s.chan p with exposure := some v }) l p

theorem State.withQueue_askAttention (p : Cam) : (s.withQueue l).askAttention p = (s.askAttention p).withQueue l :=
  State.withQueue_arbitrate (s.setChan p { s.chan p with attnWaiting := true }) l p

/-! ## Tables and gains at a turnover -/

theorem State.withQueue_applyProfile (p : Cam) (profile : List Byte) :
    (s.withQueue l).applyProfile p profile = (s.applyProfile p profile).withQueue l := by
  unfold State.applyProfile
  simp only [State.withQueue_port, State.withQueue_writingFor, State.withQueue_putPort, State.withQueue_chan,
    State.withQueue_setChan, State.withQueue_camBal, State.withQueue_setBal, State.withQueue_askAttention]
  split <;> rfl

theorem State.withQueue_applyCamTable (d : TableLoad) :
    (s.withQueue l).applyCamTable d = (s.applyCamTable d).withQueue l := by
  unfold State.applyCamTable
  split
  · exact s.withQueue_applyProfile l d.cam d.content
  · rfl
  · rfl

theorem State.withQueue_applyCamTables : ∀ (ds : List TableLoad) (s : State),
    ds.foldl State.applyCamTable (s.withQueue l) = (ds.foldl State.applyCamTable s).withQueue l
  | [], _ => rfl
  | d :: ds, s => by
    rw [List.foldl_cons, List.foldl_cons, State.withQueue_applyCamTable, State.withQueue_applyCamTables ds]

theorem State.withQueue_nudgeTest (c : Cam) : (s.withQueue l).nudgeTest c = (s.nudgeTest c).withQueue l := by
  unfold State.nudgeTest
  simp only [State.withQueue_port, State.withQueue_chan, State.withQueue_camBal]
  split
  · split
    · rfl
    · split
      · rfl
      · exact State.withQueue_handExposure (s.setBal c (s.camBal c).nudged) l c _
  · rfl

theorem State.withQueue_settleAndNudge (c : Cam) :
    (s.withQueue l).settleAndNudge c = (s.settleAndNudge c).withQueue l := by
  unfold State.settleAndNudge
  simp only [State.withQueue_setBal, State.withQueue_nudgeTest, State.withQueue_camBal, State.withQueue_bal]
  split <;> rfl

theorem State.withQueue_balanceTurnover : (s.withQueue l).balanceTurnover = s.balanceTurnover.withQueue l := by
  have hg : (s.withQueue l).gainTurnover = s.gainTurnover.withQueue l := rfl
  simp only [State.balanceTurnover, forCams, hg, State.withQueue_settleAndNudge]

theorem State.withQueue_turnBalance (table : Option (List Byte)) :
    (s.withQueue l).turnBalance table = (s.turnBalance table).withQueue l := by
  have hb (u : State) (bs : List Byte) :
    (u.withQueue l).applyBalanceTable bs = (u.applyBalanceTable bs).withQueue l := rfl
  cases table with
  | none => exact s.withQueue_balanceTurnover l
  | some bs => rw [State.turnBalance, State.turnBalance, State.withQueue_balanceTurnover, hb]

theorem State.withQueue_applyRules (table : Option (List Byte)) :
    (s.withQueue l).applyRules table = (s.applyRules table).withQueue l := by
  cases table <;> rfl

theorem State.withQueue_applyBands (table : Option (List Byte)) :
    (s.withQueue l).applyBands table = (s.applyBands table).withQueue l := by
  cases table <;> rfl

theorem State.withQueue_applyPalette (table : Option (List Byte)) :
    (s.withQueue l).applyPalette table = (s.applyPalette table).withQueue l := by
  cases table <;> rfl

theorem State.withQueue_applyGlyphs (table : Option (List Byte)) :
    (s.withQueue l).applyGlyphs table = (s.applyGlyphs table).withQueue l := by
  cases table <;> rfl

theorem State.withQueue_answerEdits (r : Result) : ∀ (edits : List Edit) (s : State),
    (s.withQueue l).answerEdits edits r = (s.answerEdits edits r).withQueue l
  | [], _ => rfl
  | e :: edits, s => State.withQueue_answerEdits r edits (s.answer e.ticket r)

theorem State.withQueue_applyEdits (table : Option (List Byte)) :
    (s.withQueue l).applyEdits table = (s.applyEdits table).withQueue l := by
  cases table with
  | none => exact State.withQueue_answerEdits l .done s.ovl.edits { s with ovl := _ }
  | some bs => exact State.withQueue_answerEdits l .superseded s.ovl.edits { s with ovl := _ }

theorem State.withQueue_applyTables (ds : List TableLoad) :
    (s.withQueue l).applyTables ds = (s.applyTables ds).withQueue l := by
  simp only [State.applyTables, State.withQueue_applyCamTables, State.withQueue_turnBalance, State.withQueue_applyRules,
    State.withQueue_applyBands, State.withQueue_applyPalette, State.withQueue_applyGlyphs, State.withQueue_applyEdits]

/-! ## The turnover -/

theorem State.withQueue_finishLoad : (s.withQueue l).finishLoad = s.finishLoad.withQueue l := by
  unfold State.finishLoad
  rw [State.withQueue_load]
  split <;> rfl

theorem State.withQueue_continueBoot : (s.withQueue l).continueBoot = s.continueBoot.withQueue l := by
  unfold State.continueBoot
  rw [State.withQueue_store]
  split <;> rfl

theorem State.withQueue_finishBootTable : (s.withQueue l).finishBootTable = s.finishBootTable.withQueue l := by
  unfold State.finishBootTable
  simp only [State.withQueue_store, State.withQueue_setBoot, State.withQueue_continueBoot]
  split <;> rfl

theorem State.withQueue_setMode (m : Mode) : (s.withQueue l).setMode m = (s.setMode m).withQueue l := by
  unfold State.setMode
  rw [State.withQueue_modes]
  split <;> rfl

/-- The mode controller's part of a turnover behind the KERB latch's update (R109, R110, R113, R114). -/
def State.takeMode (s : State) : State :=
  if s.modes.hold then s.keepHeld else if s.store.boot.status = .running then s else s.choose

/-- The slot record in use follows the mode (R31, R111). -/
def State.takeSlot (s : State) : State := { s with layouts.inUse := s.modes.bind.of s.modes.mode }

theorem State.modeTurnover_eq_takeSlot : s.modeTurnover = (State.takeMode { s with
    modes.kerb := kerbAfter s.modes.rules s.modes.kerb s.veh.state s.veh.speed }).takeSlot := rfl

theorem State.withQueue_takeMode : (s.withQueue l).takeMode = s.takeMode.withQueue l := by
  have hk : (s.withQueue l).keepHeld = s.keepHeld.withQueue l :=
    State.withQueue_setMode { s with modes.hold := false } l _
  have hc : (s.withQueue l).choose = s.choose.withQueue l := State.withQueue_setMode { s with modes.dwell := _ } l _
  unfold State.takeMode
  simp only [hk, hc, State.withQueue_modes, State.withQueue_store]
  split
  · rfl
  · split <;> rfl

theorem State.withQueue_takeSlot : (s.withQueue l).takeSlot = s.takeSlot.withQueue l := rfl

theorem State.withQueue_modeTurnover : (s.withQueue l).modeTurnover = s.modeTurnover.withQueue l := by
  rw [State.modeTurnover_eq_takeSlot, State.modeTurnover_eq_takeSlot, ← State.withQueue_takeSlot,
    ← State.withQueue_takeMode]
  rfl

/-- What the coming frame latches, at the end of the turnover's work. -/
def State.latchFrame (s : State) (live : Quad Bool) : State :=
  ({ (s.latchPlan live).latchView live with tx.phase := .blanking } : State).buildHeader

theorem State.turnoverWork_eq_latchFrame : s.turnoverWork =
    ((s.turnRings.applyTables s.dueTables).finishLoad.finishBootTable.modeTurnover).latchFrame s.liveNow := rfl

theorem State.withQueue_latchFrame (live : Quad Bool) :
    (s.withQueue l).latchFrame live = (s.latchFrame live).withQueue l := rfl

theorem State.withQueue_turnoverWork : (s.withQueue l).turnoverWork = s.turnoverWork.withQueue l := by
  have hr : (s.withQueue l).turnRings = s.turnRings.withQueue l := rfl
  have hl : (s.withQueue l).liveNow = s.liveNow := rfl
  rw [State.turnoverWork_eq_latchFrame, State.turnoverWork_eq_latchFrame, hr, hl, State.withQueue_dueTables,
    State.withQueue_applyTables, State.withQueue_finishLoad, State.withQueue_finishBootTable,
    State.withQueue_modeTurnover, State.withQueue_latchFrame]

/-! ## Requests and a VIEW reset -/

theorem State.withQueue_setDebounced (i : Fin 8) (level : Bool) :
    (s.withQueue l).setDebounced i level = (s.setDebounced i level).withQueue l :=
  State.withQueue_raiseIf (s.setLine i _) l _ _

theorem State.withQueue_answer (t : Ticket) (r : Result) :
    (s.withQueue l).answer t r = (s.answer t r).withQueue l := rfl

theorem State.withQueue_serveLoadBegin (t : Ticket) (table slot camera : Byte) (total : BitVec 16) (crc : BitVec 32) :
    (s.withQueue l).serveLoadBegin t table slot camera total crc =
      (s.serveLoadBegin t table slot camera total crc).withQueue l := by
  unfold State.serveLoadBegin
  refine State.ite_withQueue l .rfl rfl ?_
  split
  · rfl
  · exact State.ite_withQueue l .rfl rfl (State.ite_withQueue l .rfl rfl rfl)

theorem State.withQueue_serveLoadData (t : Ticket) (segment : BitVec 16) (data : List Byte) :
    (s.withQueue l).serveLoadData t segment data = (s.serveLoadData t segment data).withQueue l := by
  unfold State.serveLoadData
  exact State.ite_withQueue l .rfl rfl (State.ite_withQueue l .rfl rfl rfl)

theorem State.withQueue_writeLayout (d : TableLoad) :
    (s.withQueue l).writeLayout d = (s.writeLayout d).withQueue l := by
  unfold State.writeLayout
  cases d.table <;> rfl

theorem State.withQueue_serveLoadEnd (t : Ticket) :
    (s.withQueue l).serveLoadEnd t = (s.serveLoadEnd t).withQueue l := by
  have hc : (s.withQueue l).closeLoad = s.closeLoad.withQueue l := rfl
  unfold State.serveLoadEnd
  simp only [State.withQueue_load, State.withQueue_loadVerdict, hc, State.withQueue_writeLayout,
    State.withQueue_answer]
  split
  · rfl
  · split
    · rfl
    · rfl
    · rfl
    · rfl
    · split <;> rfl

theorem State.withQueue_serveLoadAbort (t : Ticket) :
    (s.withQueue l).serveLoadAbort t = (s.serveLoadAbort t).withQueue l := by
  unfold State.serveLoadAbort
  rw [State.withQueue_load]
  split <;> rfl

theorem State.withQueue_serveTableRead (t : Ticket) (table slot camera : Byte) (offset : BitVec 16) (length : Byte) :
    (s.withQueue l).serveTableRead t table slot camera offset length =
      (s.serveTableRead t table slot camera offset length).withQueue l := by
  unfold State.serveTableRead
  split
  · rfl
  · refine State.ite_withQueue l .rfl rfl ?_
    rw [State.withQueue_tableContent]
    split <;> rfl

theorem State.withQueue_bind (mode slot : Byte) :
    (s.withQueue l).bind mode slot = ((s.bind mode slot).1, (s.bind mode slot).2.withQueue l) := by
  have hr (m : Mode) (i : Option (Fin 4)) : (s.withQueue l).bindRefusal m i = s.bindRefusal m i := rfl
  unfold State.bind
  simp only [hr]
  split
  · split <;> rfl
  · rfl

theorem State.withQueue_serveBindMode (t : Ticket) (mode slot : Byte) :
    (s.withQueue l).serveBindMode t mode slot = (s.serveBindMode t mode slot).withQueue l := by
  rw [State.serveBindMode, State.withQueue_bind]
  rfl

theorem State.withQueue_serveSetView (t : Ticket) (mode : Byte) :
    (s.withQueue l).serveSetView t mode = (s.serveSetView t mode).withQueue l := by
  unfold State.serveSetView
  split
  · rfl
  · exact State.ite_withQueue l .rfl rfl rfl

theorem State.withQueue_joinEdits (e : Edit) : (s.withQueue l).joinEdits e = (s.joinEdits e).withQueue l := by
  unfold State.joinEdits
  simp only [State.withQueue_ovl]
  split <;> rfl

theorem State.withQueue_serveElementWrite (t : Ticket) (index : Byte) (record : List Byte) :
    (s.withQueue l).serveElementWrite t index record = (s.serveElementWrite t index record).withQueue l := by
  unfold State.serveElementWrite
  simp only [State.withQueue_ovl, State.withQueue_joinEdits]
  split
  · rfl
  · split
    · rfl
    · split <;> rfl

theorem State.withQueue_serveElementClear (t : Ticket) (index : Byte) :
    (s.withQueue l).serveElementClear t index = (s.serveElementClear t index).withQueue l := by
  unfold State.serveElementClear
  simp only [State.withQueue_ovl, State.withQueue_joinEdits]
  split
  · rfl
  · split <;> rfl

theorem State.withQueue_serveCamXfer (t : Ticket) (camera device direction : Byte) (register : BitVec 16) (count : Byte)
    (data : List Byte) : (s.withQueue l).serveCamXfer t camera device direction register count data =
      (s.serveCamXfer t camera device direction register count data).withQueue l := by
  unfold State.serveCamXfer
  split
  · rfl
  · exact State.ite_withQueue l .rfl rfl (State.ite_withQueue l .rfl rfl
      (State.withQueue_arbitrate (s.setChan _ _) l _))

theorem State.withQueue_configureLine (i : Fin 8) (cfg : LineRecord) :
    (s.withQueue l).configureLine i cfg = (s.configureLine i cfg).withQueue l := by
  unfold State.configureLine
  split
  · exact State.ite_withQueue l .rfl (State.ite_withQueue l .rfl
      (State.withQueue_setDebounced (s.setLine i _) l i _) (State.ite_withQueue l .rfl rfl rfl)) rfl
  · rfl
  · rfl

theorem State.withQueue_serveLineConfig (t : Ticket) (line function polarity debounce role edge source : Byte) :
    (s.withQueue l).serveLineConfig t line function polarity debounce role edge source =
      (s.serveLineConfig t line function polarity debounce role edge source).withQueue l := by
  unfold State.serveLineConfig
  simp only [State.withQueue_configureLine]
  split <;> rfl

theorem State.withQueue_serveStoreWrite (t : Ticket) (offset : BitVec 16) (data : List Byte) :
    (s.withQueue l).serveStoreWrite t offset data = (s.serveStoreWrite t offset data).withQueue l := by
  unfold State.serveStoreWrite
  exact State.ite_withQueue l .rfl rfl (State.ite_withQueue l .rfl rfl rfl)

theorem State.withQueue_serveStoreRead (t : Ticket) (offset : BitVec 16) :
    (s.withQueue l).serveStoreRead t offset = (s.serveStoreRead t offset).withQueue l := by
  unfold State.serveStoreRead
  exact State.ite_withQueue l .rfl rfl (State.ite_withQueue l .rfl rfl rfl)

theorem State.withQueue_resetModeView : (s.withQueue l).resetModeView = s.resetModeView.withQueue l := by
  unfold State.resetModeView
  rw [State.withQueue_setMode]
  rfl

theorem State.withQueue_viewReset (t : Ticket) : (s.withQueue l).viewReset t = (s.viewReset t).withQueue l := by
  have hp (p : Cam) (u : State) : State.viewResetPort p (u.withQueue l) = (State.viewResetPort p u).withQueue l :=
    u.withQueue_putPort l p _
  have hb (u : State) : (u.withQueue l).resetBalanceView = u.resetBalanceView.withQueue l := rfl
  have hports : forCams State.viewResetPort (s.withQueue l) = (forCams State.viewResetPort s).withQueue l := by
    simp only [forCams, hp]
  have hend (u : State) : ({ u.withQueue l with comp.incomplete := true, dram.lastPort := 3 } : State).answer t .done =
      (({ u with comp.incomplete := true, dram.lastPort := 3 } : State).answer t .done).withQueue l := rfl
  rw [State.viewReset, State.viewReset, State.viewResetBlocks, State.viewResetBlocks, hports, hb,
    State.withQueue_resetModeView]
  exact hend _

/-- Every request but a RESET naming FULL does the same whatever waits behind it (R159). -/
theorem State.withQueue_serveReq (t : Ticket) (q : Req) (hq : q ≠ .reset 0) :
    (s.withQueue l).serveReq t q = (s.serveReq t q).withQueue l := by
  cases q with
  | loadBegin table slot camera total crc => exact s.withQueue_serveLoadBegin l t table slot camera total crc
  | loadData segment data => exact s.withQueue_serveLoadData l t segment data
  | loadEnd => exact s.withQueue_serveLoadEnd l t
  | loadAbort => exact s.withQueue_serveLoadAbort l t
  | tableRead table slot camera offset length => exact s.withQueue_serveTableRead l t table slot camera offset length
  | bindMode mode slot => exact s.withQueue_serveBindMode l t mode slot
  | setView mode => exact s.withQueue_serveSetView l t mode
  | releaseView => rfl
  | elementWrite index record => exact s.withQueue_serveElementWrite l t index record
  | elementClear index => exact s.withQueue_serveElementClear l t index
  | camXfer c d dir r n data => exact s.withQueue_serveCamXfer l t c d dir r n data
  | lineConfig i f p d r e o => exact s.withQueue_serveLineConfig l t i f p d r e o
  | linesSet mask => rfl
  | linesClear mask => rfl
  | eventEnable mask => rfl
  | eventAck mask => rfl
  | storeWrite offset data => exact s.withQueue_serveStoreWrite l t offset data
  | storeRead offset => exact s.withQueue_serveStoreRead l t offset
  | reset what =>
    have hw : what ≠ 0 := fun h => hq (congrArg Req.reset h)
    simp only [State.serveReq, State.serveReset, if_neg hw, State.withQueue_viewReset, State.withQueue_answer]
    split <;> rfl

end Sys2Proof.Machine
end

section
/-! PROOF. The request queue fills and empties (O18; R157, R158, R159). -/

namespace Sys2Proof.Machine

variable {s : State}

theorem State.takeUpN_nil (h : s.mgmt.queue = []) : ∀ n, State.takeUpN n s = s
  | 0 => rfl
  | n + 1 => by rw [State.takeUpN, h]

theorem State.placeFree_eq_false (h : 32 ≤ s.mgmt.reserved + s.mgmt.filled.length) : s.placeFree = false :=
  decide_eq_false (Nat.not_lt.mpr h)

/-! ## Arrival with no place free -/

theorem State.submit_lost {r : Request} (hl : r.payload.length ≤ 56) (hp : s.placeFree = false)
    (hq : 16 ≤ s.mgmt.queue.length) : s.submit r = s.loseRequest := by
  have h1 : ¬Config.maxPayload < r.payload.length := Nat.not_lt.mpr hl
  have h2 : Config.requestPlaces ≤ s.mgmt.queue.length := hq
  have h3 : s.loseRequest.placeFree = false := hp
  rw [State.submit, if_neg h1, if_pos h2, State.takeUp_full _ h3]

theorem State.submit_queued {r : Request} (hl : r.payload.length ≤ 56) (hp : s.placeFree = false)
    (hq : s.mgmt.queue.length < 16) : s.submit r = s.pushRequest r := by
  have h1 : ¬Config.maxPayload < r.payload.length := Nat.not_lt.mpr hl
  have h2 : ¬Config.requestPlaces ≤ s.mgmt.queue.length := Nat.not_le.mpr hq
  have h3 : (s.pushRequest r).placeFree = false := hp
  rw [State.submit, if_neg h1, if_neg h2, State.takeUp_full _ h3]

theorem State.pushRequest_eq (s : State) (r : Request) : s.pushRequest r = { s with
    mgmt.queue := s.mgmt.queue ++ [r]
    mgmt.hold := if s.mgmt.queue.length + 1 = 12 then true else s.mgmt.hold } := by
  rw [State.pushRequest, List.length_append]
  rfl

/-! ## The turnover -/

/-- A turnover is that of the same state with no request waiting, and take-up behind it. -/
theorem State.turnover_eq_withQueue (s : State) :
    s.turnover = ((s.withQueue []).turnover.withQueue s.mgmt.queue).takeUp := by
  rw [State.turnover_eq_work (s := s.withQueue []) rfl, State.withQueue_turnoverWork, State.withQueue_withQueue,
    ← State.turnoverWork_queue, State.withQueue_self, State.turnover]

theorem State.turnover_queue_nil (h : s.mgmt.queue = []) : s.turnover.mgmt.queue = [] := by
  rw [s.turnover_eq_work h, State.turnoverWork_queue, h]

/-! ## One request at the head -/

/-- The head leaves the queue, and HOLD is cleared where that brings the queue down to 4 (R158). -/
def State.headLeft (x : State) (rest : List Request) : State :=
  { x with mgmt.queue := [], mgmt.hold := if rest.length = 4 then false else x.mgmt.hold }

theorem State.popRequest_eq (x : State) (rest : List Request) :
    x.popRequest rest = (x.headLeft rest).withPlace.withQueue rest := rfl

theorem State.takeUp_cons {x : State} {r : Request} {rest : List Request} (hq : x.mgmt.queue = r :: rest)
    (hp : x.mgmt.reserved + x.mgmt.filled.length < 32) :
    x.takeUp = State.takeUpN rest.length ((x.popRequest rest).serve r) := by
  have hfree : x.placeFree = true := decide_eq_true hp
  rw [State.takeUp, hq, List.length_cons, State.takeUpN, hq]
  exact if_pos hfree

theorem Req.command_eq_resetFull {q : Req} {tag : Byte} {c : Instr} (h : q.command tag = some c) :
    c = .resetFull tag ↔ q = .reset 0 := by
  cases q with
  | reset w =>
    rw [Req.command] at h
    split at h
    · rename_i hw
      cases h
      simp [hw]
    · rename_i hw
      split at h
      · cases h
        exact ⟨nofun, fun he => absurd (Req.reset.inj he) hw⟩
      · cases h
  | _ =>
    cases h
    simp

/-- Settles O18: what waits affects no owner's work but a FULL reset's, which empties the queue. -/
theorem requestQueueFillsAndEmpties : Obligations.RequestQueueFillsAndEmpties := by
  refine ⟨?arrival, ?turnover, ?rest, ?head⟩
  case arrival =>
    intro q tag c s hf hc hp
    have hfull := State.placeFree_eq_false hp
    have hl := q.payload_length_le hf
    rw [exec_of_command hc]
    refine ⟨fun hq => ?_, fun hq => ?_⟩
    · rw [State.submit_lost hl hfull hq]
      rfl
    · rw [State.submit_queued hl hfull hq, State.pushRequest_eq]
  case turnover =>
    exact fun s => ⟨(s.withQueue []).turnover, rfl, State.turnover_queue_nil rfl,
      congrArg Host.Outcome.next s.turnover_eq_withQueue⟩
  case rest =>
    exact fun x h => h.elim x.takeUp_nil fun hp => x.takeUp_full (State.placeFree_eq_false hp)
  case head =>
    intro q tag c rest x hf hc hq hp
    have hat : (x.headLeft rest).takesAtOnce := ⟨rfl, hp⟩
    have hserve : x.takeUp = State.takeUpN rest.length
        (((x.headLeft rest).withPlace.withQueue rest).serveReq ⟨tag, q.kind⟩ q) := by
      rw [State.takeUp_cons hq hp, State.serve_of_parse _ _ q (parseRequest_payload q hf), State.popRequest_eq]
      rfl
    refine ⟨_, exec_taken_of_command hf hc hat, ?_⟩
    rw [hserve]
    by_cases hreset : q = .reset 0
    · rw [if_pos ((Req.command_eq_resetFull hc).mpr hreset), hreset]
      obtain ⟨-, -, hnil⟩ := (x.headLeft rest).withPlace.fullReset_taken ⟨tag, (Req.reset 0).kind⟩
      exact ⟨hnil, State.takeUpN_nil hnil _⟩
    · rw [if_neg (mt (Req.command_eq_resetFull hc).mp hreset), State.withQueue_serveReq _ _ _ _ hreset]
      have hnil : ((x.headLeft rest).withPlace.serveReq ⟨tag, q.kind⟩ q).mgmt.queue = [] := by
        have e := State.withQueue_serveReq (x.headLeft rest).withPlace [] ⟨tag, q.kind⟩ q hreset
        exact congrArg (fun u => u.mgmt.queue) e
      exact ⟨hnil, rfl⟩

end Sys2Proof.Machine
end

section
/-! SUPPORT. What a turnover leaves of every table, of the responses and of boot (R96, R103, R129, R164, R174). -/

namespace Sys2Proof.Machine

variable {s : State}

/-! ## The tables behind the balance unit -/

/-- What the tables of the mode controller and the overlay engine, and the pending element list, make of a state. -/
theorem State.otherTables_eq (s : State) (rules bands palette glyphs overlay : Option (List Byte)) :
    (((((s.applyRules rules).applyBands bands).applyPalette palette).applyGlyphs glyphs).applyEdits overlay) = { s with
      modes.rules := rules.getD s.modes.rules
      veh.band := bands.elim s.veh.band fun bs => bandContaining (bandTableOf bs).edges s.veh.angle
      ovl.bands := bands.getD s.ovl.bands
      ovl.palette := palette.getD s.ovl.palette
      ovl.glyphs := glyphs.getD s.ovl.glyphs
      ovl.elements := overlay.elim (s.ovl.edits.foldl applyEdit s.ovl.elements) elementsOf
      ovl.edits := []
      mgmt.reserved := s.mgmt.reserved - s.ovl.edits.length
      mgmt.filled := s.mgmt.filled ++ s.ovl.edits.map fun e =>
        ⟨e.ticket.tag, e.ticket.kind, overlay.elim .done fun _ => .superseded, []⟩ } := by
  rw [State.applyEdits_eq]
  cases rules <;> cases bands <;> cases palette <;> cases glyphs <;> cases overlay <;> rfl

/-- A turnover once every table due has taken effect. -/
def State.tabled (s : State) : State := s.turnRings.applyTables s.dueTables

theorem State.tabled_eq (s : State) : ∃ ports chans bal st res, s.tabled = { s with
    ports := ports, chans := chans, bal := bal
    modes.rules := (dueContent s.dueTables .modeRules).getD s.modes.rules
    veh.band := (dueContent s.dueTables .bands).elim s.veh.band fun bs =>
      bandContaining (bandTableOf bs).edges s.veh.angle
    ovl := { s.ovl with
      bands := (dueContent s.dueTables .bands).getD s.ovl.bands
      palette := (dueContent s.dueTables .palette).getD s.ovl.palette
      glyphs := (dueContent s.dueTables .glyphs).getD s.ovl.glyphs
      elements := (dueContent s.dueTables .overlay).elim (s.ovl.edits.foldl applyEdit s.ovl.elements) elementsOf
      edits := [] }
    mgmt := { s.mgmt with
      status := st
      reserved := res
      filled := s.balanced.mgmt.filled ++ s.ovl.edits.map fun e =>
        ⟨e.ticket.tag, e.ticket.kind, (dueContent s.dueTables .overlay).elim .done fun _ => .superseded, []⟩ } } := by
  obtain ⟨ports, chans, bal, st, res, fil, e⟩ := s.balanced_frame
  have ht := s.balanced.otherTables_eq (dueContent s.dueTables .modeRules) (dueContent s.dueTables .bands)
    (dueContent s.dueTables .palette) (dueContent s.dueTables .glyphs) (dueContent s.dueTables .overlay)
  change s.tabled = _ at ht
  refine ⟨ports, chans, bal, st, res - s.ovl.edits.length, ht.trans ?_⟩
  rw [e]

/-! ## The load, boot and the mode behind them -/

/-- The response of a LOAD-END whose table takes effect at the turnover (R164). -/
def State.loadAnswer (s : State) : List Response :=
  if s.mgmt.load.st = .applying then [⟨s.mgmt.load.ticket.tag, s.mgmt.load.ticket.kind, .done, []⟩] else []

theorem State.finishLoad_eq (s : State) : ∃ res, s.finishLoad = { s with mgmt := { s.mgmt with
    load := if s.mgmt.load.st = .applying then LoadContext.idle else s.mgmt.load
    reserved := res
    filled := s.mgmt.filled ++ s.loadAnswer } } := by
  unfold State.finishLoad State.loadAnswer
  split
  · exact ⟨_, rfl⟩
  · exact ⟨s.mgmt.reserved, by rw [List.append_nil]⟩

/-- The store after a due boot table has been applied: boot asks for the next entry, or ends (R173, R174). -/
def Store.bootOn (x : Store) : Store :=
  if x.boot.due = none then x
  else if 12 + x.boot.length ≤ x.boot.offset then { x with
    boot := { x.boot with due := none, status := if x.boot.failed = none then .loaded else .contentFail } }
  else { x with access := x.access ++ [.bootEntry], boot := { x.boot with due := none } }

theorem State.finishBootTable_eq (s : State) : s.finishBootTable = { s with store := s.store.bootOn } := by
  unfold State.finishBootTable Store.bootOn
  split
  · rename_i hd
    rw [if_pos hd]
  · rename_i d hd
    have hne : ¬s.store.boot.due = none := by simp [hd]
    rw [if_neg hne]
    unfold State.continueBoot
    split
    · rename_i hend
      have hfailed : (if s.store.boot.failed.isSome then BootStatus.contentFail else .loaded) =
          if s.store.boot.failed = none then .loaded else .contentFail := by
        cases s.store.boot.failed <;> rfl
      rw [if_pos (show 12 + s.store.boot.length ≤ s.store.boot.offset from hend), ← hfailed]
      rfl
    · rename_i hmore
      rw [if_neg (show ¬12 + s.store.boot.length ≤ s.store.boot.offset from hmore)]
      rfl

theorem State.beforeModes_eq (s : State) : ∃ res, s.beforeModes = { s.tabled with
    store := s.tabled.store.bootOn
    mgmt := { s.tabled.mgmt with
      load := if s.tabled.mgmt.load.st = .applying then LoadContext.idle else s.tabled.mgmt.load
      reserved := res
      filled := s.tabled.mgmt.filled ++ s.tabled.loadAnswer } } := by
  obtain ⟨res, e⟩ := s.tabled.finishLoad_eq
  refine ⟨res, ?_⟩
  change s.tabled.finishLoad.finishBootTable = _
  rw [State.finishBootTable_eq, e]

/-- The mode controller's part of a turnover leaves the tables, the responses and the memory (R31, R111, R112). -/
theorem State.modeTurnover_rules (s : State) : s.modeTurnover.modes.rules = s.modes.rules :=
  (SameUnits.modeTurnover s).rules

/-! ## A turnover with no request waiting -/

section turnover

variable (hq : s.mgmt.queue = [])
include hq

/-- What a turnover leaves, by what its tables and the mode controller leave. -/
theorem State.turnover_eq_settled : ∃ x plan view entries filled, s.turnover = { s.settled with
    tx := x, comp := { s.settled.comp with plan := plan, seam := Seam.zero, incomplete := false }
    ovl := { s.settled.ovl with view := view, drawList := entries }
    mgmt.filled := filled } ∧ x.header.responses ++ filled = s.settled.mgmt.filled := by
  obtain ⟨u, hu, ht⟩ := State.turnover_of_queue hq
  rw [ht, ← hu]
  exact ⟨_, _, _, _, _, rfl, List.take_append_drop 8 u.mgmt.filled⟩

/-- The tables in force after a turnover, behind those of the ports and of the balance unit. -/
theorem State.turnover_tables :
    s.turnover.layouts.slots = s.layouts.slots ∧
    s.turnover.modes.rules = (dueContent s.dueTables .modeRules).getD s.modes.rules ∧
    s.turnover.veh.band = ((dueContent s.dueTables .bands).elim s.veh.band fun bs =>
      bandContaining (bandTableOf bs).edges s.veh.angle) ∧
    s.turnover.ovl.bands = (dueContent s.dueTables .bands).getD s.ovl.bands ∧
    s.turnover.ovl.palette = (dueContent s.dueTables .palette).getD s.ovl.palette ∧
    s.turnover.ovl.glyphs = (dueContent s.dueTables .glyphs).getD s.ovl.glyphs ∧
    s.turnover.ovl.elements =
      (dueContent s.dueTables .overlay).elim (s.ovl.edits.foldl applyEdit s.ovl.elements) elementsOf ∧
    s.turnover.ovl.edits = [] := by
  obtain ⟨x, plan, view, entries, filled, e1, -⟩ := State.turnover_eq_settled hq
  obtain ⟨m, use, st, e2⟩ := s.beforeModes.modeTurnover_frame
  have hrules := s.beforeModes.modeTurnover_rules
  obtain ⟨res, e3⟩ := s.beforeModes_eq
  obtain ⟨ports, chans, bal, st', res', e4⟩ := s.tabled_eq
  have hm : m.rules = (dueContent s.dueTables .modeRules).getD s.modes.rules := by
    rw [e2] at hrules
    exact hrules.trans (by rw [e3, e4])
  rw [e1, State.settled_eq_modeTurnover, e2, e3, e4]
  exact ⟨rfl, hm, rfl, rfl, rfl, rfl, rfl, rfl⟩

/-- The load context, the store and the responses after a turnover. -/
theorem State.turnover_books :
    s.turnover.mgmt.load = (if s.mgmt.load.st = .applying then LoadContext.idle else s.mgmt.load) ∧
    s.turnover.store = s.store.bootOn ∧
    s.turnover.tx.header.responses ++ s.turnover.mgmt.filled =
      s.balanced.mgmt.filled ++ (s.ovl.edits.map fun e => ⟨e.ticket.tag, e.ticket.kind,
        (dueContent s.dueTables .overlay).elim .done fun _ => .superseded, []⟩) ++ s.loadAnswer := by
  obtain ⟨x, plan, view, entries, filled, e1, hfilled⟩ := State.turnover_eq_settled hq
  obtain ⟨m, use, st, e2⟩ := s.beforeModes.modeTurnover_frame
  obtain ⟨res, e3⟩ := s.beforeModes_eq
  obtain ⟨ports, chans, bal, st', res', e4⟩ := s.tabled_eq
  have e5 : s.settled = _ := s.settled_eq_modeTurnover
  rw [e2, e3, e4] at e5
  rw [e5] at hfilled
  rw [e1, e5]
  exact ⟨rfl, rfl, hfilled⟩

theorem State.turnover_balanceTable :
    s.turnover.bal.table = (dueContent s.dueTables .balance).getD s.bal.table := by
  obtain ⟨ports, chans, cams, st, res, fil, e⟩ := s.turnRings.applyCamTables_frame s.dueTables
  have htable : (s.dueTables.foldl State.applyCamTable s.turnRings).bal.table = s.bal.table := by
    rw [e]
    rfl
  rw [State.turnover_bal hq, State.balanced]
  generalize s.dueTables.foldl State.applyCamTable s.turnRings = u at htable
  cases dueContent s.dueTables .balance with
  | none =>
    rw [State.turnBalance]
    exact (SameTables.balanceTurnover u).balance.trans htable
  | some bs =>
    rw [State.turnBalance]
    generalize u.balanceTurnover = v
    rfl

/-- No turnover writes the layout store (R36). -/
theorem State.turnover_tableContent_of_layout {d' : TableLoad} (h : d'.table.isLayout = true) :
    s.turnover.tableContent d' = s.tableContent d' := by
  obtain ⟨hslots, -⟩ := State.turnover_tables hq
  unfold State.tableContent
  cases ht : d'.table
  case tileMap => rw [hslots]
  case warpGrid => rw [hslots]
  all_goals
    rw [ht] at h
    cases h

end turnover

/-! ## One table due -/

theorem dueContent_singleton (d : TableLoad) (t : Table) :
    dueContent [d] t = if d.table = t then some d.content else none := by
  by_cases h : d.table = t <;> simp [dueContent, h]

theorem State.applyCamTable_of_profile {d : TableLoad} (h : d.table = .cameraProfile) (s : State) :
    s.applyCamTable d = s.applyProfile d.cam d.content := by
  rw [State.applyCamTable, h]

theorem State.applyCamTable_of_windows {d : TableLoad} (h : d.table = .checkWindows) (s : State) :
    s.applyCamTable d = s.setPort d.cam ((s.port d.cam).applyWindows d.content) := by
  rw [State.applyCamTable, h]
  rfl

theorem State.applyCamTable_profile {d : TableLoad} (h : d.table ≠ .cameraProfile) (s : State) (p : Cam) :
    ((s.applyCamTable d).port p).profile = (s.port p).profile := by
  unfold State.applyCamTable
  split
  · contradiction
  · by_cases hp : p = d.cam
    · subst hp
      rw [State.applyWindows, State.port_setPort_self]
      rfl
    · rw [State.applyWindows, State.port_setPort_ne _ _ _ _ hp]
  · rfl

theorem State.applyCamTable_windows {d : TableLoad} (h : d.table ≠ .checkWindows) (s : State) (p : Cam) :
    ((s.applyCamTable d).port p).windows = (s.port p).windows := by
  unfold State.applyCamTable
  split
  · obtain ⟨c, st, res, fil, e⟩ := s.applyProfile_frame d.cam d.content
    rw [e]
    by_cases hp : p = d.cam
    · subst hp
      exact (congrArg Port.windows (Quad.get_set_self _ _ _)).trans (Port.applyProfile_windows _ _ _)
    · exact congrArg Port.windows (Quad.get_set_ne _ _ _ _ hp)
  · contradiction
  · rfl

/-- The whole records of a byte string, one behind the other. -/
theorem flatten_slices (bs : List Byte) (size : Nat) : ∀ n : Nat,
    ((List.range n).map fun i => sliceOf bs (size * i) size).flatten = bs.take (size * n)
  | 0 => by simp
  | n + 1 => by
    rw [List.range_succ, List.map_append, List.flatten_append, flatten_slices bs size n, Nat.mul_succ, List.take_add]
    simp [sliceOf]

theorem flatten_elementsOf {bs : List Byte} (h : contentCheck .overlay bs = none) : (elementsOf bs).flatten = bs := by
  obtain ⟨hlen, -⟩ := (recordsCheck_checks (good := fun r => elementOk r = true) (fun _ _ => Iff.rfl) bs).1.mp h
  rw [elementsOf, flatten_slices, List.take_of_length_le hlen.le]

section one

variable (hq : s.mgmt.queue = []) {d : TableLoad} (hd : s.dueTables = [d])
include hq hd

theorem State.turnover_port_of_due (p : Cam) : s.turnover.port p = (s.turnRings.applyCamTable d).port p := by
  rw [State.port, State.turnover_ports hq, hd]
  rfl

/-- A table of another kind stands, but for what the pending element list makes of the Overlay Table (R96). -/
theorem State.turnover_tableContent_of_other {d' : TableLoad} (hne : d'.table ≠ d.table) (ho : d'.table ≠ .overlay) :
    s.turnover.tableContent d' = s.tableContent d' := by
  obtain ⟨hslots, hrules, -, hbands, hpalette, hglyphs, -, -⟩ := State.turnover_tables hq
  have hbal := State.turnover_balanceTable hq
  have hport (p : Cam) := State.turnover_port_of_due hq hd p
  have hrings (p : Cam) : (s.turnRings.port p).profile = (s.port p).profile ∧
      (s.turnRings.port p).windows = (s.port p).windows := by
    rw [State.turnRings_port]
    exact ⟨rfl, rfl⟩
  rw [hd] at hrules hbands hpalette hglyphs hbal
  have hnone : dueContent [d] d'.table = none := (dueContent_singleton d _).trans (if_neg (Ne.symm hne))
  unfold State.tableContent
  cases ht : d'.table <;> rw [ht] at hnone hne
  case tileMap => rw [hslots]
  case warpGrid => rw [hslots]
  case cameraProfile => rw [hport, State.applyCamTable_profile (Ne.symm hne), (hrings _).1]
  case checkWindows => rw [hport, State.applyCamTable_windows (Ne.symm hne), (hrings _).2]
  case balance => rw [hbal, hnone]; rfl
  case bands => rw [hbands, hnone]; rfl
  case palette => rw [hpalette, hnone]; rfl
  case glyphs => rw [hglyphs, hnone]; rfl
  case overlay => exact absurd ht ho
  case modeRules => rw [hrules, hnone]; rfl

/-- The table due is the content in force (R164, R174). -/
theorem State.turnover_tableContent_of_due (hl : d.table.isLayout = false)
    (hc : contentCheck d.table d.content = none) : s.turnover.tableContent d = some d.content := by
  obtain ⟨-, hrules, -, hbands, hpalette, hglyphs, helements, -⟩ := State.turnover_tables hq
  have hbal := State.turnover_balanceTable hq
  have hport := State.turnover_port_of_due hq hd d.cam
  rw [hd] at hrules hbands hpalette hglyphs hbal helements
  have hsome : dueContent [d] d.table = some d.content := (dueContent_singleton d _).trans (if_pos rfl)
  unfold State.tableContent
  cases ht : d.table <;> rw [ht] at hsome hl hc
  case tileMap => cases hl
  case warpGrid => cases hl
  case cameraProfile =>
    rw [hport, State.applyCamTable_of_profile ht, State.applyProfile_port, Port.applyProfile_profile]
  case checkWindows =>
    rw [hport, State.applyCamTable_of_windows ht, State.port_setPort_self]
    rfl
  case balance => rw [hbal, hsome]; rfl
  case bands => rw [hbands, hsome]; rfl
  case palette => rw [hpalette, hsome]; rfl
  case glyphs => rw [hglyphs, hsome]; rfl
  case overlay =>
    rw [helements, hsome]
    exact congrArg some (flatten_elementsOf hc)
  case modeRules => rw [hrules, hsome]; rfl

end one

/-! ## The responses of the channels (R140, R143) -/

theorem State.handExposure_filled (hc : ChannelsConsistent s) (p : Cam) (v : Nat) :
    (s.handExposure p v).mgmt.filled = s.mgmt.filled := by
  have hwaits := ChannelConsistent.nothingWaits (hc p)
  have hchan : (s.setChan p { s.chan p with exposure := some v }).chan p = { s.chan p with exposure := some v } :=
    State.chan_setChan_self _ _ _
  have hbefore : (s.setChan p { s.chan p with exposure := some v }).mgmt.filled = s.mgmt.filled := rfl
  rw [State.handExposure]
  generalize s.setChan p { s.chan p with exposure := some v } = u at hchan hbefore
  cases ha : (u.chan p).active with
  | true => rw [u.arbitrate_active p ha, hbefore]
  | false =>
    obtain ⟨hqueue, -, -⟩ := hwaits (by rwa [hchan] at ha)
    cases hl : (u.port p).lock with
    | false =>
      rw [u.arbitrate_unlocked p ha hl, hchan]
      simp [State.drain, hqueue, hbefore]
    | true =>
      cases hch : (u.chan p).choose with
      | none => rw [u.arbitrate_nothing p ((Channel.choose_eq_none _).mp hch), hbefore]
      | some ch => exact (congrArg (fun x : State => x.mgmt.filled) (u.arbitrate_starts p ch ha hch hl)).trans hbefore

theorem State.settleAndNudge_filled (hc : ChannelsConsistent s) (c : Cam) :
    (s.settleAndNudge c).mgmt.filled = s.mgmt.filled := by
  unfold State.settleAndNudge
  dsimp only
  split
  · unfold State.nudgeTest
    split
    · split
      · rfl
      · split
        · rfl
        · exact State.handExposure_filled (s := (s.setBal c _).setBal c _) hc c _
    · rfl
  · rfl

theorem State.balanceTurnover_filled (hc : ChannelsConsistent s) :
    s.balanceTurnover.mgmt.filled = s.mgmt.filled := by
  have hgain : s.gainTurnover.mgmt.filled = s.mgmt.filled ∧ ChannelsConsistent s.gainTurnover := ⟨rfl, hc⟩
  rw [State.balanceTurnover]
  generalize s.gainTurnover = u at hgain ⊢
  generalize s.mgmt.filled = filled at hgain ⊢
  have hwork : (forCams State.settleAndNudge u).mgmt.filled = filled ∧
      ChannelsConsistent (forCams State.settleAndNudge u) :=
    forCams_induction (P := fun v => v.mgmt.filled = filled ∧ ChannelsConsistent v) State.settleAndNudge
      (fun c v hv => ⟨(State.settleAndNudge_filled hv.2 c).trans hv.1, hv.2.settleAndNudge c⟩) u hgain
  exact hwork.1

theorem State.turnBalance_filled (hc : ChannelsConsistent s) (table : Option (List Byte)) :
    (s.turnBalance table).mgmt.filled = s.mgmt.filled := by
  have h := State.balanceTurnover_filled hc
  unfold State.turnBalance
  generalize s.balanceTurnover = u at h
  cases table <;> exact h

theorem State.applyCamTables_filled : ∀ (ds : List TableLoad) (s : State), (∀ d ∈ ds, d.table ≠ .cameraProfile) →
    (ds.foldl State.applyCamTable s).mgmt.filled = s.mgmt.filled
  | [], _, _ => rfl
  | d :: ds, s, hds => by
    have hone : (s.applyCamTable d).mgmt = s.mgmt := by
      unfold State.applyCamTable
      split
      · exact absurd ‹_› (hds d List.mem_cons_self)
      · rfl
      · rfl
    rw [List.foldl_cons, State.applyCamTables_filled ds _ fun d' hd' => hds d' (List.mem_cons_of_mem d hd'), hone]

/-- With no Camera Profile due, nothing is answered before the tables behind the balance unit. -/
theorem State.balanced_filled (hc : ChannelsConsistent s) (hp : ∀ d ∈ s.dueTables, d.table ≠ .cameraProfile) :
    s.balanced.mgmt.filled = s.mgmt.filled := by
  have hrings : s.turnRings.mgmt.filled = s.mgmt.filled := rfl
  rw [State.balanced, State.turnBalance_filled (hc.turnRings.applyCamTables s.dueTables),
    State.applyCamTables_filled _ _ hp, hrings]

/-! ## The mode of the choice (R103) -/

/-- The mode controller's part of a turnover goes by its own records, the vehicle interface and boot's status. -/
theorem State.modeTurnover_modes_congr {u v : State} (hm : u.modes = v.modes) (hv : u.veh = v.veh)
    (hb : u.store = v.store) : u.modeTurnover.modes = v.modeTurnover.modes := by
  have hkerb : u.kerbNow = v.kerbNow := by rw [State.kerbNow, State.kerbNow, hm, hv]
  have hcauses : u.causesNow = v.causesNow := by
    rw [State.causesNow, State.causesNow, State.causes, State.causes, hkerb, hm, hv]
  have hdwell : u.dwellNow = v.dwellNow := by rw [State.dwellNow, State.dwellNow, hcauses, hm]
  cases hh : u.modes.hold with
  | true =>
    rw [(u.modeTurnover_of_hold hh).modes, (v.modeTurnover_of_hold (hm ▸ hh)).modes, State.heldMode, State.heldMode,
      hkerb, hm]
  | false =>
    by_cases hr : u.store.boot.status = .running
    · rw [(u.modeTurnover_of_boot hh hr).modes, (v.modeTurnover_of_boot (hm ▸ hh) (hb ▸ hr)).modes, hkerb, hm]
    · rw [(u.modeTurnover_of_choice hh hr).modes, (v.modeTurnover_of_choice (hm ▸ hh) (hb ▸ hr)).modes, State.modeNow,
        State.modeNow, hkerb, hcauses, hdwell, hm]

/-! ## The bands (R128, R129) -/

/-- The band that contains an angle: the edges below it are not above the angle, and its own upper edge is (R128). -/
theorem bandContaining_bounds (a : Int) : ∀ edges : List Int, bandContaining edges a ≤ edges.length ∧
    (∀ k < bandContaining edges a, edges.getD k 0 ≤ a) ∧
    (bandContaining edges a < edges.length → a < edges.getD (bandContaining edges a) 0)
  | [] => ⟨le_rfl, nofun, nofun⟩
  | e :: es => by
    obtain ⟨hle, hbelow, habove⟩ := bandContaining_bounds a es
    rw [bandContaining]
    split
    · rename_i h
      exact ⟨Nat.zero_le _, nofun, fun _ => h⟩
    · rename_i h
      refine ⟨Nat.succ_le_succ hle, fun k hk => ?_, fun hlt => habove (Nat.lt_of_succ_lt_succ hlt)⟩
      cases k with
      | zero => exact not_lt.mp h
      | succ k => exact hbelow k (Nat.lt_of_succ_lt_succ hk)

end Sys2Proof.Machine
end

section
/-! PROOF. Tables and elements at a turnover (O57; R6, R96, R103, R129, R164, R174). -/

namespace Sys2Proof.Machine

variable {s : State}

/-! ## What is due -/

theorem State.dueTables_of_load (ha : s.mgmt.load.st = .applying) (hb : s.store.boot.due = none) :
    s.dueTables = [s.mgmt.load.dest] := by
  rw [State.dueTables, if_pos ha, hb]
  rfl

theorem State.dueTables_of_none (ha : s.mgmt.load.st ≠ .applying) (hb : s.store.boot.due = none) :
    s.dueTables = [] := by
  rw [State.dueTables, if_neg ha, hb]
  rfl

/-- The content due for a table is the one due of its kind. -/
theorem State.dueContent_of_due {d : TableLoad} (hd : s.dueTables = [d]) {t : Table} (ht : d.table = t) :
    dueContent s.dueTables t = some d.content := by
  rw [hd, dueContent_singleton, if_pos ht]

/-! ## The load's table, and the pending element list alone -/

section parts

variable (hq : s.mgmt.queue = [])
include hq

theorem State.turnover_of_load (ha : s.mgmt.load.st = .applying) (hb : s.store.boot.due = none)
    (hl : s.mgmt.load.dest.table.isLayout = false)
    (hc : contentCheck s.mgmt.load.dest.table s.mgmt.load.dest.content = none) :
    s.turnover.tableContent s.mgmt.load.dest = some s.mgmt.load.dest.content ∧ s.turnover.mgmt.load.st = .idle ∧
    ⟨s.mgmt.load.ticket.tag, s.mgmt.load.ticket.kind, .done, []⟩ ∈
      s.turnover.tx.header.responses ++ s.turnover.mgmt.filled ∧
    (∀ d, (s.turnover.tableContent d ≠ s.tableContent d ∧ d.table ≠ .overlay) → d.table = s.mgmt.load.dest.table) := by
  have hd := State.dueTables_of_load ha hb
  obtain ⟨hload, -, hanswers⟩ := State.turnover_books hq
  refine ⟨State.turnover_tableContent_of_due hq hd hl hc, ?idle, ?answer, fun d hne => ?others⟩
  case idle =>
    rw [hload, if_pos ha]
    rfl
  case answer =>
    rw [hanswers, State.loadAnswer, if_pos ha]
    exact List.mem_append_right _ List.mem_cons_self
  case others =>
    obtain ⟨hchanged, ho⟩ := hne
    exact of_not_not fun h => hchanged (State.turnover_tableContent_of_other hq hd h ho)

theorem State.turnover_of_none (ha : s.mgmt.load.st ≠ .applying) (hb : s.store.boot.due = none)
    (hc : ChannelsConsistent s) : s.turnover.ovl.edits = [] ∧
    s.turnover.ovl.elements = s.ovl.edits.foldl
      (fun els e => els.set e.index (e.change.getD (List.replicate 32 0))) s.ovl.elements ∧
    s.turnover.tx.header.responses ++ s.turnover.mgmt.filled =
      s.mgmt.filled ++ s.ovl.edits.map fun e => ⟨e.ticket.tag, e.ticket.kind, .done, []⟩ := by
  have hd := State.dueTables_of_none ha hb
  have hprofile : ∀ d ∈ s.dueTables, d.table ≠ .cameraProfile := by
    rw [hd]
    exact nofun
  obtain ⟨-, -, -, -, -, -, helements, hedits⟩ := State.turnover_tables hq
  obtain ⟨-, -, hanswers⟩ := State.turnover_books hq
  rw [hd] at helements hanswers
  refine ⟨hedits, helements, ?_⟩
  rw [hanswers, State.loadAnswer, if_neg ha, List.append_nil, State.balanced_filled hc hprofile]
  rfl

/-! ## One table due, by its kind -/

section one

variable {d : TableLoad} (hd : s.dueTables = [d])
include hd

theorem State.turnover_of_windows (ht : d.table = .checkWindows) : s.turnover.port d.cam = { s.port d.cam with
    windows := d.content, windowSet := (s.port d.cam).windowSet + 1, lastSig := none, repeats := 0
    ring := (s.turnover.port d.cam).ring } := by
  have h := State.turnover_port_of_due hq hd d.cam
  rw [State.applyCamTable_of_windows ht, State.port_setPort_self, State.turnRings_port] at h
  rw [h]
  rfl

theorem State.turnover_of_bands (ht : d.table = .bands) {edges : List Int}
    (he : edges = (bandTableOf d.content).edges) : s.turnover.ovl.bands = d.content ∧
    s.turnover.veh.band ≤ edges.length ∧ (∀ k < s.turnover.veh.band, edges.getD k 0 ≤ s.veh.angle) ∧
    (s.turnover.veh.band < edges.length → s.veh.angle < edges.getD s.turnover.veh.band 0) := by
  obtain ⟨-, -, hband, hbands, -⟩ := State.turnover_tables hq
  rw [State.dueContent_of_due hd ht] at hband hbands
  have hband' : s.turnover.veh.band = bandContaining edges s.veh.angle := by rw [hband, he]; rfl
  rw [hband']
  exact ⟨hbands, bandContaining_bounds s.veh.angle edges⟩

theorem State.turnover_of_overlay (ht : d.table = .overlay) (hc : ChannelsConsistent s) :
    s.turnover.ovl.edits = [] ∧ s.turnover.ovl.elements.length = 64 ∧
    (∀ i < 64, s.turnover.ovl.elements.getD i [] = (d.content.drop (32 * i)).take 32) ∧
    s.turnover.tx.header.responses ++ s.turnover.mgmt.filled =
      s.mgmt.filled ++ (s.ovl.edits.map fun e => ⟨e.ticket.tag, e.ticket.kind, .superseded, []⟩) ++
        if s.mgmt.load.st = .applying then [⟨s.mgmt.load.ticket.tag, s.mgmt.load.ticket.kind, .done, []⟩] else [] := by
  have hprofile : ∀ d' ∈ s.dueTables, d'.table ≠ .cameraProfile := by
    rw [hd]
    intro d' hd'
    rw [List.mem_singleton.mp hd', ht]
    exact nofun
  obtain ⟨-, -, -, -, -, -, helements, hedits⟩ := State.turnover_tables hq
  obtain ⟨-, -, hanswers⟩ := State.turnover_books hq
  rw [State.dueContent_of_due hd ht] at helements hanswers
  have hels : s.turnover.ovl.elements = elementsOf d.content := helements
  refine ⟨hedits, ?length, fun i hi => ?element, ?answers⟩
  case length => rw [hels, elementsOf, List.length_map, List.length_range]
  case element =>
    rw [hels, elementsOf]
    simp [sliceOf, hi]
  case answers =>
    rw [hanswers, State.balanced_filled hc hprofile]
    rfl

/-- What the mode controller finds when Mode Rules are due is what it would find with them in force before (R103). -/
theorem State.turnover_of_rules (ht : d.table = .modeRules) (hb : s.store.boot.due = none) :
    s.turnover.modes = (State.turnover { s with modes.rules := d.content, mgmt.load.st := .idle }).modes := by
  have hbefore (u : State) (hr : u.store.boot.due = none) (hbands : dueContent u.dueTables .bands = none) :
      u.beforeModes.modes = { u.modes with rules := (dueContent u.dueTables .modeRules).getD u.modes.rules } ∧
        u.beforeModes.veh = u.veh ∧ u.beforeModes.store = u.store := by
    obtain ⟨res, e⟩ := u.beforeModes_eq
    obtain ⟨ports, chans, bal, st, res', e'⟩ := u.tabled_eq
    have hstore : u.store.bootOn = u.store := if_pos hr
    rw [e, e', hbands]
    exact ⟨rfl, rfl, hstore⟩
  have hbands : dueContent s.dueTables .bands = none := by
    rw [hd, dueContent_singleton, ht]
    exact if_neg nofun
  obtain ⟨hmodes, hveh, hstore⟩ := hbefore s hb hbands
  rw [State.dueContent_of_due hd ht] at hmodes
  generalize hu : ({ s with modes.rules := d.content, mgmt.load.st := .idle } : State) = u
  have hnone : u.dueTables = [] := by
    rw [← hu]
    exact State.dueTables_of_none nofun hb
  have hqu : u.mgmt.queue = [] := by rw [← hu]; exact hq
  obtain ⟨hmodes', hveh', hstore'⟩ := hbefore u (by rw [← hu]; exact hb) (by rw [hnone]; rfl)
  rw [hnone] at hmodes'
  obtain ⟨hs, -⟩ := State.turnover_modes hq
  obtain ⟨hs', -⟩ := State.turnover_modes hqu
  rw [hs, hs', State.settled_eq_modeTurnover, State.settled_eq_modeTurnover]
  have hsame : { s.modes with rules := d.content } = u.modes ∧ s.veh = u.veh ∧ s.store = u.store := by
    rw [← hu]
    exact ⟨rfl, rfl, rfl⟩
  obtain ⟨hm, hv, hstores⟩ := hsame
  exact State.modeTurnover_modes_congr ((hmodes.trans hm).trans hmodes'.symm) ((hveh.trans hv).trans hveh'.symm)
    ((hstore.trans hstores).trans hstore'.symm)

theorem State.turnover_of_bootTable (hb : s.store.boot.due = some d) :
    (contentCheck d.table d.content = none →
      s.turnover.tableContent d = (if d.table.isLayout then s.tableContent d else some d.content)) ∧
    (s.store.boot.offset < 12 + s.store.boot.length → s.turnover.store = { s.store with
      access := s.store.access ++ [.bootEntry], boot := { s.store.boot with due := none } }) ∧
    (12 + s.store.boot.length ≤ s.store.boot.offset → s.turnover.store = { s.store with
      boot := { s.store.boot with
        due := none, status := if s.store.boot.failed = none then .loaded else .contentFail } }) := by
  obtain ⟨-, hstore, -⟩ := State.turnover_books hq
  have hne : s.store.boot.due ≠ none := by simp [hb]
  rw [Store.bootOn, if_neg hne] at hstore
  refine ⟨fun hc => ?content, fun hmore => ?more, fun hend => ?last⟩
  case content =>
    cases hl : d.table.isLayout with
    | true => exact State.turnover_tableContent_of_layout hq hl
    | false => exact State.turnover_tableContent_of_due hq hd hl hc
  case more => rw [hstore, if_neg (Nat.not_le.mpr hmore)]
  case last => rw [hstore, if_pos hend]

end one

end parts

/-- Settles O57: the load's table, the pending element list alone, and one table due by its kind. -/
theorem turnoverAppliesTablesAndElements : Obligations.TurnoverAppliesTablesAndElements := by
  refine ⟨fun s hq ha hb hl hc => ?load, fun s hq ha hb hc => ?elements, fun s d hq hd => ?due⟩
  case load => exact ⟨_, rfl, State.turnover_of_load hq ha hb hl hc⟩
  case elements => exact ⟨_, rfl, State.turnover_of_none hq ha hb hc⟩
  case due =>
    refine ⟨_, rfl, State.turnover_of_windows hq hd, fun ht _ he => State.turnover_of_bands hq hd ht he,
      State.turnover_of_overlay hq hd, fun ht hb u hu => ?rules, State.turnover_of_bootTable hq hd⟩
    case rules =>
      injection hu with hu
      rw [← hu]
      exact State.turnover_of_rules hq hd ht hb

end Sys2Proof.Machine
end

section
/-! PROOF. The configuration memory: the store requests, the ends of accesses, the boot image's header (O38 to O40;
R172, R173, R175). -/

namespace Sys2Proof.Machine

variable {s : State}

/-! ## STORE-WRITE and STORE-READ (R175) -/

theorem State.withPlace_serveStoreWrite_misaligned (t : Ticket) {offset : BitVec 16} (h : offset.toNat % 32 ≠ 0)
    (data : List Byte) : s.withPlace.serveStoreWrite t offset data = s.responded t.tag t.kind .badArgument [] :=
  (if_pos h).trans (s.withPlace_answerWith t .badArgument [])

theorem State.withPlace_serveStoreWrite_busy (t : Ticket) {offset : BitVec 16} (h : offset.toNat % 32 = 0)
    (hb : s.store.boot.status = .running ∨ s.store.writing ≠ none) (data : List Byte) :
    s.withPlace.serveStoreWrite t offset data = s.responded t.tag t.kind .busy [] := by
  have hbusy : s.withPlace.store.boot.status = .running ∨ s.withPlace.store.writing.isSome :=
    hb.imp id Option.isSome_iff_ne_none.mpr
  exact (if_neg (not_not.mpr h)).trans ((if_pos hbusy).trans (s.withPlace_answerWith t .busy []))

theorem State.withPlace_serveStoreWrite_starts (t : Ticket) {offset : BitVec 16} (h : offset.toNat % 32 = 0)
    (hb : s.store.boot.status ≠ .running) (hw : s.store.writing = none) (data : List Byte) :
    s.withPlace.serveStoreWrite t offset data = { s with
      store := { s.store with
        writing := some ⟨t, offset.toNat, data⟩
        writeTimer := .running 20
        access := s.store.access ++ [.pageWrite] }
      mgmt.reserved := s.mgmt.reserved + 1 } := by
  have hfree : ¬(s.withPlace.store.boot.status = .running ∨ s.withPlace.store.writing.isSome) := by
    simp [State.withPlace, hb, hw]
  exact (if_neg (not_not.mpr h)).trans (if_neg hfree)

theorem State.withPlace_serveStoreRead_past_end (t : Ticket) {offset : BitVec 16} (h : 65536 < offset.toNat + 24) :
    s.withPlace.serveStoreRead t offset = s.responded t.tag t.kind .badArgument [] :=
  (if_pos h).trans (s.withPlace_answerWith t .badArgument [])

theorem State.withPlace_serveStoreRead_busy (t : Ticket) {offset : BitVec 16} (h : offset.toNat + 24 ≤ 65536)
    (hw : s.store.writing ≠ none) :
    s.withPlace.serveStoreRead t offset = s.responded t.tag t.kind .busy [] := by
  have hbusy : s.withPlace.store.writing.isSome := Option.isSome_iff_ne_none.mpr hw
  exact (if_neg (Nat.not_lt.mpr h)).trans ((if_pos hbusy).trans (s.withPlace_answerWith t .busy []))

theorem State.withPlace_serveStoreRead_joins (t : Ticket) {offset : BitVec 16} (h : offset.toNat + 24 ≤ 65536)
    (hw : s.store.writing = none) : s.withPlace.serveStoreRead t offset = { s with
      store.access := s.store.access ++ [.storeRead t offset.toNat]
      mgmt.reserved := s.mgmt.reserved + 1 } := by
  have hfree : ¬s.withPlace.store.writing.isSome := by simp [State.withPlace, hw]
  exact (if_neg (Nat.not_lt.mpr h)).trans (if_neg hfree)

/-- Settles O38. -/
theorem storeRequestsReachTheInterface : Obligations.StoreRequestsReachTheInterface := by
  intro tag offset data s hs hdata
  have hwrite : exec (.storeWrite tag offset data) s = .next (s.withPlace.serveStoreWrite ⟨tag, 0x60⟩ offset data) :=
    exec_taken_of_command (q := .storeWrite offset data) (decide_eq_true hdata) rfl hs
  have hread : exec (.storeRead tag offset) s = .next (s.withPlace.serveStoreRead ⟨tag, 0x61⟩ offset) :=
    exec_taken_of_command (q := .storeRead offset) rfl rfl hs
  rw [hwrite, hread]
  refine ⟨fun h => ?_, fun h => ⟨fun hb => ?_, fun hb hw => ?_⟩, fun h => ?_, fun h => ⟨fun hw => ?_, fun hw => ?_⟩⟩
  · rw [State.withPlace_serveStoreWrite_misaligned _ h]
  · rw [State.withPlace_serveStoreWrite_busy _ h hb]
  · rw [State.withPlace_serveStoreWrite_starts _ h hb hw]
  · rw [State.withPlace_serveStoreRead_past_end _ h]
  · rw [State.withPlace_serveStoreRead_busy _ h hw]
  · rw [State.withPlace_serveStoreRead_joins _ h hw]

/-! ## Late writes in front of an access (R172, log 18) -/

theorem splitLate_map_append (late : List PageWrite) (as : List Access) (h : ∀ w rest, as ≠ .lateWrite w :: rest) :
    splitLate (late.map .lateWrite ++ as) = (late, as) := by
  induction late with
  | nil => exact splitLate_of_not_late as h
  | cons w late ih => simp [splitLate, ih]

theorem State.endLateWrites_endLateWrites (s : State) : s.endLateWrites.endLateWrites = s.endLateWrites :=
  State.endLateWrites_of_not_late _ (splitLate_eq s.store.access).2

/-- An access that is no late write is the one in progress once the late writes in front of it have ended. -/
theorem State.endLateWrites_access {late : List PageWrite} {a : Access} {rest : List Access}
    (hs : s.store.access = late.map .lateWrite ++ a :: rest) (ha : ∀ w, a ≠ .lateWrite w) :
    s.endLateWrites.store.access = a :: rest := by
  have hsplit := splitLate_map_append late (a :: rest) fun w _ h => ha w (List.cons.inj h).1
  rw [← hs] at hsplit
  exact congrArg Prod.snd hsplit

theorem State.endLateWrites_boot (s : State) : s.endLateWrites.store.boot = s.store.boot := by
  obtain ⟨mem, e, -⟩ := s.endLateWrites_frame
  rw [e]

theorem State.endLateWrites_bootWait (s : State) : s.endLateWrites.store.bootWait = s.store.bootWait := by
  obtain ⟨mem, e, -⟩ := s.endLateWrites_frame
  rw [e]

/-- The end of a STORE-READ's access behind the late writes in front (R175). -/
theorem State.storeReadComplete_of_access {k : Ticket} {offset : Nat} {rest : List Access}
    (h : s.endLateWrites.store.access = .storeRead k offset :: rest) (answered : Bool) :
    s.storeReadComplete answered =
      s.endLateWrites.popAccess.answerWith k .done (s.endLateWrites.readStore answered offset 24) := by
  simp only [State.storeReadComplete, h, List.head?_cons]
  rfl

/-- What a read's end does with the late writes in front over, it does with them in front: it ends them itself. -/
theorem State.storeReadComplete_endLateWrites {k : Ticket} {offset : Nat} {rest : List Access}
    (h : s.endLateWrites.store.access = .storeRead k offset :: rest) (answered : Bool) :
    s.endLateWrites.storeReadComplete answered = s.storeReadComplete answered := by
  have h' : s.endLateWrites.endLateWrites.store.access = .storeRead k offset :: rest := by
    rw [s.endLateWrites_endLateWrites, h]
  rw [State.storeReadComplete_of_access h', State.storeReadComplete_of_access h, s.endLateWrites_endLateWrites]

theorem State.bootHeaderRead_endLateWrites {rest : List Access} (h : s.endLateWrites.store.access = .bootHeader :: rest)
    (hw : s.store.bootWait = .stopped) (answered : Bool) :
    s.endLateWrites.bootHeaderRead answered = s.bootHeaderRead answered := by
  simp only [State.bootHeaderRead, s.endLateWrites_endLateWrites, s.endLateWrites_bootWait, h, hw, List.head?_cons,
    Timer.isRunning, and_self, if_true]

theorem State.bootEntryRead_endLateWrites {rest : List Access} (h : s.endLateWrites.store.access = .bootEntry :: rest)
    (answered : Bool) : s.endLateWrites.bootEntryRead answered = s.bootEntryRead answered := by
  simp only [State.bootEntryRead, s.endLateWrites_endLateWrites, s.endLateWrites_boot, h, List.head?_cons, if_true]

/-- The end of an access finds the late writes in front of it over, their pages settled (R172, R175; log 11). -/
theorem State.exec_behind_late {late : List PageWrite} {a : Access} {rest : List Access}
    (hs : s.store.access = late.map .lateWrite ++ a :: rest) :
    ∃ mem, MaySettle late s.store.mem mem ∧ ∀ c,
      (((∃ k offset, a = .storeRead k offset) ∧ ∃ answered, c = .storeReadComplete answered) ∨
        (a = .bootHeader ∧ s.store.bootWait = .stopped ∧ ∃ answered, c = .bootHeaderRead answered) ∨
        (a = .bootEntry ∧ ∃ answered, c = .bootEntryRead answered)) →
      exec c s = exec c { s with
        store := { s.store with mem := mem, access := a :: rest }
        freeCount := s.freeCount + late.length } := by
  obtain ⟨mem, hsettle, hmem⟩ := s.settlePages_frame late
  have hover (ha : ∀ w, a ≠ .lateWrite w) : s.endLateWrites.store.access = a :: rest ∧ s.endLateWrites = { s with
      store := { s.store with mem := mem, access := a :: rest }, freeCount := s.freeCount + late.length } := by
    have hsplit := splitLate_map_append late (a :: rest) fun w _ h => ha w (List.cons.inj h).1
    exact ⟨State.endLateWrites_access hs ha, by rw [State.endLateWrites, hs, hsplit, hsettle]⟩
  refine ⟨mem, hmem, ?_⟩
  rintro c (⟨⟨k, offset, rfl⟩, answered, rfl⟩ | ⟨rfl, hw, answered, rfl⟩ | ⟨rfl, answered, rfl⟩)
  · obtain ⟨ha, e⟩ := hover nofun
    rw [← e]
    exact congrArg Host.Outcome.next (State.storeReadComplete_endLateWrites ha answered).symm
  · obtain ⟨ha, e⟩ := hover nofun
    rw [← e]
    exact congrArg Host.Outcome.next (State.bootHeaderRead_endLateWrites ha hw answered).symm
  · obtain ⟨ha, e⟩ := hover nofun
    rw [← e]
    exact congrArg Host.Outcome.next (State.bootEntryRead_endLateWrites ha answered).symm

/-! ## The ends of page writes and of reads (R175, R172) -/

theorem State.pageWriteComplete_in_time {w : PageWrite} {rest : List Access} (hw : s.store.writing = some w)
    (ha : s.store.access = .pageWrite :: rest) : s.pageWriteComplete = ({ s with
      store := { s.store with
        mem := Memory.writeBytes storeDefault s.store.mem w.offset w.data
        writing := none
        writeTimer := .stopped
        access := rest }
      mgmt.reserved := s.mgmt.reserved - 1 } : State).responded w.ticket.tag w.ticket.kind .done [] := by
  simp only [State.pageWriteComplete, ha, hw, State.endWrite, List.tail_cons]
  rfl

theorem State.pageWriteComplete_late {w : PageWrite} {rest : List Access}
    (ha : s.store.access = .lateWrite w :: rest) :
    ∃ mem, (mem = s.store.mem ∨ mem = Memory.writeBytes storeDefault s.store.mem w.offset w.data) ∧
      s.pageWriteComplete = { s with
        store := { s.store with
          mem := mem
          access := rest
          bootWait := if rest.any Access.isLate then s.store.bootWait else .stopped }
        freeCount := s.freeCount + 1 } := by
  obtain ⟨mem, e, hmem⟩ := s.popAccess.settlePage_frame w
  refine ⟨mem, hmem, ?_⟩
  simp only [State.pageWriteComplete, ha, e]
  simp only [State.popAccess, ha, List.tail_cons]

theorem State.writeTimerExpiry_running {w : PageWrite} {n : Nat} (hw : s.store.writing = some w)
    (ht : s.store.writeTimer = .running n) : s.writeTimerExpiry = ({ s with
      store := { s.store with
        writing := none
        writeTimer := .stopped
        access := s.store.access.map fun a => if a = .pageWrite then .lateWrite w else a }
      mgmt.reserved := s.mgmt.reserved - 1 } : State).responded w.ticket.tag w.ticket.kind .timeout [] := by
  simp only [State.writeTimerExpiry, hw, ht, Timer.isRunning, if_true]
  rfl

@[simp] theorem State.readStore_length (s : State) (answered : Bool) (offset n : Nat) :
    (s.readStore answered offset n).length = n := by
  cases answered <;> simp [State.readStore]

theorem State.readStore_getD (s : State) (answered : Bool) (offset : Nat) {n i : Nat} (h : i < n) :
    (s.readStore answered offset n).getD i 0 =
      if answered then Memory.read storeDefault s.store.mem (offset + i) else 0xFF := by
  cases answered with
  | true => exact Memory.readBytes_getD storeDefault 0 s.store.mem n offset i h
  | false => simp [State.readStore, List.getD_eq_getElem?_getD, h]

theorem State.endLateWrites_of_front {a : Access} {rest : List Access} (ha : s.store.access = a :: rest)
    (hl : ∀ w, a ≠ .lateWrite w) : s.endLateWrites = s :=
  s.endLateWrites_of_not_late fun w _ h => hl w (List.cons.inj (ha.symm.trans h)).1

theorem State.popAccess_of_front {a : Access} {rest : List Access} (ha : s.store.access = a :: rest) :
    s.popAccess = { s with store.access := rest } := by
  simp only [State.popAccess, ha, List.tail_cons]

theorem State.storeReadComplete_of_front {k : Ticket} {offset : Nat} {rest : List Access}
    (ha : s.store.access = .storeRead k offset :: rest) (answered : Bool) :
    s.storeReadComplete answered = ({ s with
      store.access := rest
      mgmt.reserved := s.mgmt.reserved - 1 } : State).responded k.tag k.kind .done
        (s.readStore answered offset 24) := by
  have he : s.endLateWrites = s := State.endLateWrites_of_front ha nofun
  rw [State.storeReadComplete_of_access (by rw [he, ha]), he, State.popAccess_of_front ha]
  rfl

/-- Settles O39. -/
theorem storeAccessesAnswerTheirRequests : Obligations.StoreAccessesAnswerTheirRequests := by
  refine fun s => ⟨fun w rest hw ha => ?inTime, fun w n hw ht => ?expires, fun w rest ha => ?late,
    fun late a rest ha => State.exec_behind_late ha, fun k offset rest answered ha => ?read⟩
  case inTime => exact congrArg Host.Outcome.next (State.pageWriteComplete_in_time hw ha)
  case expires => exact congrArg Host.Outcome.next (State.writeTimerExpiry_running hw ht)
  case late =>
    obtain ⟨mem, hmem, e⟩ := State.pageWriteComplete_late ha
    exact ⟨mem, hmem, congrArg Host.Outcome.next e⟩
  case read =>
    exact ⟨s.readStore answered offset 24, congrArg Host.Outcome.next (State.storeReadComplete_of_front ha answered),
      s.readStore_length answered offset 24, fun i hi => s.readStore_getD answered offset hi⟩

/-! ## The boot image's header (R173) -/

theorem bootHeaderTest_of_marker {header : List Byte} (h : header.take 4 ≠ [0xB0, 0x07, 0x4E, 0x16])
    (entries : Nat → List Byte) : bootHeaderTest header entries = some .none :=
  if_pos h

section marked

variable {header : List Byte} (hm : header.take 4 = [0xB0, 0x07, 0x4E, 0x16]) {entries : Nat → List Byte}
include hm

theorem bootHeaderTest_of_crc
    (h : 65524 < u32At header 4 ∨ (crc32 (entries (u32At header 4))).toNat ≠ u32At header 8) :
    bootHeaderTest header entries = some .crcFail := by
  refine (if_neg (not_not.mpr hm)).trans ?_
  by_cases hl : 65524 < u32At header 4
  · exact if_pos hl
  · exact (if_neg hl).trans (if_pos (h.resolve_left hl))

theorem bootHeaderTest_passes (hl : u32At header 4 ≤ 65524)
    (hc : (crc32 (entries (u32At header 4))).toNat = u32At header 8) : bootHeaderTest header entries = none :=
  (if_neg (not_not.mpr hm)).trans ((if_neg (Nat.not_lt.mpr hl)).trans (if_neg (not_not.mpr hc)))

end marked

section header

variable {rest : List Access} (ha : s.store.access = .bootHeader :: rest) (hw : s.store.bootWait = .stopped)
  {answered : Bool}
include ha hw

/-- A header that fails a test ends boot with the test's status. -/
theorem State.bootHeaderRead_ends {status : BootStatus}
    (h : bootHeaderTest (s.readStore answered 0 12) (s.readStore answered 12) = some status) :
    s.bootHeaderRead answered = { s with store := { s.store with
      access := rest, boot := { s.store.boot with status := status, due := none } } } := by
  have he : s.endLateWrites = s := State.endLateWrites_of_front ha nofun
  simp only [State.bootHeaderRead, he, State.popAccess_of_front ha, ha, hw, List.head?_cons, Timer.isRunning, and_self,
    if_true, Config.bootHeaderBytes, h]
  rfl

/-- A header that passes its tests begins the reading of the entries at offset 12, or ends boot where there are none. -/
theorem State.bootHeaderRead_begins
    (h : bootHeaderTest (s.readStore answered 0 12) (s.readStore answered 12) = none) :
    s.bootHeaderRead answered = { s with store := { s.store with
      access := if u32At (s.readStore answered 0 12) 4 = 0 then rest else rest ++ [.bootEntry]
      boot := ⟨if u32At (s.readStore answered 0 12) 4 = 0 then .loaded else .running, none,
        u32At (s.readStore answered 0 12) 4, 12, 0, none⟩ } } := by
  have he : s.endLateWrites = s := State.endLateWrites_of_front ha nofun
  simp only [State.bootHeaderRead, he, State.popAccess_of_front ha, ha, hw, List.head?_cons, Timer.isRunning, and_self,
    if_true, Config.bootHeaderBytes, h]
  generalize u32At (s.readStore answered 0 12) 4 = n
  unfold State.continueBoot
  cases n with
  | zero => rfl
  | succ n =>
    have hmore : ¬12 + (n + 1) ≤ 12 := by omega
    exact if_neg hmore

end header

theorem State.bootWaitExpiry_running {n : Nat} (h : s.store.bootWait = .running n) :
    s.bootWaitExpiry = { s with store.bootWait := .stopped } := by
  rw [State.bootWaitExpiry, h]
  rfl

/-- Settles O40. -/
theorem bootHeaderIsTested : Obligations.BootHeaderIsTested := by
  refine fun s => ⟨fun n h => congrArg Host.Outcome.next (State.bootWaitExpiry_running h),
    fun rest header ha hw hh => ?_⟩
  obtain rfl : header = s.readStore true 0 12 := hh
  refine ⟨fun hm => ?_, fun hm => ⟨fun hc => ?_, fun hl hc => ?_⟩, ?_⟩
  · exact congrArg Host.Outcome.next (State.bootHeaderRead_ends ha hw (bootHeaderTest_of_marker hm _))
  · exact congrArg Host.Outcome.next (State.bootHeaderRead_ends ha hw (bootHeaderTest_of_crc hm hc))
  · exact congrArg Host.Outcome.next (State.bootHeaderRead_begins ha hw (bootHeaderTest_passes hm hl hc))
  · have hblank : (s.readStore false 0 12).take 4 ≠ [0xB0, 0x07, 0x4E, 0x16] :=
      show (List.replicate 12 (0xFF : Byte)).take 4 ≠ [0xB0, 0x07, 0x4E, 0x16] by decide
    exact congrArg Host.Outcome.next (State.bootHeaderRead_ends ha hw (bootHeaderTest_of_marker hblank _))

end Sys2Proof.Machine
end

section
/-! PROOF. The entries of the boot image (O41; R36, R102, R172 to R174). -/

namespace Sys2Proof.Machine

variable {s : State}

/-! ## The checks of an entry (R174, R36) -/

section verdict

variable {code slot camera : Byte} {data : List Byte}

theorem State.entryVerdict_bindings (h : code.toNat = 11) (hl : data.length = 4) :
    s.entryVerdict code slot camera data = .bindings :=
  (if_pos h).trans (if_pos hl)

theorem State.entryVerdict_bindings_length (h : code.toNat = 11) (hl : data.length ≠ 4) :
    s.entryVerdict code slot camera data = .skip :=
  (if_pos h).trans (if_neg hl)

section table

variable (hcode : code.toNat ≠ 11)
include hcode

theorem State.entryVerdict_no_dest (hd : destOf code slot camera = none) :
    s.entryVerdict code slot camera data = .skip := by
  refine (if_neg hcode).trans ?_
  rw [hd]

variable {d : TableLoad} (hd : destOf code slot camera = some d)
include hd

theorem State.entryVerdict_refused (h : d.table.limit < data.length ∨ contentCheck d.table data ≠ none ∨
    (d.table.isLayout = true ∧ (s.isBound d.slot = true ∨ s.layouts.inUse = some d.slot))) :
    s.entryVerdict code slot camera data = .skip := by
  refine (if_neg hcode).trans ?_
  rw [hd]
  dsimp only
  split
  · rfl
  · rename_i hlimit
    split
    · rfl
    · rename_i hcheck
      rw [← Option.isSome_iff_ne_none] at h
      obtain ⟨hlayout, hguard⟩ := (h.resolve_left hlimit).resolve_left hcheck
      rw [if_pos hlayout, if_pos (State.slotGuarded_eq_true hguard)]

section sound

variable (hlimit : data.length ≤ d.table.limit) (hcheck : contentCheck d.table data = none)
include hlimit hcheck

theorem State.entryVerdict_sound : s.entryVerdict code slot camera data =
    if d.table.isLayout then (if s.slotGuarded d.slot then .skip else .layout { d with content := data })
    else .due { d with content := data } := by
  have hsound : ¬(contentCheck d.table data).isSome := by simp [hcheck]
  refine (if_neg hcode).trans ?_
  rw [hd]
  exact (if_neg (Nat.not_lt.mpr hlimit)).trans (if_neg hsound)

theorem State.entryVerdict_sound_layout (hlayout : d.table.isLayout = true) (hbound : s.isBound d.slot = false)
    (huse : s.layouts.inUse ≠ some d.slot) :
    s.entryVerdict code slot camera data = .layout { d with content := data } := by
  rw [State.entryVerdict_sound hcode hd hlimit hcheck, hlayout, State.slotGuarded_eq_false ⟨hbound, huse⟩]
  rfl

theorem State.entryVerdict_sound_due (hlayout : d.table.isLayout = false) :
    s.entryVerdict code slot camera data = .due { d with content := data } := by
  rw [State.entryVerdict_sound hcode hd hlimit hcheck, hlayout]
  rfl

end sound

end table

end verdict

/-! ## The state with another management unit or memory unit -/

def State.withMgmt (s : State) (m : Management) : State := { s with mgmt := m }

@[simp] theorem State.withMgmt_mgmt (s : State) (m : Management) : (s.withMgmt m).mgmt = m := rfl

def State.withStore (s : State) (x : Store) : State := { s with store := x }

theorem State.entryVerdict_withStore (s : State) (x : Store) (code slot camera : Byte) (data : List Byte) :
    (s.withStore x).entryVerdict code slot camera data = s.entryVerdict code slot camera data := rfl

/-! ## The bindings of an entry, made one after another (R102, R174) -/

theorem State.bind_withStore (s : State) (x : Store) (mode slot : Byte) :
    (s.withStore x).bind mode slot = ((s.bind mode slot).1, (s.bind mode slot).2.withStore x) := by
  have hr (k : Mode) (i : Option (Fin 4)) : (s.withStore x).bindRefusal k i = s.bindRefusal k i := rfl
  unfold State.bind
  simp only [hr]
  split
  · split <;> rfl
  · rfl

theorem State.bind_withMgmt (s : State) (m : Management) (mode slot : Byte) :
    (s.withMgmt m).bind mode slot = ((s.bind mode slot).1, (s.bind mode slot).2.withMgmt m) := by
  have hr (k : Mode) (i : Option (Fin 4)) : (s.withMgmt m).bindRefusal k i = s.bindRefusal k i := rfl
  unfold State.bind
  simp only [hr]
  split
  · split <;> rfl
  · rfl

theorem State.applyBindings_withStore (s : State) (x : Store) (data : List Byte) :
    (s.withStore x).applyBindings data = ((s.applyBindings data).1, (s.applyBindings data).2.withStore x) := by
  simp only [State.applyBindings, State.bind_withStore]

/-- A BIND-MODE taken at once: the binding as R102 has it, and its answer. -/
theorem exec_bindMode_withMgmt (s : State) {m : Management} (hq : m.queue = [])
    (hp : m.reserved + m.filled.length < 32) (tag mode slot : Byte) :
    exec (.bindMode tag mode slot) (s.withMgmt m) = .next ((s.bind mode slot).2.withMgmt
      { m with filled := m.filled ++ [⟨tag, 0x10, (s.bind mode slot).1, []⟩] }) := by
  have hplace : (s.withMgmt m).withPlace = s.withMgmt { m with reserved := m.reserved + 1 } := rfl
  rw [exec_bindMode (s := s.withMgmt m) ⟨hq, hp⟩, hplace, State.serveBindMode, State.bind_withMgmt]
  rfl

/-- Four BIND-MODEs in a row, with room for their answers, make the bindings of an entry; it fails where one of them is
refused. -/
theorem State.applyBindings_of_execs {m : Management} (hq : m.queue = []) (hr : m.reserved = 0) (hf : m.filled = [])
    {data : List Byte} {s1 s2 s3 s4 : State}
    (h1 : exec (.bindMode 0 1 (data.getD 0 0)) (s.withMgmt m) = .next s1)
    (h2 : exec (.bindMode 0 2 (data.getD 1 0)) s1 = .next s2)
    (h3 : exec (.bindMode 0 3 (data.getD 2 0)) s2 = .next s3)
    (h4 : exec (.bindMode 0 4 (data.getD 3 0)) s3 = .next s4) :
    (s.applyBindings data).2 = { s with modes := s4.modes } ∧
      ((s.applyBindings data).1 = true ↔ s4.mgmt.filled.map Response.result = [.done, .done, .done, .done]) := by
  rw [exec_bindMode_withMgmt s (by exact hq) (by simp [hr, hf])] at h1
  cases h1
  rw [exec_bindMode_withMgmt _ (by exact hq) (by simp [hr, hf])] at h2
  cases h2
  rw [exec_bindMode_withMgmt _ (by exact hq) (by simp [hr, hf])] at h3
  cases h3
  rw [exec_bindMode_withMgmt _ (by exact hq) (by simp [hr, hf])] at h4
  cases h4
  obtain ⟨b, e⟩ := s.applyBindings_frame data
  constructor
  · change _ = { s with modes := (s.applyBindings data).2.modes }
    rw [e]
  · simp [State.applyBindings, hf, and_assoc]

/-! ## What follows an entry (R173, R174) -/

/-- The store once an entry of `len` data bytes is read and dealt with, before boot goes on. -/
def Store.entryTaken (x : Store) (rest : List Access) (len : Nat) (failed : Option Nat) : Store :=
  { x with
    access := rest
    boot := { x.boot with offset := x.boot.offset + 5 + len, index := x.boot.index + 1, failed := failed } }

theorem State.continueBoot_entryTaken (s : State) (x : Store) (rest : List Access) (len : Nat) (failed : Option Nat) :
    (s.withStore (x.entryTaken rest len failed)).continueBoot = s.withStore (x.afterEntry rest len failed) := by
  unfold Store.afterEntry
  split
  · rename_i hmore
    exact if_neg (Nat.not_le.mpr hmore)
  · rename_i hend
    refine (if_pos (Nat.not_lt.mp hend)).trans ?_
    cases failed <;> rfl

/-- An entry that fails leaves the index of the first that did. -/
theorem State.setBoot_fail_entryTaken (s : State) (x : Store) (rest : List Access) (len index : Nat)
    (failed : Option Nat) : (s.withStore (x.entryTaken rest len failed)).setBoot
      ((s.withStore (x.entryTaken rest len failed)).store.boot.fail index) =
        s.withStore (x.entryTaken rest len (some (failed.getD index))) := rfl

section applied

variable {index : Nat} {code slot camera : Byte} {data : List Byte}

theorem State.applyEntry_of_skip (h : s.entryVerdict code slot camera data = .skip) :
    s.applyEntry index code slot camera data = (s.setBoot (s.store.boot.fail index)).continueBoot := by
  simp only [State.applyEntry, h]

theorem State.applyEntry_of_bindings (h : s.entryVerdict code slot camera data = .bindings) :
    s.applyEntry index code slot camera data =
      if (s.applyBindings data).1 then (s.applyBindings data).2.continueBoot
      else ((s.applyBindings data).2.setBoot ((s.applyBindings data).2.store.boot.fail index)).continueBoot := by
  simp only [State.applyEntry, h]

theorem State.applyEntry_of_layout {d : TableLoad} (h : s.entryVerdict code slot camera data = .layout d) :
    s.applyEntry index code slot camera data = (s.writeLayout d).continueBoot := by
  simp only [State.applyEntry, h]

theorem State.applyEntry_of_due {d : TableLoad} (h : s.entryVerdict code slot camera data = .due d) :
    s.applyEntry index code slot camera data = s.setBoot { s.store.boot with due := some d } := by
  simp only [State.applyEntry, h]

end applied

theorem LayoutSlot.withTable_of_tileMap {l : LayoutSlot} {d : TableLoad} (h : d.table = .tileMap) :
    l.withTable d = { l with tileMap := some d.content } :=
  if_pos h

theorem LayoutSlot.withTable_of_warpGrid {l : LayoutSlot} {d : TableLoad} (h : d.table = .warpGrid) :
    l.withTable d = { l with grids := l.grids.set d.cam (some d.content) } :=
  if_neg (by rw [h]; decide)

/-! ## An entry within the image -/

section within

variable {rest : List Access} {head data : List Byte} {len : Nat} (ha : s.store.access = .bootEntry :: rest)
  (hhead : s.readStore true s.store.boot.offset 5 = head) (hlen : u16At head 3 = len)
  (hdata : s.readStore true (s.store.boot.offset + 5) len = data)
  (hin : s.store.boot.offset + 5 + len ≤ 12 + s.store.boot.length)
include ha hhead hlen hdata hin

theorem State.bootEntryRead_within : s.bootEntryRead true =
    (s.withStore (s.store.entryTaken rest len s.store.boot.failed)).applyEntry s.store.boot.index
      (head.getD 0 0) (head.getD 1 0) (head.getD 2 0) data := by
  have he : s.endLateWrites = s := State.endLateWrites_of_front ha nofun
  have hleft : ¬(Config.bootHeaderBytes + s.store.boot.length - s.store.boot.offset < 5 ∨
      Config.bootHeaderBytes + s.store.boot.length - s.store.boot.offset < 5 + len) := by
    simp only [Config.bootHeaderBytes]
    omega
  simp only [State.bootEntryRead, he, State.popAccess_of_front ha, ha, List.head?_cons, if_true, hhead, hlen, hdata]
  exact if_neg hleft

theorem State.bootEntryRead_of_skip
    (hv : s.entryVerdict (head.getD 0 0) (head.getD 1 0) (head.getD 2 0) data = .skip) :
    s.bootEntryRead true =
      s.withStore (s.store.afterEntry rest len (some (s.store.boot.failed.getD s.store.boot.index))) := by
  rw [State.bootEntryRead_within ha hhead hlen hdata hin,
    State.applyEntry_of_skip ((s.entryVerdict_withStore _ _ _ _ _).trans hv), State.setBoot_fail_entryTaken,
    State.continueBoot_entryTaken]

theorem State.bootEntryRead_of_due {d : TableLoad}
    (hv : s.entryVerdict (head.getD 0 0) (head.getD 1 0) (head.getD 2 0) data = .due d) :
    s.bootEntryRead true = { s with store := { s.store with
      access := rest
      boot := { s.store.boot with
        offset := s.store.boot.offset + 5 + len, index := s.store.boot.index + 1, due := some d } } } := by
  rw [State.bootEntryRead_within ha hhead hlen hdata hin,
    State.applyEntry_of_due ((s.entryVerdict_withStore _ _ _ _ _).trans hv)]
  rfl

theorem State.bootEntryRead_of_layout {d : TableLoad} (hl : d.table.isLayout = true)
    (hv : s.entryVerdict (head.getD 0 0) (head.getD 1 0) (head.getD 2 0) data = .layout d) :
    s.bootEntryRead true = { s with
      store := s.store.afterEntry rest len s.store.boot.failed
      layouts.slots := s.layouts.slots.set d.slot ((s.layouts.slots.get d.slot).withTable d) } := by
  have hwrite := State.continueBoot_entryTaken (s.writeLayout d) s.store rest len s.store.boot.failed
  rw [State.writeLayout_of_isLayout _ hl] at hwrite
  rw [State.bootEntryRead_within ha hhead hlen hdata hin,
    State.applyEntry_of_layout ((s.entryVerdict_withStore _ _ _ _ _).trans hv), State.writeLayout_of_isLayout _ hl]
  exact hwrite

theorem State.bootEntryRead_of_bindings
    (hv : s.entryVerdict (head.getD 0 0) (head.getD 1 0) (head.getD 2 0) data = .bindings) :
    s.bootEntryRead true = (s.applyBindings data).2.withStore (s.store.afterEntry rest len
      (if (s.applyBindings data).1 = true then s.store.boot.failed
        else some (s.store.boot.failed.getD s.store.boot.index))) := by
  rw [State.bootEntryRead_within ha hhead hlen hdata hin,
    State.applyEntry_of_bindings ((s.entryVerdict_withStore _ _ _ _ _).trans hv), State.applyBindings_withStore]
  split
  · exact State.continueBoot_entryTaken _ _ _ _ _
  · rw [State.setBoot_fail_entryTaken, State.continueBoot_entryTaken]

end within

/-! ## An entry past the image (R172, R174) -/

/-- An entry that runs past the image's length fails and ends boot. -/
theorem State.bootEntryRead_past {rest : List Access} (ha : s.store.access = .bootEntry :: rest) {answered : Bool}
    (h : 12 + s.store.boot.length - s.store.boot.offset < 5 + u16At (s.readStore answered s.store.boot.offset 5) 3) :
    s.bootEntryRead answered = { s with store := { s.store with
      access := rest
      boot := { s.store.boot with
        status := .contentFail, failed := some (s.store.boot.failed.getD s.store.boot.index), due := none } } } := by
  have he : s.endLateWrites = s := State.endLateWrites_of_front ha nofun
  simp only [State.bootEntryRead, he, State.popAccess_of_front ha, ha, List.head?_cons, if_true]
  exact if_pos (Or.inr h)

/-- A memory that does not answer gives an entry the greatest length there is. -/
theorem State.u16At_readStore_unanswered (s : State) (offset : Nat) : u16At (s.readStore false offset 5) 3 = 65535 :=
  show u16At (List.replicate 5 0xFF) 3 = 65535 by decide

/-- Settles O41. -/
theorem bootEntriesAreApplied : Obligations.BootEntriesAreApplied := by
  intro s rest head data len failing ha hhead hlen hdata hfail
  have hdlen : data.length = len := by rw [hdata, Memory.readBytes_length]
  subst hfail
  refine ⟨fun hin hcode => ⟨fun d hd hlimit hcheck => ⟨fun hl => ?due, fun ht hb hu => ?tileMap,
    fun ht hb hu => ?warpGrid⟩, fun hbad => ?skip⟩, fun hin hcode => ⟨fun h4 => ?bindingsLength,
    fun h4 s1 s2 s3 s4 h1 h2 h3 h4' => ?bindings⟩, fun answered h => ?past⟩
  case due =>
    exact congrArg Host.Outcome.next (State.bootEntryRead_of_due ha hhead.symm hlen.symm hdata.symm hin
      (State.entryVerdict_sound_due hcode hd (hdlen.trans_le hlimit) hcheck hl))
  case tileMap =>
    have hl : d.table.isLayout = true := by rw [ht]; rfl
    have e := State.bootEntryRead_of_layout (d := { d with content := data }) ha hhead.symm hlen.symm hdata.symm hin hl
      (State.entryVerdict_sound_layout hcode hd (hdlen.trans_le hlimit) hcheck hl hb hu)
    rw [LayoutSlot.withTable_of_tileMap (d := { d with content := data }) ht] at e
    exact congrArg Host.Outcome.next e
  case warpGrid =>
    have hl : d.table.isLayout = true := by rw [ht]; rfl
    have e := State.bootEntryRead_of_layout (d := { d with content := data }) ha hhead.symm hlen.symm hdata.symm hin hl
      (State.entryVerdict_sound_layout hcode hd (hdlen.trans_le hlimit) hcheck hl hb hu)
    rw [LayoutSlot.withTable_of_warpGrid (d := { d with content := data }) ht] at e
    exact congrArg Host.Outcome.next e
  case skip =>
    refine congrArg Host.Outcome.next (State.bootEntryRead_of_skip ha hhead.symm hlen.symm hdata.symm hin ?_)
    rcases hbad with hnone | ⟨d, hd, hbad⟩
    · exact State.entryVerdict_no_dest hcode hnone
    · exact State.entryVerdict_refused hcode hd (hdlen.symm ▸ hbad)
  case bindingsLength =>
    exact congrArg Host.Outcome.next (State.bootEntryRead_of_skip ha hhead.symm hlen.symm hdata.symm hin
      (State.entryVerdict_bindings_length hcode (hdlen ▸ h4)))
  case bindings =>
    obtain ⟨hmodes, hdone⟩ := State.applyBindings_of_execs rfl rfl rfl h1 h2 h3 h4'
    have e := State.bootEntryRead_of_bindings ha hhead.symm hlen.symm hdata.symm hin
      (State.entryVerdict_bindings hcode (hdlen.trans h4))
    rw [hmodes, if_congr hdone rfl rfl] at e
    exact congrArg Host.Outcome.next e
  case past =>
    refine congrArg Host.Outcome.next (State.bootEntryRead_past ha ?_)
    rcases h with ⟨rfl, hstart, hpast⟩ | ⟨rfl, hstart, hlength⟩
    · have hread : u16At (s.readStore true s.store.boot.offset 5) 3 = len := by rw [hlen, hhead]; rfl
      omega
    · have hread := s.u16At_readStore_unanswered s.store.boot.offset
      omega

end Sys2Proof.Machine
end

section
/-! PROOF. The step on a queue that holds a command (O1); on an empty queue it is `step_of_nothing_pending`. -/

namespace Sys2Proof.Machine

theorem step_of_pending_cons {s : State} {c : Instr} {rest : List Instr} (h : s.pending = c :: rest) :
    step s = exec c { s with pending := rest } := by
  rw [step, h]

/-- Settles O1: the command written in front of the queue is the one the step finds there. -/
theorem stepRunsTheFrontCommand : Obligations.StepRunsTheFrontCommand := fun _ _ _ =>
  step_of_pending_cons rfl

end Sys2Proof.Machine
end
